-- ==== Sys2Proof/Word.lean ====
section
/-! DEFINITION. The words of the TC24: a byte, a set of event kinds and a set of stations, as the byte formats of
spec/11 give them (R176, "Conventions"). Powers, counts and numbers are plain natural numbers. -/

namespace Sys2Proof

/-- A byte of a frame, of the start image or of a converter frame. -/
abbrev Byte := BitVec 8

/-- A set of event kinds: bit `n` stands for event kind `n` (spec/11, Conventions). -/
abbrev EventSet := BitVec 16

/-- A set of stations: bit `s - 1` stands for station `s` (spec/11, Conventions). -/
abbrev StationSet := BitVec 16

end Sys2Proof
end

