-- ==== Sys2Proof/Syntax.lean ====
section
/-! DEFINITION. The commands of the TC24: one constructor for each row of spec/opcode_table.json, with what the
outside world brings with it (pins, bytes, line levels, an argument, the record or tenant concerned). The table gives
the rows no fields; the operands are read from the rules named at each constructor. -/

namespace Sys2Proof

/-- A command: something arriving from outside the station, a timer running out, or one of the station's own events
coming about. -/
inductive Instr where
  /-- POWER_ON_RESET (R170): the supply rises or RESET_N goes low. -/
  | powerOnReset
  /-- HOLD_END (R170): the hold ends with the strap pins STN[3:0] at `straps`. -/
  | holdEnd (straps : BitVec 4)
  /-- IMAGE_READ_COMPLETE (R171, R172): the read ends; `image` is what the serial memory holds from address 0. -/
  | imageReadComplete (image : List Byte)
  /-- TICK (R1): the 100 ms tick timer expires. -/
  | tick
  /-- CAPTURE_COMPLETION (R3): the last byte of the frame being read is in; `frame` is what the converter sent. -/
  | captureCompletion (frame : List Byte)
  /-- OUTLET_UNMEASURED (R6): the rejection of the frame being read that brings the missed counts from 4 to 5. -/
  | outletUnmeasured
  /-- STATION_LATE (R52): the roster record of `station` goes LATE. -/
  | stationLate (station : Nat)
  /-- STATION_EXPIRY (R53): the roster record of `station` expires. -/
  | stationExpiry (station : Nat)
  /-- PERIOD_CLOSE (R8): the tick count has reached `period_ticks`. -/
  | periodClose
  /-- GRACE_EXPIRY (R98): the period close at which the grace counter of `tenant` reaches 0. -/
  | graceExpiry (tenant : Nat)
  /-- SETTLE_EXPIRY (R101): the period close that finds the settle counter of `tenant` at 0. -/
  | settleExpiry (tenant : Nat)
  /-- RESTORE_COUNTER_EXPIRY (R103): the period close at which the restore counter of `tenant` reaches 0. -/
  | restoreCounterExpiry (tenant : Nat)
  /-- CHECK_COUNTDOWN_EXPIRY (R43): the period close at which the check countdown reaches 0. -/
  | checkCountdownExpiry
  /-- CHARACTER (R18): a start edge and the eleven levels read at the middles of the bits; bit 0 is the start bit,
  bits 1 to 8 the data, bit 9 the parity, bit 10 the stop bit; a set bit is recessive. -/
  | character (levels : BitVec 11)
  /-- SEARCH_ON_CHARACTER_ERRORS (R48): the character that is the sixteenth error of a period without a frame. -/
  | searchOnCharacterErrors (levels : BitVec 11)
  /-- ASSEMBLER_ARMED (R20): the quiet time reaches 3 bit times. -/
  | assemblerArmed
  /-- GAP_ERROR (R22): the line has been recessive for more than 2 bit times inside a frame. -/
  | gapError
  /-- FRAME_COMPLETION (R24): check A's stop bit ends. -/
  | frameCompletion
  /-- QUERY_STATUS (R163) with the argument bytes `arg`. -/
  | queryStatus (arg : List Byte)
  /-- QUERY_OUTLET (R164) with the argument bytes `arg`. -/
  | queryOutlet (arg : List Byte)
  /-- LOCK_OFF (R139, R165) with the argument bytes `arg`. -/
  | lockOff (arg : List Byte)
  /-- UNLOCK (R139, R165) with the argument bytes `arg`. -/
  | unlock (arg : List Byte)
  /-- CLEAR_FAULT (R141, R165) with the argument bytes `arg`. -/
  | clearFault (arg : List Byte)
  /-- ACK_EVENTS (R151, R166) with the argument bytes `arg`. -/
  | ackEvents (arg : List Byte)
  /-- END_ALERT (R152, R166) with the argument bytes `arg`. -/
  | endAlert (arg : List Byte)
  /-- FETCH_RECORD (R157, R167) with the argument bytes `arg`. -/
  | fetchRecord (arg : List Byte)
  /-- RESTART (R168) with the argument bytes `arg`. -/
  | restart (arg : List Byte)
  /-- INVALID_COMMAND (R162): a command whose code is none of the nine. -/
  | invalidCommand (code : Byte) (arg : List Byte)
  /-- ATTEMPT_START (R29): the quiet time reaches the candidate's start threshold. -/
  | attemptStart
  /-- YIELD (R30): the frame's bit number `bit`, counted from 0 at the first start bit, was sent recessive and reads
  dominant. -/
  | yieldLine (bit : Nat)
  /-- TRANSMIT_FAULT (R31): the frame's bit number `bit` was sent dominant and reads recessive. -/
  | transmitFault (bit : Nat)
  /-- TX_FAULT_LIMIT (R44): the transmit fault at bit number `bit` that brings the consecutive count to 3. -/
  | txFaultLimit (bit : Nat)
  /-- TRANSMIT_SUCCESS (R32): every bit of the frame matched its readback. -/
  | transmitSuccess
  /-- DWELL_EXPIRY (R40): the dwell timer runs out. -/
  | dwellExpiry
  /-- PULSE_END (R135): the pulse time expires. -/
  | pulseEnd
  /-- SETTLE_END (R136, R137): the 20 ms settle expires. -/
  | settleEnd
  /-- OPEN_VERIFY (R138): the verify sample has arrived. -/
  | openVerify
  /-- GAP_EXPIRY (R153): the end-alert gap timer runs out. -/
  | gapExpiry
  /-- RESTART_RESET (R168, R175): the restart reset begins with the strap pins at `straps`. -/
  | restartReset (straps : BitVec 4)
deriving DecidableEq, Repr

end Sys2Proof
end

