-- ==== Sys2Proof/Decode.lean ====
section
/-! DEFINITION. The decoder of the command words. spec/opcode_table.json gives no row any bits ("fields" is empty in
every row), so no word spells a command and the decoder answers none for every word. The byte formats of the link
frames, which do carry commands, are in Machine/Operands.lean and Machine/Formats.lean. -/

namespace Sys2Proof

/-- The command a word spells by the table's bits: none, since no row of the table has bits. -/
def decodeTableWord (_nbits _w : Nat) : Option Instr := none

end Sys2Proof
end

