-- ==== Sys2Proof/Config.lean ====
section
/-! DEFINITION. The fixed numbers of the TC24, each with the rule of spec/ that gives it. None of them is an
implementation's choice. The spec leaves no result of a command open, so there is no free value here. -/

namespace Sys2Proof.Config

/-- The largest sample in dW: larger raw values are clamped to it (R4). -/
def sampleLimit : Nat := 40000

/-- The missed count at which an outlet becomes UNMEASURED, and its upper limit (R5, R6). -/
def missedLimit : Nat := 5

/-- The largest held contribution in dW (R64). -/
def valueLimit : Nat := 960000

/-- The capacity of the Contribution Table (R62). -/
def tableLimit : Nat := 128

/-- The capacity of the Record Queue (R156). -/
def recordLimit : Nat := 16

/-- The capacity of the tenant table (spec/05, "The tenant table"). -/
def tenantLimit : Nat := 24

/-- The saturation limit of the quiet time in bit times (R19). -/
def quietLimit : Nat := 255

/-- The bit times of quiet that arm the frame assembler (R20). -/
def armQuiet : Nat := 3

/-- The recessive bit times after a stop bit at whose end a gap error is found (R22). -/
def gapQuiet : Nat := 3

/-- The idle interval in bit times (R29). -/
def idleInterval : Nat := 14

/-- One access slot in bit times (R29). -/
def accessSlot : Nat := 16

/-- The largest payload of a frame (spec/02, "Frames"; R23). -/
def payloadLimit : Nat := 200

/-- The SYNC character (spec/02, "Frames"). -/
def sync : Byte := 0xC5

/-- The saturation limit of the character-error count (R48). -/
def charErrorLimit : Nat := 255

/-- The character-error count that takes ALONE to SEARCH (R48). -/
def searchErrors : Nat := 16

/-- The consecutive transmit-fault count that takes the link state to MUTED (R44). -/
def faultLimit : Nat := 3

/-- Own periods between two line checks in MUTED (R43, R45). -/
def checkSpacing : Nat := 64

/-- One dwell of the rate search in milliseconds (R39). -/
def dwellTime : Nat := 6000

/-- The saturation limit of a roster record's age (R52). -/
def ageLimit : Nat := 65535

/-- The bytes of a converter frame (spec/11, "Converter frame"). -/
def converterFrameBytes : Nat := 20

/-- The bytes of the start image that are read before the first check of R171: header, parameters, tenant count. -/
def imagePrefix : Nat := 20

/-- The instruction the memory port sends: read, from address 0 in two bytes (R171). -/
def memoryInstruction : List Byte := [0x03, 0x00, 0x00]

/-- The bytes of the start image before its first tenant record (spec/11, "Start image"). -/
def imageHead : Nat := 92

/-- The bytes of one tenant record of the start image (spec/11, "Start image"). -/
def imageTenant : Nat := 11

end Sys2Proof.Config
end

