-- ==== Sys2Proof/Machine/State.lean ====
section
/-! DEFINITION. The state of one TC24 station: one structure for each of the twelve blocks of spec/00 ("Blocks and how
they work together"), the queue of waiting commands, and the state a power-on reset leaves. Where a field's reset
value is the model's and not the spec's, the comment names the log entry. -/

namespace Sys2Proof.Machine

/-! ## Outlet Meter and Time Base (spec/01) -/

/-- The Outlet Meter's record of one outlet (spec/01, "Measurement state"). -/
structure MeterOutlet where
  /-- The latest accepted sample in dW, after clamping (R4). -/
  held : Nat
  /-- The sum of the held samples of the ticks completed in this period (R7). -/
  accumulator : Nat
  /-- Consecutive missed ticks, 0 to 5 (R5). -/
  missed : Nat
  /-- The UNMEASURED condition (R6). -/
  unmeasured : Bool
  /-- The mean held sample over the last completed period (R8, R9). -/
  average : Nat
deriving DecidableEq, Repr

/-- The values of R12. -/
def MeterOutlet.blank : MeterOutlet := ⟨0, 0, 0, false, 0⟩

/-- The capture record of one metering converter (spec/01, "Measurement state"). -/
structure Converter where
  /-- The frame last read from the converter; `none` is the empty or dropped buffer (R2, R5, R12). -/
  buffer : Option (List Byte)
  /-- The conversion sequence of the last accepted frame, if there is one (R4). -/
  lastSequence : Option Byte
deriving DecidableEq, Repr

/-- The values of R12. -/
def Converter.blank : Converter := ⟨none, none⟩

/-- The Outlet Meter. Outlet `n` is element `n - 1`, converter `c` is element `c - 1`. -/
structure Meter where
  outlets : List MeterOutlet
  converters : List Converter
  /-- The converter whose frame is being read, while a read cycle is in hand (R2). Its select is asserted. -/
  reading : Option Nat
deriving DecidableEq, Repr

/-- The Outlet Meter after a reset (R12). -/
def Meter.reset : Meter := ⟨List.replicate 24 MeterOutlet.blank, List.replicate 3 Converter.blank, none⟩

/-- The Time Base (spec/01). -/
structure TimeBase where
  /-- The tick timer runs (R1, R12). -/
  running : Bool
  /-- Ticks completed in this period. It stands at `period_ticks` from a period's last tick completion until the
  period close that comes with it (R8). -/
  tickCount : Nat
  /-- Completed periods modulo 2^32 (R10). -/
  periodNumber : BitVec 32
deriving DecidableEq, Repr

/-- The Time Base after a reset (R12). -/
def TimeBase.reset : TimeBase := ⟨false, 0, 0⟩

/-! ## Link Transceiver (spec/02) -/

/-- The three states of the frame assembler (R20); in IN_FRAME with the characters taken after SYNC. -/
inductive Assembler where
  | waitQuiet
  | armed
  | inFrame (bytes : List Byte)
deriving DecidableEq, Repr

/-- What the transmit engine can send (R28). -/
inductive SendKind where
  | lineCheck
  | response
  | report
deriving DecidableEq, Repr

/-- The result codes of a RESPONSE (R162). -/
inductive Result where
  | done
  | accepted
  | badArgument
  | protectedOutlet
  | notStuck
  | empty
  | invalid
deriving DecidableEq, Repr

/-- The RESPONSE held by a FULL response slot (R33, R162). -/
structure Response where
  /-- The command code echoed. -/
  code : Byte
  result : Result
  /-- The data bytes that follow the result code (spec/11, "RESPONSE payload"). -/
  data : List Byte
  /-- The frame's attempt count modulo 16 (R29). -/
  attempt : Nat
deriving DecidableEq, Repr

/-- One entry of a report snapshot (spec/04, "What a station reports"). -/
structure ReportEntry where
  tenant : Nat
  value : Nat
  shed : Bool
  unmeasured : Bool
deriving DecidableEq, Repr

/-- The contents of a report buffer (spec/02, "The report buffers"). -/
structure Snapshot where
  periodTicks : Nat
  entries : List ReportEntry
deriving DecidableEq, Repr

/-- A SEND buffer that holds an unfinished frame, with its attempt count modulo 16 (R35). -/
structure SendFrame where
  snapshot : Snapshot
  attempt : Nat
deriving DecidableEq, Repr

/-- The Link Transceiver (spec/02). -/
structure Transceiver where
  /-- The frame assembler (R20). -/
  assembler : Assembler
  /-- The levels already read of a character that the station began as its own and, having yielded, goes on receiving,
  the start bit first; empty between characters (R18, R26, log entry 24). -/
  inCharacter : List Bool
  /-- The quiet time in bit times, saturating at 255 (R19). -/
  quiet : Nat
  /-- The recessive bit times since the last stop bit inside a frame (R22). -/
  gap : Nat
  /-- The frame the transmit engine is driving. The receiver's own mark stands while there is one (R26). -/
  sending : Option SendKind
  /-- The response slot: `none` is EMPTY (R33). -/
  slot : Option Response
  /-- The FILL buffer (R34). -/
  fill : Option Snapshot
  /-- The READY buffer (R34). -/
  ready : Option Snapshot
  /-- READY's new mark (R34, R35). -/
  readyNew : Bool
  /-- The SEND buffer: `none` is empty (R35). -/
  send : Option SendFrame
deriving DecidableEq, Repr

/-- The Link Transceiver after a reset (R37). The gap time is the model's own start value (log entry 3). -/
def Transceiver.reset : Transceiver := ⟨.waitQuiet, [], 0, 0, none, none, none, none, false, none⟩

/-! ## Link Monitor and Station Roster (spec/03) -/

/-- The six link states (spec/03, "Link Monitor state"). -/
inductive LinkState where
  | linkOff
  | search
  | alone
  | joined
  | muted
  | duplicate
deriving DecidableEq, Repr

/-- The four link rates (R16). -/
inductive Rate where
  | kbit125
  | kbit250
  | kbit500
  | kbit1000
deriving DecidableEq, Repr

/-- The kinds of an outstanding line check (spec/03, "Link Monitor state"). -/
inductive CheckKind where
  | entry
  | periodic
deriving DecidableEq, Repr

/-- A line check placed and not yet ended: the Link Monitor's outstanding kind and the transceiver's request with its
attempt count modulo 16 (R28, R42). -/
structure LineCheck where
  kind : CheckKind
  attempt : Nat
deriving DecidableEq, Repr

/-- The Link Monitor (spec/03). -/
structure Monitor where
  link : LinkState
  /-- The rate given to the transceiver (R16, R39). -/
  rate : Option Rate
  /-- Which dwell of the sweep is running, 1 to 4 (R39, R40). -/
  searchPosition : Nat
  /-- The dwell timer: the length it was started at in milliseconds while it runs (R39, log entry 4). -/
  dwell : Option Nat
  /-- Consecutive transmit faults, 0 to 3 (R44). -/
  faults : Nat
  /-- Character errors of this period, saturating at 255 (R48). -/
  charErrors : Nat
  /-- A valid frame was heard in this period (R48). -/
  heard : Bool
  /-- The line check outstanding (R42, R43). -/
  check : Option LineCheck
  /-- Own periods left before the next line check in MUTED, 0 to 64 (R43). -/
  countdown : Nat
deriving DecidableEq, Repr

/-- The Link Monitor after a reset (R38). -/
def Monitor.reset : Monitor := ⟨.linkOff, none, 1, none, 0, 0, false, none, 0⟩

/-- The states of a roster record (spec/03, "The Station Roster"). -/
inductive RosterState where
  | absent
  | live
  | late
deriving DecidableEq, Repr

/-- One record of the Station Roster. -/
structure RosterRecord where
  state : RosterState
  /-- Ticks since the last taken report, saturating at 65,535 (R52). -/
  age : Nat
  /-- The period the station last reported, in ticks (R51). -/
  period : Nat
deriving DecidableEq, Repr

/-- The values of R50 and of an expiry (R53). -/
def RosterRecord.blank : RosterRecord := ⟨.absent, 0, 0⟩

/-! ## Contribution Table (spec/04) -/

/-- One entry of the Contribution Table (spec/04, "The Contribution Table"). -/
structure Entry where
  source : Nat
  tenant : Nat
  value : Nat
  shed : Bool
  unmeasured : Bool
  /-- The unexpected mark (R65). -/
  unexpected : Bool
deriving DecidableEq, Repr

/-! ## Draw Reconciler (spec/05, spec/06) -/

/-- View quality (R84 to R86). -/
inductive View where
  | complete
  | partialView
  | isolated
deriving DecidableEq, Repr

/-- The five standings (spec/06). -/
inductive Standing where
  | clear
  | watch
  | excess
  | curtail
  | recover
deriving DecidableEq, Repr

/-- One record of the tenant table (spec/05, "The tenant table"). -/
structure Tenant where
  id : Nat
  /-- The contract in contract units of 10 W. -/
  units : Nat
  /-- Warn fraction in sixteenths. -/
  w : Nat
  /-- Burst multiple in sixteenths. -/
  b : Nat
  /-- Release margin in sixty-fourths. -/
  h : Nat
  /-- Grace G in periods. -/
  graceSetting : Nat
  enforce : Bool
  /-- The expected-host mask as the image gives it (R74). -/
  expected : StationSet
  /-- C, the contract in dW (R76). -/
  contract : Nat
  /-- W, the warn level in dW (R76). -/
  warn : Nat
  /-- B, the burst level in dW (R76). -/
  burst : Nat
  /-- Rel, the release level in dW (R76). -/
  release : Nat
  /-- L, the local subtotal of the last close (R78). -/
  subtotal : Nat
  /-- D, the cage draw of the last close (R79). -/
  draw : Nat
  /-- M, the demand of the last close (R80, R81). -/
  demand : Nat
  view : View
  /-- The overflow mask (R62). -/
  overflow : StationSet
  standing : Standing
  /-- The grace counter (R98). -/
  grace : Nat
  /-- The settle counter (R101). -/
  settle : Nat
  /-- The restore counter (R103). -/
  restore : Nat
deriving DecidableEq, Repr

/-- The tenant table and the two values that govern warm-up (R82). -/
structure Reconciler where
  tenants : List Tenant
  /-- Warm-up closes still to come. -/
  warmup : Nat
  /-- The next close after warm-up is still to seed M from D. -/
  seedDue : Bool
deriving DecidableEq, Repr

/-- The Draw Reconciler after a reset (R75). -/
def Reconciler.reset : Reconciler := ⟨[], 0, false⟩

/-- What a close does next for the tenant it has come to (spec/06, R110; log entry 26). -/
inductive CloseStage where
  /-- Its figures, its view, and the beginning of an excursion (R77 to R87, R107). -/
  | figures
  /-- Its standing, with the round or the restore step that calls for (R91, R96 to R105). -/
  | standing
  /-- The end of its excursion after a restore step, where that has left no outlet shed (R104). -/
  | departure
deriving DecidableEq, Repr

/-- The rest of a close whose work is in hand: the tenants still to be worked, in table order, and what comes next for the
first of them. With no tenant left, the end of the close comes next (R77, R110; log entry 26). -/
structure CloseWork where
  stage : CloseStage
  left : List Nat
deriving DecidableEq, Repr

/-! ## Relay Driver (spec/08) -/

/-- The eight relay states (spec/08, "The outlet switching record"). -/
inductive RelayState where
  | unknown
  | on
  | off
  | openPending
  | opening
  | closePending
  | closing
  | stuck
deriving DecidableEq, Repr

/-- One outlet switching record. An outlet without a record holds the values of `RelayOutlet.blank`. -/
structure RelayOutlet where
  tenant : Nat
  /-- The class, 0 is protected. -/
  cls : Nat
  relay : RelayState
  lock : Bool
  /-- The power at shed while the shed flag is set; `none` is a clear shed flag (R117, R126). -/
  shed : Option Nat
deriving DecidableEq, Repr

/-- The values of R142. Tenant id and class stand at 0 until an image installs them (log entry 1). -/
def RelayOutlet.blank : RelayOutlet := ⟨0, 0, .unknown, false, none⟩

/-- The direction of a coil job. -/
inductive JobDir where
  | toOpen
  | toClose
deriving DecidableEq, Repr

/-- The origin of a coil job (R130, R143). -/
inductive JobOrigin where
  | change
  | start
deriving DecidableEq, Repr

/-- A coil job (R134). -/
structure Job where
  outlet : Nat
  dir : JobDir
  origin : JobOrigin
deriving DecidableEq, Repr

/-- The stages of the job the coil holds (R135, R137). In the verify stage, the verify sample once it has arrived. -/
inductive CoilStage where
  | pulse
  | settle
  | verify (sample : Option Nat)
deriving DecidableEq, Repr

/-- The job the coil holds and its stage. -/
structure CoilJob where
  job : Job
  stage : CoilStage
deriving DecidableEq, Repr

/-- The Relay Driver. Outlet `n` is element `n - 1`. -/
structure RelayDriver where
  outlets : List RelayOutlet
  /-- The relay job queue, oldest first (R134). -/
  queue : List Job
  /-- The coil: `none` is free (R135). -/
  coil : Option CoilJob
deriving DecidableEq, Repr

/-- The Relay Driver after a power-on reset (R142). -/
def RelayDriver.reset : RelayDriver := ⟨List.replicate 24 RelayOutlet.blank, [], none⟩

/-! ## Alert Unit and Record Queue (spec/09) -/

/-- The sixteen event kinds (spec/09, "The sixteen event kinds"). -/
inductive EventKind where
  | excess
  | curtail
  | restored
  | unresolved
  | viewDegraded
  | unexpectedHost
  | tableFull
  | duplicate
  | txFault
  | linkAlone
  | relayFault
  | sampleFault
  | recordLost
  | commandOverrun
  | reportSuperseded
  | imageFault
deriving DecidableEq, Repr

/-- The Alert Unit. -/
structure AlertUnit where
  /-- The sixteen latches (R147). -/
  latches : EventSet
  /-- The mask: a set place keeps its kind from driving ALERT_N (R149). -/
  mask : EventSet
  /-- The pin ALERT_N is driven low (R150). -/
  low : Bool
  /-- The end-alert gap timer: the length it was started at in milliseconds while it runs (R152, log entry 4). -/
  gap : Option Nat
deriving DecidableEq, Repr

/-- The Alert Unit after a reset (R148, R149, R154). -/
def AlertUnit.reset : AlertUnit := ⟨0, BitVec.allOnes 16, false, none⟩

/-- The kinds of excursion record (R155). -/
inductive RecordKind where
  | excessBegin
  | excessEnd
  | shed
  | unresolved
  | restore
deriving DecidableEq, Repr

/-- An excursion record (R155). -/
structure ExcursionRecord where
  kind : RecordKind
  tenant : Nat
  periodNumber : BitVec 32
  draw : Nat
  demand : Nat
  contract : Nat
  share : Nat
  outlets : List Nat
deriving DecidableEq, Repr

/-! ## Command Handler and Image Loader (spec/10, spec/11) -/

/-- The load state (spec/11, "The Image Loader"). -/
inductive LoadState where
  | held
  | reading
  | installed
  | rejected
deriving DecidableEq, Repr

/-- The station parameters of the installed image, after clamping (R173). -/
structure Params where
  revision : BitVec 16
  converterCount : Nat
  periodTicks : Nat
  k : Nat
  stale : Nat
  expire : Nat
  settle : Nat
  spacing : Nat
  rateCode : Nat
  alertMask : EventSet
  gapSelect : Nat
  pulseCode : Nat
  offThreshold : Nat
deriving DecidableEq, Repr

/-- The parameters while no image is installed (log entry 1). -/
def Params.blank : Params := ⟨0, 0, 0, 0, 0, 0, 0, 0, 0, 0, 0, 0, 0⟩

/-- The Image Loader, with the station number it samples and the parameters it installs. -/
structure Loader where
  load : LoadState
  /-- The read in hand follows a restart reset and not a power-on reset (R174, R175). -/
  afterRestart : Bool
  /-- The station number, 1 to 16, as last sampled (R170; before the first sample, log entry 1). -/
  station : Nat
  params : Params
deriving DecidableEq, Repr

/-- The Image Loader after a power-on reset (R170). -/
def Loader.reset : Loader := ⟨.held, false, 1, Params.blank⟩

/-! ## The station -/

/-- The state of one station. -/
structure State where
  meter : Meter
  time : TimeBase
  link : Transceiver
  monitor : Monitor
  /-- The Station Roster; the record of station `n` is element `n - 1`. -/
  roster : List RosterRecord
  /-- The Contribution Table, kept with sources and then tenants rising (R62, log entry 5). -/
  table : List Entry
  recon : Reconciler
  relay : RelayDriver
  alert : AlertUnit
  /-- The Record Queue, oldest first (R156). -/
  records : List ExcursionRecord
  /-- What the Draw Reconciler still has to do of a period close that it has begun; `none` where no close's work is in
  hand (R77; log entry 26). -/
  closeInHand : Option CloseWork
  /-- Restart pending, the Command Handler's own state (R168). -/
  restartPending : Bool
  loader : Loader
  /-- The commands that wait, first in, first out. -/
  pending : List Instr
deriving DecidableEq, Repr

/-- The station right after a power-on reset has begun (R170): every block at its power-on values. -/
def State.reset : State where
  meter := Meter.reset
  time := TimeBase.reset
  link := Transceiver.reset
  monitor := Monitor.reset
  roster := List.replicate 16 RosterRecord.blank
  table := []
  recon := Reconciler.reset
  relay := RelayDriver.reset
  alert := AlertUnit.reset
  records := []
  closeInHand := none
  restartPending := false
  loader := Loader.reset
  pending := []

/-! ## The updates of one block -/

/-- Replace the Outlet Meter. -/
def State.withMeter (s : State) (x : Meter) : State := { s with meter := x }
/-- Replace the Time Base. -/
def State.withTime (s : State) (x : TimeBase) : State := { s with time := x }
/-- Replace the Link Transceiver. -/
def State.withLink (s : State) (x : Transceiver) : State := { s with link := x }
/-- Replace the Link Monitor. -/
def State.withMonitor (s : State) (x : Monitor) : State := { s with monitor := x }
/-- Replace the Station Roster. -/
def State.withRoster (s : State) (x : List RosterRecord) : State := { s with roster := x }
/-- Replace the Contribution Table. -/
def State.withTable (s : State) (x : List Entry) : State := { s with table := x }
/-- Replace the Draw Reconciler. -/
def State.withRecon (s : State) (x : Reconciler) : State := { s with recon := x }
/-- Replace the Relay Driver. -/
def State.withRelay (s : State) (x : RelayDriver) : State := { s with relay := x }
/-- Replace the Alert Unit. -/
def State.withAlert (s : State) (x : AlertUnit) : State := { s with alert := x }
/-- Replace the Record Queue. -/
def State.withRecords (s : State) (x : List ExcursionRecord) : State := { s with records := x }
/-- Replace what is still to be done of a close in hand. -/
def State.withCloseInHand (s : State) (x : Option CloseWork) : State := { s with closeInHand := x }
/-- Set restart pending. -/
def State.withRestartPending (s : State) (x : Bool) : State := { s with restartPending := x }
/-- Replace the Image Loader. -/
def State.withLoader (s : State) (x : Loader) : State := { s with loader := x }
/-- Replace the queue of waiting commands. -/
def State.withPending (s : State) (x : List Instr) : State := { s with pending := x }

/-! ## Why a step can stop -/

/-- The reasons the machine stops with a fault. There is none: the spec gives every command an effect in every state,
so this type has no constructor. -/
inductive Fault where
deriving DecidableEq, Repr

/-- The reasons a command has no meaning. -/
inductive Refusal where
  /-- Raised by an arm of exec whose command has no meaning yet; no arm of this model raises it. Safe: the machine
  stops where the hardware goes on. -/
  | notModelled (mnemonic : String)
deriving DecidableEq, Repr

end Sys2Proof.Machine
end

