-- ==== Sys2Proof/Machine/Bytes.lean ====
section
/-! DEFINITION. Bytes, bits and the check word: the conventions of spec/11 (R176) and the computation that link frames,
converter frames and the start image share (R3, R24, R172). -/

namespace Sys2Proof.Machine

/-- The low byte of a number. -/
def toByte (n : Nat) : Byte := BitVec.ofNat 8 n

/-- `v` in `n` bytes, least significant byte first (R176). -/
def leBytes : Nat → Nat → List Byte
  | 0, _ => []
  | n + 1, v => toByte v :: leBytes n (v / 256)

/-- The number some bytes stand for, least significant byte first (R176). -/
def leNat : List Byte → Nat
  | [] => 0
  | b :: bs => b.toNat + 256 * leNat bs

/-- A byte of what a converter or the serial memory sends. Where nothing answers, the serial input is at its high level
and the byte reads as 0xFF (R2, R171). -/
def serialByte (bytes : List Byte) (i : Nat) : Byte := bytes.getD i 0xFF

/-- The `n` bytes that the serial input gives from offset `i` on. -/
def serialBytes (bytes : List Byte) (i n : Nat) : List Byte := (List.range n).map fun j => serialByte bytes (i + j)

/-- One byte's step of the check word: A becomes (A + byte) mod 255, then B becomes (B + A) mod 255 (R3, R24). -/
def checkStep (ab : Nat × Nat) (x : Byte) : Nat × Nat :=
  let a := (ab.1 + x.toNat) % 255
  (a, (ab.2 + a) % 255)

/-- The pair (A, B) over some bytes, from A = 0 and B = 0 (R3, R24). -/
def checkWord (bytes : List Byte) : Nat × Nat := bytes.foldl checkStep (0, 0)

/-- The check bytes as they are sent, B and then A. -/
def checkBytes (bytes : List Byte) : List Byte := [toByte (checkWord bytes).2, toByte (checkWord bytes).1]

/-- First check byte B and second check byte A match the pair computed over `bytes` (R3, R24, R172). -/
def checkMatches (bytes : List Byte) (b a : Byte) : Bool :=
  decide (b.toNat = (checkWord bytes).2 ∧ a.toNat = (checkWord bytes).1)

/-- The number of 1 bits among the first `n` bits of a number. -/
def countOnes : Nat → Nat → Nat
  | 0, _ => 0
  | n + 1, v => v % 2 + countOnes n (v / 2)

/-- The parity bit of a byte: data and parity together hold an odd number of 1 bits (spec/02, "Characters"). -/
def parityBit (x : Byte) : Bool := countOnes 8 x.toNat % 2 == 0

/-- Bit `i` of the character that carries `x`: start, eight data bits least significant first, parity, stop. True is the
recessive level (R16, R17). -/
def characterBit (x : Byte) (i : Nat) : Bool :=
  if i = 0 then false else if i ≤ 8 then x.getLsbD (i - 1) else if i = 9 then parityBit x else true

/-- The level of bit `i` of a frame of characters sent without a gap, counted from the first start bit (R17). -/
def frameBit (frame : List Byte) (i : Nat) : Bool := characterBit (frame.getD (i / 11) 0xFF) (i % 11)

/-- The recessive bits of a frame that stand right before bit `i`, back to the last dominant one. -/
def recessiveRun (frame : List Byte) : Nat → Nat
  | 0 => 0
  | i + 1 => if frameBit frame i then recessiveRun frame i + 1 else 0

/-- The number some bits stand for, least significant bit first. -/
def bitsNat : List Bool → Nat
  | [] => 0
  | b :: bs => b.toNat + 2 * bitsNat bs

/-- Membership of station `n` in a set of stations (spec/11, Conventions). -/
def hasStation (m : StationSet) (n : Nat) : Bool := decide (1 ≤ n) && m.getLsbD (n - 1)

/-- A set of stations with station `n` added. -/
def addStation (m : StationSet) (n : Nat) : StationSet := m ||| BitVec.twoPow 16 (n - 1)

/-- A set of stations with station `n` taken out. -/
def dropStation (m : StationSet) (n : Nat) : StationSet := m &&& ~~~ BitVec.twoPow 16 (n - 1)

/-- Clamping to a range (spec/00, "Arithmetic"). -/
def clampTo (lo hi n : Nat) : Nat := min hi (max lo n)

end Sys2Proof.Machine
end

