-- ==== Sys2Proof/Machine/Operands.lean ====
section
/-! DEFINITION. What the operands of the commands say: the judgement of a character, the fields of a converter frame,
of a link frame's payload and of the start image (spec/11, "Byte formats"; R18, R59, R171 to R173). -/

namespace Sys2Proof.Machine

/-! ## Characters (R18) -/

/-- What a character proves to be. -/
inductive CharJudgement where
  /-- The start bit reads recessive: a glitch, not a character. -/
  | glitch
  /-- A framing error or a parity error. -/
  | error
  /-- A good character and its byte. -/
  | good (byte : Byte)
deriving DecidableEq, Repr

/-- The judgement of R18 on the eleven levels: start bit recessive, stop bit dominant, even parity, or good. -/
def judgeCharacter (levels : BitVec 11) : CharJudgement :=
  if levels.getLsbD 0 then .glitch
  else if !levels.getLsbD 10 then .error
  else if countOnes 9 (levels.toNat / 2) % 2 == 0 then .error
  else .good (toByte (levels.toNat / 2))

/-- The eleven levels of a character of which the first ones, `read`, have been read already: those stand, and the others
are as given (R18, log entry 24). -/
def characterLevels (read : List Bool) (levels : BitVec 11) : BitVec 11 :=
  BitVec.ofNat 11 (bitsNat read + 2 ^ read.length * (levels.toNat / 2 ^ read.length))

/-! ## Converter frames (R3, spec/11 "Converter frame") -/

/-- The 20 bytes captured from a converter (R2). -/
def capturedBytes (frame : List Byte) : List Byte := serialBytes frame 0 Config.converterFrameBytes

/-- The status shows READY: bit 0. -/
def frameReady (f : List Byte) : Bool := (serialByte f 0).getLsbD 0

/-- The status shows FAULT: bit 1. -/
def frameFault (f : List Byte) : Bool := (serialByte f 0).getLsbD 1

/-- The conversion sequence. -/
def frameSequence (f : List Byte) : Byte := serialByte f 1

/-- The raw value of channel `j`, 1 to 8. -/
def frameChannel (f : List Byte) (j : Nat) : Nat := leNat (serialBytes f (2 + 2 * (j - 1)) 2)

/-- The check word of a converter frame, over bytes 0 to 17. -/
def frameCheck (f : List Byte) : Bool := checkMatches (serialBytes f 0 18) (serialByte f 18) (serialByte f 19)

/-- The four conditions of R3, for a converter with this last accepted sequence. -/
def frameAccepted (last : Option Byte) (f : List Byte) : Bool :=
  frameCheck f && frameReady f && !frameFault f && decide (last ≠ some (frameSequence f))

/-- The sample of a channel: min(r, 40,000) (R4). -/
def sampleOf (f : List Byte) (j : Nat) : Nat := min (frameChannel f j) Config.sampleLimit

/-! ## The fields of a link frame; `b` holds the characters after SYNC (spec/11, "Link frames") -/

/-- Kind. -/
def linkKind (b : List Byte) : Nat := (b.getD 0 0).toNat

/-- Source. -/
def linkSource (b : List Byte) : Nat := (b.getD 1 0).toNat

/-- Length. -/
def linkLength (b : List Byte) : Nat := (b.getD 2 0).toNat

/-- Payload. -/
def linkPayload (b : List Byte) : List Byte := (b.drop 3).take (linkLength b)

/-- All of Kind to check A have been taken (R21). -/
def linkComplete (b : List Byte) : Bool := decide (3 ≤ b.length ∧ linkLength b + 5 ≤ b.length)

/-- The frame is valid: its check bytes equal the computed B and A over Kind to the last payload byte (R24). -/
def linkValid (b : List Byte) : Bool :=
  checkMatches (b.take (3 + linkLength b)) (b.getD (3 + linkLength b) 0) (b.getD (4 + linkLength b) 0)

/-- The early checks of R23 on the character just taken: an unknown Kind, or a Length above 200. -/
def linkDropped (b : List Byte) : Bool :=
  (decide (b.length = 1) && decide (linkKind b = 0 ∨ 4 < linkKind b)) ||
    (decide (b.length = 3) && decide (Config.payloadLimit < linkLength b))

/-! ## REPORT payloads (R57, R59, spec/11 "REPORT payload") -/

/-- One five-byte entry. -/
def parseEntry (b0 b1 b2 b3 b4 : Byte) : ReportEntry where
  tenant := b0.toNat + 256 * (b1.toNat % 16)
  value := b2.toNat + 256 * b3.toNat + 65536 * (b4.toNat % 16)
  shed := b1.getLsbD 4
  unmeasured := b1.getLsbD 5

/-- The entries, five bytes each. -/
def parseEntries : List Byte → List ReportEntry
  | b0 :: b1 :: b2 :: b3 :: b4 :: rest => parseEntry b0 b1 b2 b3 b4 :: parseEntries rest
  | _ => []

/-- The period ticks field. -/
def reportTicks (p : List Byte) : Nat := (p.getD 0 0).toNat

/-- The entry count field. -/
def reportCount (p : List Byte) : Nat := (p.getD 1 0).toNat

/-- The entries of the payload. -/
def reportEntries (p : List Byte) : List ReportEntry := parseEntries (p.drop 2)

/-- The judgement of R59 on a report from `source` at station `own`. -/
def reportMalformed (own source : Nat) (p : List Byte) : Bool :=
  decide (source = 0 ∨ 16 < source ∨ source = own) ||
  decide (p.length < 2) ||
  decide (reportTicks p = 0) ||
  decide (24 < reportCount p ∨ p.length ≠ 2 + 5 * reportCount p) ||
  (reportEntries p).any (fun e => decide (e.tenant = 0)) ||
  decide (¬ ((reportEntries p).map ReportEntry.tenant).Nodup)

/-! ## COMMAND payloads (R159, R162, spec/11 "COMMAND payload") -/

/-- The single argument byte of a command that takes one. -/
def oneByteArg : List Byte → Option Nat
  | [x] => some x.toNat
  | _ => none

/-- The set of event kinds an ACK_EVENTS argument names. -/
def twoByteSet : List Byte → Option EventSet
  | [x, y] => some (BitVec.ofNat 16 (leNat [x, y]))
  | _ => none

/-- The part a QUERY_STATUS asks for: absent or 0 is part 0, 1 is part 1 (R163). -/
def statusPart : List Byte → Option Nat
  | [] => some 0
  | [x] => if x.toNat ≤ 1 then some x.toNat else none
  | _ => none

/-! ## The start image (R171 to R173, spec/11 "Start image") -/

/-- One byte of the image as a number. -/
def imageByte (im : List Byte) (i : Nat) : Nat := (serialByte im i).toNat

/-- A two-byte field. -/
def imageWord (im : List Byte) (i : Nat) : Nat := leNat (serialBytes im i 2)

/-- The tenant count, byte 19. -/
def imageTenants (im : List Byte) : Nat := imageByte im 19

/-- The 12-bit tenant id of outlet entry `n`. -/
def imageOutletTenant (im : List Byte) (n : Nat) : Nat := imageWord im (20 + 3 * (n - 1)) % 4096

/-- The class of outlet entry `n`. -/
def imageOutletClass (im : List Byte) (n : Nat) : Nat := imageByte im (20 + 3 * (n - 1) + 2) % 16

/-- The start state of outlet entry `n` is OFF. -/
def imageOutletOff (im : List Byte) (n : Nat) : Bool := (serialByte im (20 + 3 * (n - 1) + 2)).getLsbD 7

/-- The offset of tenant record `i`. -/
def imageRecord (i : Nat) : Nat := Config.imageHead + Config.imageTenant * i

/-- The 12-bit tenant id of tenant record `i`. -/
def imageTenantId (im : List Byte) (i : Nat) : Nat := imageWord im (imageRecord i) % 4096

/-- The tenant ids of the image's records, in image order. -/
def imageTenantIds (im : List Byte) : List Nat := (List.range (imageTenants im)).map (imageTenantId im)

/-- The outlet numbers 1 to 24. -/
def outletNumbers : List Nat := (List.range 24).map (· + 1)

/-- The number of bytes the memory port reads: bytes 0 to 19, and then, unless the format mark is wrong or the tenant
count is above 24, the outlet entries, the tenant records and the two check bytes (R171). -/
def imageReadLength (im : List Byte) : Nat :=
  if imageByte im 0 = 0x7E ∧ imageByte im 1 = 0x18 ∧ imageTenants im ≤ Config.tenantLimit then
    Config.imageHead + Config.imageTenant * imageTenants im + 2
  else Config.imagePrefix

/-- The bytes the memory port clocks in from a serial memory that holds `im` (R171). -/
def imageRead (im : List Byte) : List Byte := serialBytes im 0 (imageReadLength im)

/-- The judgement of R172: the image is accepted. A read that stopped early under R171 is rejected by its own check. -/
def imageAccepted (im : List Byte) : Bool :=
  decide (imageByte im 0 = 0x7E ∧ imageByte im 1 = 0x18) &&
  decide (imageTenants im ≤ Config.tenantLimit) &&
  decide (imageWord im 4 = Config.imageHead + Config.imageTenant * imageTenants im) &&
  checkMatches (serialBytes im 0 (imageWord im 4)) (serialByte im (imageWord im 4)) (serialByte im (imageWord im 4 + 1)) &&
  decide (1 ≤ imageByte im 6 ∧ imageByte im 6 ≤ 3) &&
  !(imageTenantIds im).contains 0 &&
  decide (imageTenantIds im).Nodup &&
  outletNumbers.all (fun n =>
    decide (imageOutletTenant im n = 0) ||
      (decide (n ≤ 8 * imageByte im 6) && (imageTenantIds im).contains (imageOutletTenant im n)))

/-- The expire factor: first clamped to 3–15, then raised above the installed stale factor (R173). -/
def clampExpire (stale n : Nat) : Nat := max (clampTo 3 15 n) (stale + 1)

/-- The station parameters after clamping (R173). -/
def imageParams (im : List Byte) : Params where
  revision := BitVec.ofNat 16 (imageWord im 2)
  converterCount := imageByte im 6
  periodTicks := clampTo 5 50 (imageByte im 7)
  k := min 6 (imageByte im 8)
  stale := clampTo 2 4 (imageByte im 9)
  expire := clampExpire (clampTo 2 4 (imageByte im 9)) (imageByte im 10)
  settle := clampTo 1 15 (imageByte im 11)
  spacing := clampTo 1 15 (imageByte im 12)
  rateCode := min 3 (imageByte im 13)
  alertMask := BitVec.ofNat 16 (imageWord im 14)
  gapSelect := min 1 (imageByte im 16)
  pulseCode := clampTo 1 8 (imageByte im 17)
  offThreshold := imageByte im 18

end Sys2Proof.Machine
end

