-- ==== Sys2Proof/Machine/Flags.lean ====
section
/-! DEFINITION. The station's flags: the sixteen event latches, the mask and the ALERT_N drive (R147 to R150), and the
pins that follow from other state. -/

namespace Sys2Proof.Machine

/-- The number of an event kind (spec/09, "The sixteen event kinds"). -/
def EventKind.number : EventKind → Nat
  | .excess => 0
  | .curtail => 1
  | .restored => 2
  | .unresolved => 3
  | .viewDegraded => 4
  | .unexpectedHost => 5
  | .tableFull => 6
  | .duplicate => 7
  | .txFault => 8
  | .linkAlone => 9
  | .relayFault => 10
  | .sampleFault => 11
  | .recordLost => 12
  | .commandOverrun => 13
  | .reportSuperseded => 14
  | .imageFault => 15

/-- The set that holds one event kind. -/
def EventKind.bit (k : EventKind) : EventSet := BitVec.twoPow 16 k.number

/-- The latch of a kind is set. -/
def latched (s : State) (k : EventKind) : Bool := s.alert.latches.getLsbD k.number

/-- The condition of R150: an unmasked latch or IMAGE_FAULT is set, and no end-alert gap is running. -/
def AlertUnit.drives (a : AlertUnit) : Bool :=
  a.gap.isNone && (decide (a.latches &&& ~~~a.mask ≠ 0) || a.latches.getLsbD EventKind.imageFault.number)

/-- Take the drive of ALERT_N afresh (R150). -/
def AlertUnit.refresh (a : AlertUnit) : AlertUnit := { a with low := a.drives }

/-- Set the latches of `set` (R147). -/
def AlertUnit.latch (a : AlertUnit) (set : EventSet) : AlertUnit := { a with latches := a.latches ||| set }.refresh

/-- Clear the latches of `set` (R151). -/
def AlertUnit.acknowledge (a : AlertUnit) (set : EventSet) : AlertUnit :=
  { a with latches := a.latches &&& ~~~set }.refresh

/-- A block raises an event: its kind's latch is set at that moment (R147) and the drive follows (R150). -/
def raise (k : EventKind) (s : State) : State := s.withAlert (s.alert.latch k.bit)

/-- The end-alert gap length in milliseconds: 10 ms or 1 s (R152, R173). -/
def gapLength (p : Params) : Nat := if p.gapSelect = 0 then 10 else 1000

/-! ## Pins that follow from other state -/

/-- The select CSc of converter `c` is asserted while its frame is being read (R2). -/
def pinConverterSelect (s : State) (c : Nat) : Bool := decide (s.meter.reading = some c)

/-- CS4 is asserted while the image is being read (R171). -/
def pinMemorySelect (s : State) : Bool := decide (s.loader.load = .reading)

/-- What the memory port has on the serial bus while CS4 is asserted: the bytes it sends, and then the number of bytes it
clocks in from a memory that holds `im` (R171). -/
def memoryTransfer (s : State) (im : List Byte) : Option (List Byte × Nat) :=
  if pinMemorySelect s then some (Config.memoryInstruction, imageReadLength im) else none

/-- COIL_OPEN is driven during the pulse of an OPEN (R135). -/
def pinCoilOpen (s : State) : Bool := s.relay.coil.any fun c => decide (c.stage = .pulse ∧ c.job.dir = .toOpen)

/-- COIL_CLOSE is driven during the pulse of a CLOSE (R135). -/
def pinCoilClose (s : State) : Bool := s.relay.coil.any fun c => decide (c.stage = .pulse ∧ c.job.dir = .toClose)

/-- The outlet COIL_SEL selects during a pulse (R135). That it selects none in the settle and the verify, where R135 says
only that the coil lines are released, is the model's choice (log entry 14). -/
def pinCoilSelect (s : State) : Option Nat := (s.relay.coil.filter fun c => decide (c.stage = .pulse)).map fun c => c.job.outlet

/-- The pulse time in milliseconds (R173). -/
def pulseTime (p : Params) : Nat := 10 * p.pulseCode

end Sys2Proof.Machine
end

