-- ==== Sys2Proof/Machine/Formats.lean ====
section
/-! DEFINITION. What the station writes on the cage link: the code values and the layouts of the frames it sends
(spec/11, "Link frames"; R57, R162). -/

namespace Sys2Proof.Machine

/-! ## Code values (spec/11, "RESPONSE payload") -/

/-- The code of a result. -/
def Result.number : Result → Nat
  | .done => 0
  | .accepted => 1
  | .badArgument => 2
  | .protectedOutlet => 3
  | .notStuck => 4
  | .empty => 5
  | .invalid => 6

/-- The code of a link state. -/
def LinkState.number : LinkState → Nat
  | .linkOff => 0
  | .search => 1
  | .alone => 2
  | .joined => 3
  | .muted => 4
  | .duplicate => 5

/-- The code of a link rate. -/
def Rate.number : Rate → Nat
  | .kbit125 => 0
  | .kbit250 => 1
  | .kbit500 => 2
  | .kbit1000 => 3

/-- The link rate of a default rate code (R173). -/
def rateOfCode : Nat → Rate
  | 0 => .kbit125
  | 1 => .kbit250
  | 2 => .kbit500
  | _ => .kbit1000

/-- The code of a standing. -/
def Standing.number : Standing → Nat
  | .clear => 0
  | .watch => 1
  | .excess => 2
  | .curtail => 3
  | .recover => 4

/-- The code of a view quality. -/
def View.number : View → Nat
  | .complete => 0
  | .partialView => 1
  | .isolated => 2

/-- The code of a relay state. -/
def RelayState.number : RelayState → Nat
  | .unknown => 0
  | .on => 1
  | .off => 2
  | .openPending => 3
  | .opening => 4
  | .closePending => 5
  | .closing => 6
  | .stuck => 7

/-- The code of a record kind. -/
def RecordKind.number : RecordKind → Nat
  | .excessBegin => 0
  | .excessEnd => 1
  | .shed => 2
  | .unresolved => 3
  | .restore => 4

/-! ## Frames the station sends -/

/-- A frame: SYNC, Kind, Source, Length, payload, check B, check A (spec/02, "Frames"; R24). -/
def linkFrame (kind source : Nat) (payload : List Byte) : List Byte :=
  let body := toByte kind :: toByte source :: toByte payload.length :: payload
  Config.sync :: body ++ checkBytes body

/-- The five bytes of a report entry (R57, spec/11 "REPORT payload"). -/
def encodeEntry (e : ReportEntry) : List Byte :=
  [ toByte e.tenant,
    toByte (e.tenant / 256 % 16 + (if e.shed then 16 else 0) + (if e.unmeasured then 32 else 0)),
    toByte e.value,
    toByte (e.value / 256),
    toByte (e.value / 65536 % 16) ]

/-- The payload of a REPORT (R57). -/
def encodeReport (r : Snapshot) : List Byte :=
  toByte r.periodTicks :: toByte r.entries.length :: r.entries.flatMap encodeEntry

/-- The payload of a RESPONSE: the command code echoed, the result code, the data (R162). -/
def encodeResponse (r : Response) : List Byte := r.code :: toByte r.result.number :: r.data

/-- The payload of a LINE_CHECK (spec/11, "LINE_CHECK payload"). -/
def lineCheckPattern : List Byte :=
  [0x00, 0xFF, 0x55, 0xAA, 0x0F, 0xF0, 0x33, 0xCC, 0x01, 0x80, 0xFE, 0x7F, 0xC5, 0x3A, 0x96, 0x69]

/-- The frame the transmit engine sends for an item; nothing where the item is not there. -/
def outFrame (s : State) : SendKind → List Byte
  | .lineCheck => linkFrame 4 s.loader.station lineCheckPattern
  | .response =>
    match s.link.slot with
    | some r => linkFrame 3 s.loader.station (encodeResponse r)
    | none => []
  | .report =>
    match s.link.send with
    | some f => linkFrame 1 s.loader.station (encodeReport f.snapshot)
    | none => []

end Sys2Proof.Machine
end

