-- ==== Sys2Proof/Machine/Ops.lean ====
section
/-! DEFINITION. The named operations the commands share: outlets and tenants, excursion records, relay jobs and the
coil, the link states and the quiet time. -/

namespace Sys2Proof.Machine

/-! ## Outlets and tenants -/

/-- Outlet `n` is present (R11). -/
def present (s : State) (n : Nat) : Bool := decide (1 ≤ n ∧ n ≤ 8 * s.loader.params.converterCount)

/-- The numbers of the present outlets, rising (R11). -/
def presentOutlets (s : State) : List Nat := (List.range (8 * s.loader.params.converterCount)).map (· + 1)

/-- The Outlet Meter's record of outlet `n`. -/
def meterOutlet (s : State) (n : Nat) : MeterOutlet := s.meter.outlets.getD (n - 1) MeterOutlet.blank

/-- The switching record of outlet `n`. -/
def relayOutlet (s : State) (n : Nat) : RelayOutlet := s.relay.outlets.getD (n - 1) RelayOutlet.blank

/-- Change the switching record of outlet `n`. -/
def setRelayOutlet (n : Nat) (f : RelayOutlet → RelayOutlet) (s : State) : State :=
  s.withRelay { s.relay with outlets := s.relay.outlets.modify (n - 1) f }

/-- The record of the local tenant `id`. -/
def findTenant (s : State) (id : Nat) : Option Tenant := s.recon.tenants.find? fun t => t.id == id

/-- Change the record of the local tenant `id`. -/
def setTenant (id : Nat) (f : Tenant → Tenant) (s : State) : State :=
  s.withRecon { s.recon with tenants := s.recon.tenants.map fun t => if t.id = id then f t else t }

/-- The present outlets mapped to tenant `id`. -/
def tenantOutlets (s : State) (id : Nat) : List Nat :=
  (presentOutlets s).filter fun n => (relayOutlet s n).tenant == id

/-- The tenant's shed outlets at this station (R91). -/
def shedOutlets (s : State) (id : Nat) : List Nat :=
  (tenantOutlets s id).filter fun n => (relayOutlet s n).shed.isSome

/-- The standing chosen by M: WATCH if M ≥ W, CLEAR if M < W (R91). -/
def standingByDemand (t : Tenant) : Standing := if t.warn ≤ t.demand then .watch else .clear

/-! ## The Record Queue -/

/-- A record of tenant `t` with the figures it holds and the period number as it stands (R107, R109, R118, R126). -/
def makeRecord (s : State) (kind : RecordKind) (t : Tenant) (share : Nat) (outlets : List Nat) : ExcursionRecord :=
  ⟨kind, t.id, s.time.periodNumber, t.draw, t.demand, t.contract, share, outlets⟩

/-- Append a record: it joins the queue at the tail, or is discarded with RECORD_LOST (R156). -/
def appendRecord (r : ExcursionRecord) (s : State) : State :=
  if s.records.length < Config.recordLimit then s.withRecords (s.records ++ [r]) else raise .recordLost s

/-! ## Relay jobs and the coil -/

/-- The desired state is OFF: the lock flag or the shed flag is set (R129). -/
def RelayOutlet.heldOff (r : RelayOutlet) : Bool := r.lock || r.shed.isSome

/-- The relay state while the coil holds a job (R135). -/
def JobDir.working : JobDir → RelayState
  | .toOpen => .opening
  | .toClose => .closing

/-- The relay state while a job is queued (R130). -/
def JobDir.pending : JobDir → RelayState
  | .toOpen => .openPending
  | .toClose => .closePending

/-- The other direction (R132). -/
def JobDir.flip : JobDir → JobDir
  | .toOpen => .toClose
  | .toClose => .toOpen

/-- The coil arbiter: a free coil takes the head of the queue, unless a restart is waiting (R135, R144). -/
def coilTake (s : State) : State :=
  match s.restartPending, s.relay.coil, s.relay.queue with
  | false, none, j :: rest =>
    setRelayOutlet j.outlet (fun r => { r with relay := j.dir.working })
      (s.withRelay { s.relay with queue := rest, coil := some ⟨j, .pulse⟩ })
  | _, _, _ => s

/-- Append a CHANGE job at the tail; the relay state becomes pending, and a free coil takes the job at once (R130). -/
def queueJob (n : Nat) (dir : JobDir) (s : State) : State :=
  coilTake (setRelayOutlet n (fun r => { r with relay := dir.pending })
    (s.withRelay { s.relay with queue := s.relay.queue ++ [⟨n, dir, .change⟩] }))

/-- The desired state of an outlet with a queued job has changed back: a CHANGE job is removed and the relay state
returns to `back` (R131); a START job is reversed in place (R132). -/
def turnBack (n : Nat) (back : RelayState) (s : State) : State :=
  match s.relay.queue.find? (fun j => j.outlet == n) with
  | none => s
  | some j =>
    match j.origin with
    | .change =>
      setRelayOutlet n (fun r => { r with relay := back })
        (s.withRelay { s.relay with queue := s.relay.queue.filter fun i => i.outlet != n })
    | .start =>
      setRelayOutlet n (fun r => { r with relay := j.dir.flip.pending })
        (s.withRelay { s.relay with queue := s.relay.queue.map fun i => if i.outlet = n then { i with dir := i.dir.flip } else i })

/-- Compare the desired state of outlet `n` with its relay state (R129 to R133). -/
def compareDesired (n : Nat) (s : State) : State :=
  match (relayOutlet s n).relay, (relayOutlet s n).heldOff with
  | .on, true => queueJob n .toOpen s
  | .off, false => queueJob n .toClose s
  | .openPending, false => turnBack n .on s
  | .closePending, true => turnBack n .off s
  | _, _ => s

/-- Change the flags of outlet `n`; where that changes its desired state, the Relay Driver acts on it (R129). -/
def changeFlags (n : Nat) (f : RelayOutlet → RelayOutlet) (s : State) : State :=
  if (f (relayOutlet s n)).heldOff = (relayOutlet s n).heldOff then setRelayOutlet n f s
  else compareDesired n (setRelayOutlet n f s)

/-- The Draw Reconciler is told that a lock or a STUCK verify has cleared a shed flag of tenant `id`: a tenant in RECOVER
with no shed outlet left leaves RECOVER at once (R106, R109). -/
def recoverDeparture (id : Nat) (s : State) : State :=
  match findTenant s id with
  | none => s
  | some t =>
    if t.standing = .recover ∧ shedOutlets s id = [] then
      if 0 < s.recon.warmup then setTenant id (fun u => { u with standing := .clear }) s
      else
        appendRecord (makeRecord s .excessEnd t 0 [])
          (setTenant id (fun u => { u with standing := standingByDemand u }) s)
    else s

/-- A job completes: the relay state is `result`, the coil is free, the desired state is compared, and the freed coil
takes the head of the queue (R136, R138). After STUCK the comparison queues nothing (R133). -/
def completeJob (n : Nat) (result : RelayState) (s : State) : State :=
  coilTake (compareDesired n (setRelayOutlet n (fun r => { r with relay := result })
    (s.withRelay { s.relay with coil := none })))

/-! ## Link states -/

/-- What may be sent in a link state (R27). -/
def permits : LinkState → SendKind → Bool
  | .muted, .lineCheck => true
  | .alone, _ => true
  | .joined, _ => true
  | _, _ => false

/-- The engine stops driving a frame without a result, and the receiver drops its copy (R26, R36). -/
def abandonFrame (x : Transceiver) : Transceiver :=
  { x with sending := none, assembler := .waitQuiet, inCharacter := [], quiet := 0, gap := 0 }

/-- Apply R27 for the link state that now holds (R36). -/
def withdraw (s : State) : State :=
  let l := s.monitor.link
  let x := if s.link.sending.any (fun k => !permits l k) then abandonFrame s.link else s.link
  (s.withLink { x with
    slot := if permits l .response then x.slot else none
    send := if permits l .report then x.send else none }).withMonitor
    { s.monitor with check := if permits l .lineCheck then s.monitor.check else none }

/-- The link state changes, and the transmit engine applies R27 from that moment (R36). -/
def setLinkState (l : LinkState) (s : State) : State := withdraw (s.withMonitor { s.monitor with link := l })

/-- The Link Monitor sets a rate: a frame being assembled is dropped and the quiet time is 0 (R16). -/
def setRate (r : Rate) (s : State) : State :=
  (s.withMonitor { s.monitor with rate := some r }).withLink
    { s.link with assembler := .waitQuiet, inCharacter := [], quiet := 0, gap := 0 }

/-- The image's default rate. -/
def defaultRate (s : State) : Rate := rateOfCode s.loader.params.rateCode

/-- The rates of a sweep in order: the default first, then the others in descending order (R39). -/
def sweep (d : Rate) : List Rate := d :: [.kbit1000, .kbit500, .kbit250, .kbit125].filter fun r => r != d

/-- The link state becomes SEARCH (R39). -/
def enterSearch (s : State) : State :=
  let s := setRate (defaultRate s) (setLinkState .search s)
  s.withMonitor { s.monitor with
    searchPosition := 1, dwell := some Config.dwellTime, charErrors := 0, heard := false, faults := 0 }

/-- The link state becomes ALONE: the counts of the period start afresh (R40, R47, R48). -/
def enterAlone (s : State) : State :=
  let s := setLinkState .alone s
  s.withMonitor { s.monitor with charErrors := 0, heard := false }

/-- Place a line check with attempt count 0 (R42, R43). -/
def placeCheck (k : CheckKind) (s : State) : State := s.withMonitor { s.monitor with check := some ⟨k, 0⟩ }

/-- The link state becomes MUTED, and TX_FAULT is raised (R42, R44, R45). -/
def enterMuted (s : State) : State :=
  let s := setLinkState .muted s
  raise .txFault (s.withMonitor { s.monitor with faults := 0, countdown := Config.checkSpacing, check := none })

/-- The link state becomes DUPLICATE, and DUPLICATE is raised (R49). -/
def enterDuplicate (s : State) : State := raise .duplicate (setLinkState .duplicate s)

/-- Every roster record is ABSENT (R47). -/
def allAbsent (s : State) : Bool := s.roster.all fun r => decide (r.state = .absent)

/-- The test of R47: in JOINED with every record ABSENT, the link state becomes ALONE and LINK_ALONE is raised. -/
def testAlone (s : State) : State :=
  if s.monitor.link = .joined ∧ allAbsent s = true then raise .linkAlone (enterAlone s) else s

/-- A character error is reported to the Link Monitor (R18, R48). -/
def reportCharError (s : State) : State :=
  let s := s.withMonitor { s.monitor with charErrors := min Config.charErrorLimit (s.monitor.charErrors + 1) }
  if s.monitor.link = .alone ∧ s.monitor.charErrors = Config.searchErrors ∧ s.monitor.heard = false then enterSearch s
  else s

/-! ## The quiet time -/

/-- The receiver runs: it has a rate (R16, R37). -/
def receiverRuns (s : State) : Bool := s.monitor.rate.isSome

/-- The frame assembler when a run of quiet time has gone by: armed at 3 bit times of quiet (R20), and in WAIT_QUIET at
the next bit time where they had passed before it was entered (log entry 23); a gap error found inside a frame (R22); a
frame that has all its characters stands until its frame completion. -/
def assemblerAfterQuiet (a : Assembler) (quiet gap : Nat) : Assembler :=
  match a with
  | .armed => .armed
  | .waitQuiet => if Config.armQuiet ≤ quiet then .armed else .waitQuiet
  | .inFrame b =>
    if linkComplete b = false ∧ Config.gapQuiet ≤ gap then
      if Config.armQuiet ≤ quiet then .armed else .waitQuiet
    else .inFrame b

/-- The line stays recessive for `n` bit times more (R19, R20, R22). -/
def passQuiet (n : Nat) (x : Transceiver) : Transceiver :=
  let quiet := min Config.quietLimit (x.quiet + n)
  let gap := min Config.gapQuiet (x.gap + n)
  { x with quiet := quiet, gap := gap, assembler := assemblerAfterQuiet x.assembler quiet gap }

end Sys2Proof.Machine
end

