-- ==== Sys2Proof/Machine/Relay.lean ====
section
/-! DEFINITION. The Relay Driver's own events (spec/08): the end of a pulse, the end of a settle and the open verify
(the commands of the last two are in Reconcile.lean, since a close in hand precedes them), and what a flag change by
LOCK_OFF, UNLOCK and CLEAR_FAULT does (R139, R141). -/

namespace Sys2Proof.Machine

/-- The pulse time of the coil's job expires: the coil lines are released and the settle begins (R135). -/
def pulseEnds (s : State) : State :=
  match s.relay.coil with
  | some ⟨j, .pulse⟩ => s.withRelay { s.relay with coil := some ⟨j, .settle⟩ }
  | _ => s

/-- PULSE_END (R135). Without a pulse in progress there is no pulse timer, and nothing happens. -/
def execPulseEnd (s : State) : Host.Outcome State Fault Refusal := .next (pulseEnds s)

/-- The settle of the coil's job expires: a CLOSE completes as ON (R136), an OPEN waits for its verify sample (R137). -/
def settleEnds (s : State) : State :=
  match s.relay.coil with
  | some ⟨j, .settle⟩ =>
    match j.dir with
    | .toClose => completeJob j.outlet .on s
    | .toOpen => s.withRelay { s.relay with coil := some ⟨j, .verify none⟩ }
  | _ => s

/-- The settle of the coil's job is in progress (R135). -/
def settleRuns (s : State) : Bool :=
  match s.relay.coil with
  | some ⟨_, .settle⟩ => true
  | _ => false

/-- An applied sample reaches the Relay Driver: the coil takes it as the verify sample if it waits for one of that
outlet and has none yet (R4, R137). -/
def takeVerifySample (samples : Nat → Option Nat) (s : State) : State :=
  match s.relay.coil with
  | some ⟨j, .verify none⟩ => s.withRelay { s.relay with coil := some ⟨j, .verify (samples j.outlet)⟩ }
  | _ => s

/-- The verify sample has arrived and the open verify has not yet been taken. -/
def verifyDue (s : State) : Bool :=
  match s.relay.coil with
  | some ⟨_, .verify (some _)⟩ => true
  | _ => false

/-- A STUCK result: RELAY_FAULT is raised, a set shed flag is cleared with its power at shed and the Draw Reconciler is
told (R138, R106); the lock flag is kept. -/
def stuckResult (n : Nat) (s : State) : State :=
  let r := relayOutlet s n
  let s := completeJob n .stuck (raise .relayFault (setRelayOutlet n (fun r => { r with shed := none }) s))
  if r.shed.isSome then recoverDeparture r.tenant s else s

/-- The OPEN completes at its verify sample, as OFF or as STUCK (R138). -/
def verifyOpen (s : State) : State :=
  match s.relay.coil with
  | some ⟨j, .verify (some x)⟩ =>
    if x ≤ s.loader.params.offThreshold then completeJob j.outlet .off s else stuckResult j.outlet s
  | _ => s

/-- The lock flag of outlet `n` is set and its shed flag cleared; a cleared shed flag is told to the Draw Reconciler
(R139, R106). -/
def lockOutlet (n : Nat) (s : State) : State :=
  let r := relayOutlet s n
  let s := changeFlags n (fun r => { r with lock := true, shed := none }) s
  if r.shed.isSome then recoverDeparture r.tenant s else s

/-- The lock flag of outlet `n` is cleared (R139). -/
def unlockOutlet (n : Nat) (s : State) : State := changeFlags n (fun r => { r with lock := false }) s

/-- The relay state of a STUCK outlet becomes ON and its desired state is compared (R141). -/
def clearStuck (n : Nat) (s : State) : State :=
  compareDesired n (setRelayOutlet n (fun r => { r with relay := .on }) s)

end Sys2Proof.Machine
end

