-- ==== Sys2Proof/Machine/Roster.lean ====
section
/-! DEFINITION. The Station Roster and the Contribution Table (spec/03, spec/04): ageing, LATE and expiry, and what a
taken report does. -/

namespace Sys2Proof.Machine

/-! ## The roster -/

/-- The record of station `n`. -/
def rosterRecord (s : State) (n : Nat) : RosterRecord := s.roster.getD (n - 1) RosterRecord.blank

/-- Replace the record of station `n`. -/
def setRosterRecord (n : Nat) (r : RosterRecord) (s : State) : State := s.withRoster (s.roster.set (n - 1) r)

/-- The station numbers 1 to 16. -/
def stationNumbers : List Nat := (List.range 16).map (· + 1)

/-- The rise of one record at a tick completion: LIVE and LATE ages rise by 1, saturating (R52). -/
def ageRecord (r : RosterRecord) : RosterRecord :=
  if r.state = .absent then r else { r with age := min Config.ageLimit (r.age + 1) }

/-- Record `n` is LIVE and its age exceeds stale factor × its period (R52). -/
def lateDue (s : State) (n : Nat) : Bool :=
  let r := rosterRecord s n
  decide (1 ≤ n ∧ n ≤ 16 ∧ r.state = .live ∧ s.loader.params.stale * r.period < r.age)

/-- The record of station `n` becomes LATE (R52). -/
def becomeLate (n : Nat) (s : State) : State := setRosterRecord n { rosterRecord s n with state := .late } s

/-- STATION_LATE (R52). A record for which this is not due does not go LATE. -/
def execStationLate (n : Nat) (s : State) : Host.Outcome State Fault Refusal :=
  .next (if lateDue s n then becomeLate n s else s)

/-- Record `n` is LATE and its age exceeds expire factor × its period (R53). -/
def expiryDue (s : State) (n : Nat) : Bool :=
  let r := rosterRecord s n
  decide (1 ≤ n ∧ n ≤ 16 ∧ r.state = .late ∧ s.loader.params.expire * r.period < r.age)

/-- Clear the bit of station `n` in the overflow mask of every local tenant (R53). -/
def clearOverflow (n : Nat) (s : State) : State :=
  s.withRecon { s.recon with tenants := s.recon.tenants.map fun t => { t with overflow := dropStation t.overflow n } }

/-- The record of station `n` expires: it becomes ABSENT, its entries are removed, its overflow bits are cleared, and
R47 is tested (R53). -/
def expireStation (n : Nat) (s : State) : State :=
  testAlone (clearOverflow n ((setRosterRecord n RosterRecord.blank s).withTable
    (s.table.filter fun e => e.source != n)))

/-- STATION_EXPIRY (R53). A record for which this is not due does not expire. -/
def execStationExpiry (n : Nat) (s : State) : Host.Outcome State Fault Refusal :=
  .next (if expiryDue s n then expireStation n s else s)

/-- The records that the last tick completion made LATE or expired have taken that change (R52, R53). -/
def settleRoster (s : State) : State :=
  let s := stationNumbers.foldl (fun s n => if lateDue s n then becomeLate n s else s) s
  stationNumbers.foldl (fun s n => if expiryDue s n then expireStation n s else s) s

/-! ## The Contribution Table -/

/-- The entry of the pair (source, tenant) (R62). -/
def findEntry (s : State) (src id : Nat) : Option Entry :=
  s.table.find? fun e => e.source == src && e.tenant == id

/-- The table's order: sources rising, and tenants rising within one source (log entry 5). -/
def entryBefore (a b : Entry) : Bool :=
  decide (a.source < b.source ∨ (a.source = b.source ∧ a.tenant ≤ b.tenant))

/-- Put an entry into the table. -/
def addEntry (e : Entry) (s : State) : State :=
  s.withTable (s.table.orderedInsert (fun a b => entryBefore a b = true) e)

/-- Take the entry of the pair (source, tenant) out of the table. -/
def removeEntry (src id : Nat) (s : State) : State :=
  s.withTable (s.table.filter fun e => !(e.source == src && e.tenant == id))

/-- Set bit `n` of tenant `id`'s overflow mask. -/
def setOverflowBit (n id : Nat) (s : State) : State :=
  setTenant id (fun t => { t with overflow := addStation t.overflow n }) s

/-- Clear bit `n` of tenant `id`'s overflow mask. -/
def clearOverflowBit (n id : Nat) (s : State) : State :=
  setTenant id (fun t => { t with overflow := dropStation t.overflow n }) s

/-- An entry for the pair is held: value and flags become the reported ones, the mark is kept (R64). -/
def updateEntry (src : Nat) (r : ReportEntry) (s : State) : State :=
  clearOverflowBit src r.tenant (s.withTable (s.table.map fun e =>
    if e.source = src ∧ e.tenant = r.tenant then
      { e with value := min Config.valueLimit r.value, shed := r.shed, unmeasured := r.unmeasured }
    else e))

/-- A new entry is created, marked and reported by UNEXPECTED_HOST when the source is outside the expected-host mask of
tenant `t` (R65). -/
def createEntry (src : Nat) (r : ReportEntry) (t : Tenant) (s : State) : State :=
  let unexpected := !hasStation t.expected src
  let s := clearOverflowBit src r.tenant
    (addEntry ⟨src, r.tenant, min Config.valueLimit r.value, r.shed, r.unmeasured, unexpected⟩ s)
  if unexpected then raise .unexpectedHost s else s

/-- `a` is the better victim than `b`: greater age of its source, then lower source, then lower tenant (R66). -/
def victimBefore (s : State) (a b : Entry) : Bool :=
  let x := (rosterRecord s a.source).age
  let y := (rosterRecord s b.source).age
  decide (y < x ∨ (x = y ∧ (a.source < b.source ∨ (a.source = b.source ∧ a.tenant < b.tenant))))

/-- The victim among the entries whose source is LATE (R66). -/
def victim (s : State) : Option Entry :=
  (s.table.filter fun e => decide ((rosterRecord s e.source).state = .late)).foldl
    (fun best e =>
      match best with
      | none => some e
      | some b => if victimBefore s e b then some e else some b) none

/-- A new pair meets a full table: a victim is evicted for it (R67), or it is refused (R68). -/
def applyToFullTable (src : Nat) (r : ReportEntry) (t : Tenant) (s : State) : State :=
  match victim s with
  | some v =>
    raise .tableFull (createEntry src r t (setOverflowBit v.source v.tenant (removeEntry v.source v.tenant s)))
  | none => raise .tableFull (setOverflowBit src r.tenant s)

/-- One entry of a taken report (R63 to R68). -/
def applyEntry (src : Nat) (s : State) (r : ReportEntry) : State :=
  match findTenant s r.tenant with
  | none => s
  | some t =>
    if (findEntry s src r.tenant).isSome then updateEntry src r s
    else if s.table.length < Config.tableLimit then createEntry src r t s
    else applyToFullTable src r t s

/-- A local tenant that a report from `src` did not name (R69). -/
def omitTenant (src : Nat) (s : State) (id : Nat) : State := clearOverflowBit src id (removeEntry src id s)

/-- The local tenants that a report does not name. -/
def omittedTenants (s : State) (es : List ReportEntry) : List Nat :=
  (s.recon.tenants.map Tenant.id).filter fun id => !(es.map ReportEntry.tenant).contains id

/-- A report that is not malformed is applied as one whole: roster, entries, omissions (R51, R61); in ALONE the link
state becomes JOINED (R46). -/
def takeReport (src ticks : Nat) (es : List ReportEntry) (s : State) : State :=
  let s := setRosterRecord src ⟨.live, 0, clampTo 5 50 ticks⟩ s
  let s := es.foldl (applyEntry src) s
  let s := (omittedTenants s es).foldl (omitTenant src) s
  if s.monitor.link = .alone then setLinkState .joined s else s

end Sys2Proof.Machine
end

