-- ==== Sys2Proof/Machine/Reconcile.lean ====
section
/-! DEFINITION. The period close (spec/01 R8, spec/05 to spec/07, R34, R43, R48, R55): the figures of every tenant, its
standing, the shed round and the restore step, the report, and the Link Monitor's counts, in parts and as a whole; the
four commands that are a period close at which a counter runs out; and the two completions of the coil, which a close in
hand precedes. -/

namespace Sys2Proof.Machine

/-! ## The Outlet Meter and the Time Base at a close -/

/-- The tick count has reached `period_ticks`: the tick completion is also a period close (R8). -/
def closeDue (s : State) : Bool := s.time.running && decide (s.loader.params.periodTicks ≤ s.time.tickCount)

/-- Averages are made, the accumulators and the tick count become 0, the period number rises by 1 and wraps (R8). -/
def closeMeter (s : State) : State :=
  let n := 8 * s.loader.params.converterCount
  let outlets := s.meter.outlets.mapIdx fun i o =>
    if i < n then { o with average := o.accumulator / s.loader.params.periodTicks, accumulator := 0 } else o
  (s.withMeter { s.meter with outlets := outlets }).withTime
    { s.time with tickCount := 0, periodNumber := s.time.periodNumber + 1 }

/-! ## The figures of a close -/

/-- L: the sum of the averages of the present outlets mapped to the tenant (R78). -/
def localSubtotal (s : State) (id : Nat) : Nat := ((tenantOutlets s id).map fun n => (meterOutlet s n).average).sum

/-- The sum of the entries held for the tenant (R71, R79). -/
def heldContributions (s : State) (id : Nat) : Nat :=
  ((s.table.filter fun e => e.tenant == id).map Entry.value).sum

/-- D: the cage draw (R79). -/
def cageDraw (s : State) (id : Nat) : Nat := localSubtotal s id + heldContributions s id

/-- M moves toward D by the truncated quotient of the difference, at least by 1 where they differ (R80). -/
def demandStep (k prev draw : Nat) : Nat :=
  if prev < draw then prev + max 1 ((draw - prev) / 2 ^ k)
  else if draw < prev then prev - max 1 ((prev - draw) / 2 ^ k)
  else prev

/-- The set E: the expected hosts without the own station (R83). -/
def expectedPeers (s : State) (t : Tenant) : List Nat :=
  stationNumbers.filter fun n => hasStation t.expected n && n != s.loader.station

/-- A local outlet of the tenant is UNMEASURED (R56, R85). -/
def anyUnmeasured (s : State) (id : Nat) : Bool := (tenantOutlets s id).any fun n => (meterOutlet s n).unmeasured

/-- The conditions of R85. -/
def partialConditions (s : State) (t : Tenant) : Bool :=
  (expectedPeers s t).any (fun n => decide ((rosterRecord s n).state ≠ .live)) ||
  (s.table.filter fun e => e.tenant == t.id).any (fun e =>
    decide ((rosterRecord s e.source).state = .late) || e.unmeasured) ||
  decide (t.overflow ≠ 0) ||
  anyUnmeasured s t.id

/-- View quality (R84 to R86). -/
def viewQuality (s : State) (t : Tenant) : View :=
  if expectedPeers s t ≠ [] ∧ (expectedPeers s t).all (fun n => decide ((rosterRecord s n).state = .absent)) then .isolated
  else if partialConditions s t then .partialView
  else .complete

/-- The three kinds of close (R82). -/
inductive Phase where
  | warmup
  | seeding
  | ordinary
deriving DecidableEq, Repr

/-- The kind of the close that is being worked (R82). -/
def closePhase (s : State) : Phase :=
  if 0 < s.recon.warmup then .warmup else if s.recon.seedDue then .seeding else .ordinary

/-- The tenant's record with the L, D, M and view of this close (R77 to R86). -/
def closeFigures (s : State) (t : Tenant) : Tenant :=
  let d := cageDraw s t.id
  { t with
    subtotal := localSubtotal s t.id
    draw := d
    demand := if closePhase s = .seeding then d else demandStep s.loader.params.k t.demand d
    view := viewQuality s t }

/-! ## The shed round (spec/07) -/

/-- This station's share of the tenant's excess: ceil(X × L / D), or 0 (R113). -/
def share (t : Tenant) : Nat :=
  if t.contract < t.draw ∧ 0 < t.subtotal then
    ((t.draw - t.contract) * t.subtotal + (t.draw - 1)) / t.draw
  else 0

/-- Outlet `n` may be taken by a round for tenant `id` (R115). -/
def shedCandidate (s : State) (n : Nat) : Bool :=
  let r := relayOutlet s n
  decide (1 ≤ r.cls ∧ r.relay = .on ∧ r.lock = false ∧ r.shed = none)

/-- Shed order: higher class first, then larger average, then lower number (R116). -/
def shedBefore (s : State) (a b : Nat) : Bool :=
  let x := relayOutlet s a
  let y := relayOutlet s b
  let p := (meterOutlet s a).average
  let q := (meterOutlet s b).average
  decide (y.cls < x.cls ∨ (x.cls = y.cls ∧ (q < p ∨ (p = q ∧ a ≤ b))))

/-- The shed candidates of tenant `id`, in shed order (R115, R116). -/
def shedCandidates (s : State) (id : Nat) : List Nat :=
  ((tenantOutlets s id).filter (shedCandidate s)).insertionSort fun a b => shedBefore s a b = true

/-- The candidates a round takes: in order, until the running total `sum` reaches the share (R117). -/
def takeUntil (share : Nat) (power : Nat → Nat) : Nat → List Nat → List Nat
  | _, [] => []
  | sum, n :: rest => n :: if share ≤ sum + power n then [] else takeUntil share power (sum + power n) rest

/-- The outlets the round takes for tenant `id` (R117). -/
def shedTaken (s : State) (id share : Nat) : List Nat :=
  takeUntil share (fun n => (meterOutlet s n).average) 0 (shedCandidates s id)

/-- The sum of the averages of some outlets. -/
def powerOf (s : State) (ns : List Nat) : Nat := (ns.map fun n => (meterOutlet s n).average).sum

/-- Set an outlet's shed flag with its average of this close as power at shed (R117). -/
def shedOutlet (s : State) (n : Nat) : State :=
  changeFlags n (fun r => { r with shed := some (meterOutlet s n).average }) s

/-- The shed round for tenant `id` (R112 to R118). -/
def shedRound (id : Nat) (s : State) : State :=
  match findTenant s id with
  | none => s
  | some t =>
    if t.view = .isolated ∧ t.subtotal ≤ t.contract then s
    else if share t = 0 then s
    else
      let taken := shedTaken s id (share t)
      let s' := taken.foldl shedOutlet s
      if share t ≤ powerOf s taken then appendRecord (makeRecord s .shed t (share t) taken) s'
      else raise .unresolved (appendRecord (makeRecord s .unresolved t (share t) taken) s')

/-! ## The restore step (spec/07) -/

/-- The power at shed of outlet `n`. -/
def powerAtShed (s : State) (n : Nat) : Nat := (relayOutlet s n).shed.getD 0

/-- Restore order: lower class first, then lower power at shed, then lower number (R122). -/
def restoreBefore (s : State) (a b : Nat) : Bool :=
  let x := relayOutlet s a
  let y := relayOutlet s b
  let p := powerAtShed s a
  let q := powerAtShed s b
  decide (x.cls < y.cls ∨ (x.cls = y.cls ∧ (p < q ∨ (p = q ∧ a ≤ b))))

/-- The restore candidates of tenant `id`, in restore order (R122). -/
def restoreCandidates (s : State) (id : Nat) : List Nat :=
  (shedOutlets s id).insertionSort fun a b => restoreBefore s a b = true

/-- A lower-numbered LIVE peer reports SHED for tenant `id` (R124). -/
def lowerPeerSheds (s : State) (id : Nat) : Bool :=
  s.table.any fun e =>
    e.tenant == id && e.shed && decide (e.source < s.loader.station ∧ (rosterRecord s e.source).state = .live)

/-- The three conditions of a restore of power at shed `p` (R123 to R125). -/
def restoreAllowed (s : State) (t : Tenant) (p : Nat) : Bool :=
  decide (t.view = .complete) && !lowerPeerSheds s t.id && decide (t.draw + p ≤ t.release)

/-- Clear an outlet's shed flag and its power at shed (R126). -/
def restoreOutlet (n : Nat) (s : State) : State := changeFlags n (fun r => { r with shed := none }) s

/-- The restore step for tenant `id` (R121 to R126). -/
def restoreStep (id : Nat) (s : State) : State :=
  match findTenant s id, restoreCandidates s id with
  | some t, n :: _ =>
    if restoreAllowed s t (powerAtShed s n) then appendRecord (makeRecord s .restore t 0 [n]) (restoreOutlet n s) else s
  | _, _ => s

/-! ## The standing machine (spec/06) -/

/-- The cases of the evaluation of a standing (R96 to R105). -/
inductive StandingCase where
  /-- D > B with enforce set (R96, R98, R102). -/
  | burst
  /-- Into EXCESS and straight on to CURTAIL (R97). -/
  | straightOn
  /-- Into EXCESS (R96). -/
  | enterExcess
  /-- CLEAR or WATCH by M (R96). -/
  | byDemand
  /-- M ≤ C in EXCESS (R98, R99). -/
  | endOfExcess
  /-- The grace counter reaches 0 (R98). -/
  | graceEnd
  /-- The grace counter falls, or rests at 0 (R98, R99). -/
  | graceRun
  /-- M ≤ Rel in CURTAIL with shed outlets here (R100). -/
  | release
  /-- M ≤ Rel in CURTAIL with none here (R100). -/
  | releaseBare
  /-- The settle counter stands at 0 (R101). -/
  | round
  /-- The settle counter falls (R101). -/
  | settleRun
  /-- M > C in RECOVER with enforce set (R102). -/
  | renewedExcess
  /-- The restore counter reaches 0 (R103). -/
  | restoreAttempt
  /-- The restore counter falls (R103). -/
  | restoreRun
deriving DecidableEq, Repr

/-- Which case a tenant's evaluation takes: the first that applies (R96 to R105). -/
def standingCase (t : Tenant) (shedHere : Bool) : StandingCase :=
  let burst := t.enforce && decide (t.burst < t.draw)
  match t.standing with
  | .clear | .watch =>
    if burst then .burst
    else if t.contract < t.demand then (if t.enforce && decide (t.graceSetting = 0) then .straightOn else .enterExcess)
    else .byDemand
  | .excess =>
    if burst then .burst
    else if t.demand ≤ t.contract then .endOfExcess
    else if t.enforce && decide (t.grace = 1) then .graceEnd
    else .graceRun
  | .curtail =>
    if t.demand ≤ t.release then (if shedHere then .release else .releaseBare)
    else if t.settle = 0 then .round
    else .settleRun
  | .recover =>
    if burst then .burst
    else if t.enforce && decide (t.contract < t.demand) then .renewedExcess
    else if t.restore ≤ 1 then .restoreAttempt
    else .restoreRun

/-- An excursion begins: EXCESS_BEGIN is appended and EXCESS is raised (R107). -/
def beginExcursion (t : Tenant) (s : State) : State :=
  raise .excess (appendRecord (makeRecord s .excessBegin t 0 []) s)

/-- An excursion ends: EXCESS_END is appended and the standing is chosen by M (R109). -/
def endExcursion (t : Tenant) (s : State) : State :=
  appendRecord (makeRecord s .excessEnd t 0 []) (setTenant t.id (fun u => { u with standing := standingByDemand u }) s)

/-- A tenant enters CURTAIL with the settle counter at `settle`, and CURTAIL is raised (R108). -/
def enterCurtail (id settle : Nat) (s : State) : State :=
  raise .curtail (setTenant id (fun u => { u with standing := .curtail, settle := settle }) s)

/-- A shed round runs, and the settle counter becomes the installed settle whatever the round did (R101). -/
def runRound (id : Nat) (s : State) : State :=
  let s := shedRound id s
  setTenant id (fun u => { u with settle := s.loader.params.settle }) s

/-- A restore step runs and the restore counter becomes the restore spacing (R103). -/
def attemptRestore (id : Nat) (s : State) : State :=
  let s := restoreStep id s
  setTenant id (fun u => { u with restore := s.loader.params.spacing }) s

/-- The case begins an excursion of the tenant (R96, R97, R107). -/
def StandingCase.begins (c : StandingCase) (t : Tenant) : Bool :=
  match c with
  | .burst => decide (t.standing = .clear ∨ t.standing = .watch)
  | .straightOn | .enterExcess => true
  | _ => false

/-- What a case does after the beginning of an excursion and before the end of one that a restore step brings about; `t`
holds the figures of this close (R96 to R105). -/
def applyStanding (c : StandingCase) (t : Tenant) (s : State) : State :=
  match c with
  | .burst => runRound t.id (enterCurtail t.id 0 s)
  | .straightOn | .graceEnd =>
    runRound t.id (enterCurtail t.id 0 (setTenant t.id (fun u => { u with grace := 0 }) s))
  | .enterExcess => setTenant t.id (fun u => { u with standing := .excess, grace := u.graceSetting }) s
  | .byDemand => setTenant t.id (fun u => { u with standing := standingByDemand u }) s
  | .endOfExcess | .releaseBare => endExcursion t s
  | .graceRun => setTenant t.id (fun u => { u with grace := u.grace - 1 }) s
  | .release => setTenant t.id (fun u => { u with standing := .recover, restore := s.loader.params.spacing }) s
  | .round => runRound t.id s
  | .settleRun => setTenant t.id (fun u => { u with settle := u.settle - 1 }) s
  | .renewedExcess => enterCurtail t.id s.loader.params.settle s
  | .restoreAttempt => attemptRestore t.id s
  | .restoreRun => setTenant t.id (fun u => { u with restore := u.restore - 1 }) s

/-! ## The work of a close for one tenant -/

/-- The case that the evaluation of a tenant takes with the figures of this close; none in warm-up (R91, R94). -/
def tenantCase (s : State) (t : Tenant) : Option StandingCase :=
  if closePhase s = .warmup then none else some (standingCase t (decide (shedOutlets s t.id ≠ [])))

/-- The figures of tenant `id`, VIEW_DEGRADED, and the beginning of an excursion (R77, R87, R94, R107). -/
def tenantFigures (id : Nat) (s : State) : State :=
  match findTenant s id with
  | none => s
  | some t₀ =>
    let t := closeFigures s t₀
    let s := setTenant id (fun _ => t) s
    match tenantCase s t with
    | none => s
    | some c =>
      let s := if t₀.view = .complete ∧ t.view ≠ .complete then raise .viewDegraded s else s
      if c.begins t then beginExcursion t s else s

/-- The standing of tenant `id`, with the round or the restore step it calls for (R91, R96 to R105). -/
def tenantStanding (id : Nat) (s : State) : State :=
  match findTenant s id with
  | none => s
  | some t =>
    match tenantCase s t with
    | none => s
    | some c => applyStanding c t s

/-- The evaluation of tenant `id` is a restore step (R103). -/
def attemptsRestore (id : Nat) (s : State) : Bool :=
  (findTenant s id).any fun t => decide (tenantCase s t = some .restoreAttempt)

/-- After a restore step a tenant with no shed outlet left leaves RECOVER, with EXCESS_END and RESTORED (R104). -/
def tenantDeparture (id : Nat) (s : State) : State :=
  match findTenant s id with
  | none => s
  | some t => if shedOutlets s id = [] then raise .restored (endExcursion t s) else s

/-- The standing of tenant `id`, and its departure where a restore step was made. -/
def evaluateTenant (id : Nat) (s : State) : State :=
  if attemptsRestore id s then tenantDeparture id (tenantStanding id s) else tenantStanding id s

/-- The whole work of a close for one tenant (R77, R110). -/
def closeTenant (s : State) (id : Nat) : State := evaluateTenant id (tenantFigures id s)

/-- The warm-up count falls by 1, or seed due becomes no (R81, R82). -/
def endWarmupClose (s : State) : State :=
  match closePhase s with
  | .warmup => s.withRecon { s.recon with warmup := s.recon.warmup - 1 }
  | .seeding => s.withRecon { s.recon with seedDue := false }
  | .ordinary => s

/-- The entry of tenant `t` in the report (R55, R56). -/
def reportEntry (s : State) (t : Tenant) : ReportEntry :=
  ⟨t.id, t.subtotal, decide (shedOutlets s t.id ≠ []), anyUnmeasured s t.id⟩

/-- The snapshot of this close (R55). -/
def reportSnapshot (s : State) : Snapshot := ⟨s.loader.params.periodTicks, s.recon.tenants.map (reportEntry s)⟩

/-- The snapshot is written into FILL, FILL and READY are exchanged and READY is marked new; an unsent snapshot lost in
ALONE or JOINED raises REPORT_SUPERSEDED (R34, R55). -/
def publishReport (s : State) : State :=
  let lost := s.link.readyNew && (decide (s.monitor.link = .alone) || decide (s.monitor.link = .joined))
  let s' := s.withLink { s.link with fill := s.link.ready, ready := some (reportSnapshot s), readyNew := true }
  if lost then raise .reportSuperseded s' else s'

/-- The close lowers the check countdown to 0 (R43). -/
def countdownEnds (s : State) : Bool :=
  decide (s.monitor.link = .muted ∧ s.monitor.check = none ∧ s.monitor.countdown ≤ 1)

/-- The Link Monitor's counts at a period close: character errors and frame heard start afresh (R48); in MUTED the check
countdown falls, and at 0 a periodic line check is placed (R43). -/
def closeMonitor (s : State) : State :=
  let counts := s.withMonitor { s.monitor with charErrors := 0, heard := false }
  if countdownEnds s then placeCheck .periodic (counts.withMonitor { counts.monitor with countdown := 0 })
  else if s.monitor.link = .muted ∧ s.monitor.check = none then
    counts.withMonitor { counts.monitor with countdown := s.monitor.countdown - 1 }
  else counts

/-! ## The whole close -/

/-- A close begins: the averages and the counts of the Outlet Meter and the Time Base, the Link Monitor's counts, and the
Draw Reconciler's work comes in hand, tenant by tenant in table order (R8, R43, R48, R77, R110). -/
def beginClose (s : State) : State :=
  (closeMonitor (closeMeter s)).withCloseInHand (some ⟨.figures, s.recon.tenants.map Tenant.id⟩)

/-- The work on every tenant is done: the warm-up count, and the report (R55, R81, R82). -/
def endClose (s : State) : State := (publishReport (endWarmupClose s)).withCloseInHand none

/-- The next part of the work in hand. It appends at most one record, at the moment its rule does (R77, R110, R156). -/
def workOn (s : State) : State :=
  match s.closeInHand with
  | none => s
  | some ⟨_, []⟩ => endClose s
  | some ⟨.figures, id :: rest⟩ => (tenantFigures id s).withCloseInHand (some ⟨.standing, id :: rest⟩)
  | some ⟨.standing, id :: rest⟩ =>
    (tenantStanding id s).withCloseInHand
      (some (if attemptsRestore id s then ⟨.departure, id :: rest⟩ else ⟨.figures, rest⟩))
  | some ⟨.departure, id :: rest⟩ => (tenantDeparture id s).withCloseInHand (some ⟨.figures, rest⟩)

/-- The work in hand for the tenant it has come to, to its end (R110). -/
def finishTenant (stage : CloseStage) (id : Nat) (s : State) : State :=
  match stage with
  | .figures => closeTenant s id
  | .standing => evaluateTenant id s
  | .departure => tenantDeparture id s

/-- All the work in hand, to the end of the close: what comes at that moment finds the tenant table and the
outlet records as this close leaves them, and the close works from the outlet records as they stood at it (R77, R112; log
entry 26). -/
def finishClose (s : State) : State :=
  match s.closeInHand with
  | none => s
  | some ⟨_, []⟩ => endClose s
  | some ⟨stage, id :: rest⟩ => endClose (rest.foldl closeTenant (finishTenant stage id s))

/-- The whole period close as one step (R8, R34, R43, R48, R55, R77, R110). -/
def closePeriod (s : State) : State := finishClose (beginClose (finishClose s))

/-- PERIOD_CLOSE (R8). Before the tick count has reached `period_ticks` no period closes. -/
def execPeriodClose (s : State) : Host.Outcome State Fault Refusal := .next (if closeDue s then closePeriod s else s)

/-- The case that the evaluation of tenant `id` takes at the close that is due; none at a warm-up close (R91, R94). -/
def caseAtClose (s : State) (id : Nat) : Option StandingCase :=
  let s := closeMeter (finishClose s)
  (findTenant s id).bind fun t => tenantCase s (closeFigures s t)

/-- GRACE_EXPIRY (R98): the period close at which the tenant's grace counter reaches 0. -/
def execGraceExpiry (tenant : Nat) (s : State) : Host.Outcome State Fault Refusal :=
  .next (if closeDue s ∧ caseAtClose s tenant = some .graceEnd then closePeriod s else s)

/-- SETTLE_EXPIRY (R101): the period close that finds the settle counter of a tenant that stays in CURTAIL at 0. -/
def execSettleExpiry (tenant : Nat) (s : State) : Host.Outcome State Fault Refusal :=
  .next (if closeDue s ∧ caseAtClose s tenant = some .round then closePeriod s else s)

/-- RESTORE_COUNTER_EXPIRY (R103): the period close at which the tenant's restore counter reaches 0. -/
def execRestoreCounterExpiry (tenant : Nat) (s : State) : Host.Outcome State Fault Refusal :=
  .next (if closeDue s ∧ caseAtClose s tenant = some .restoreAttempt then closePeriod s else s)

/-- CHECK_COUNTDOWN_EXPIRY (R43): the period close at which the check countdown reaches 0 in MUTED. -/
def execCheckCountdownExpiry (s : State) : Host.Outcome State Fault Refusal :=
  .next (if closeDue s ∧ countdownEnds s = true then closePeriod s else s)

/-! ## The coil's completions

A close whose work is in hand comes before them: its rounds work from the relay states, lock flags and shed flags as they
stood at the close (R77, R112; log entry 26). -/

/-- SETTLE_END (R136, R137). Without a settle in progress there is no settle timer, and nothing happens. -/
def execSettleEnd (s : State) : Host.Outcome State Fault Refusal :=
  .next (if settleRuns s then settleEnds (finishClose s) else s)

/-- OPEN_VERIFY (R138). Before the verify sample has arrived nothing happens: the coil goes on waiting (R137). -/
def execOpenVerify (s : State) : Host.Outcome State Fault Refusal :=
  .next (if verifyDue s then verifyOpen (finishClose s) else s)

end Sys2Proof.Machine
end

