-- ==== Sys2Proof/Machine/Gateway.lean ====
section
/-! DEFINITION. The Command Handler (spec/10): taking a command, the nine commands and the INVALID answer, and the data
of the responses (spec/11, "RESPONSE payload"). -/

namespace Sys2Proof.Machine

/-- The link states in which commands are taken (R161). -/
def takesCommands : LinkState → Bool
  | .alone | .joined | .muted | .duplicate => true
  | _ => false

/-- The response fills the slot with attempt count 0; where responses are not permitted it is emptied unsent at once
(R33, R160, R161). -/
def respond (code : Byte) (result : Result) (data : List Byte) (s : State) : State :=
  if permits s.monitor.link .response then s.withLink { s.link with slot := some ⟨code, result, data, 0⟩ } else s

/-- The Command Handler receives a COMMAND of the gateway for this station: it is ignored with more than two argument
bytes (R159), outside the link states that take commands (R161) and while a restart is pending; with a FULL slot it is
discarded with COMMAND_OVERRUN; otherwise it is executed (R160). -/
def receiveCommand (arg : List Byte) (effect : State → State) (s : State) : State :=
  if 2 < arg.length ∨ takesCommands s.monitor.link = false ∨ s.restartPending = true then s
  else if s.link.slot.isSome then raise .commandOverrun s
  else effect s

/-! ## Queries -/

/-- What the tenant table returns to a QUERY_STATUS for one tenant: its id and its standing as held at execution (R111),
and the L, D, M and view of one and the same close (R77). -/
structure StatusFigures where
  tenant : Nat
  standing : Standing
  view : View
  subtotal : Nat
  draw : Nat
  demand : Nat
deriving DecidableEq, Repr

/-- The figures of the tenant records of a part: 1 to 12, or 13 to 24, in table order (R77, R163). -/
def statusFigures (s : State) (part : Nat) : List StatusFigures :=
  ((s.recon.tenants.drop (12 * part)).take 12).map fun t =>
    ⟨t.id, t.standing, t.view, t.subtotal, t.draw, t.demand⟩

/-- One tenant entry of a QUERY_STATUS response: tenant id, standing and view, D and M (R163, R176). Of the figures of R77
the L has no field in it: R163, R111 and the layout name none, and R176 has the layouts govern every frame that is sent
(DEDUCED, log entry 25). Bits 6 and 7 of the byte of standing and view, which the layout does not name, are 0 (DESIGN
CHOICE, log entry 28). -/
def statusEntry (f : StatusFigures) : List Byte :=
  leBytes 2 f.tenant ++ [toByte (f.standing.number + 16 * f.view.number)] ++ leBytes 3 f.draw ++ leBytes 3 f.demand

/-- The installed parameters, in the order and coding of image bytes 6 to 18 (R163). -/
def statusParams (p : Params) : List Byte :=
  [toByte p.converterCount, toByte p.periodTicks, toByte p.k, toByte p.stale, toByte p.expire, toByte p.settle,
    toByte p.spacing, toByte p.rateCode] ++ leBytes 2 p.alertMask.toNat ++
  [toByte p.gapSelect, toByte p.pulseCode, toByte p.offThreshold]

/-- The code of the link rate in a response. A station that takes commands has a rate (R38, R39). -/
def rateNumber : Option Rate → Nat
  | some r => r.number
  | none => 0

/-- The data of a QUERY_STATUS response (R163, spec/11). -/
def statusData (s : State) (part : Nat) : List Byte :=
  [toByte part, toByte s.loader.station, toByte s.monitor.link.number, toByte (rateNumber s.monitor.rate)] ++
  leBytes 2 s.alert.latches.toNat ++ [toByte s.records.length] ++ leBytes 2 s.loader.params.revision.toNat ++
  leBytes 4 s.time.periodNumber.toNat ++ [toByte s.recon.tenants.length] ++ statusParams s.loader.params ++
  [toByte (statusFigures s part).length] ++ (statusFigures s part).flatMap statusEntry

/-- QUERY_STATUS executed (R163). It finds the tenant table as a close whose work is in hand leaves it (R77; log entry
26). -/
def queryStatusEffect (arg : List Byte) (s : State) : State :=
  match statusPart arg with
  | some part => respond 0x01 .done (statusData (finishClose s) part) (finishClose s)
  | none => respond 0x01 .badArgument [] s

/-- QUERY_STATUS (R163). -/
def execQueryStatus (arg : List Byte) (s : State) : Host.Outcome State Fault Refusal :=
  .next (receiveCommand arg (queryStatusEffect arg) s)

/-- The present outlet an argument names (R162). -/
def outletArg (s : State) (arg : List Byte) : Option Nat := (oneByteArg arg).filter (present s)

/-- An entry for the tenant carries the unexpected mark (R72, R164). An unassigned outlet has none. -/
def anyUnexpected (s : State) (id : Nat) : Bool := s.table.any fun e => e.tenant == id && e.unexpected

/-- The flag byte of a QUERY_OUTLET response (R164, R176). Its bits 4 to 7, which the layout does not name, are 0 (DESIGN
CHOICE, log entry 28). -/
def outletFlags (s : State) (n : Nat) : Nat :=
  let r := relayOutlet s n
  (if r.lock then 1 else 0) + (if r.shed.isSome then 2 else 0) + (if (meterOutlet s n).unmeasured then 4 else 0) +
    (if r.tenant ≠ 0 ∧ anyUnexpected s r.tenant then 8 else 0)

/-- The data of a QUERY_OUTLET response (R164, spec/11). -/
def outletData (s : State) (n : Nat) : List Byte :=
  let r := relayOutlet s n
  [toByte n] ++ leBytes 2 r.tenant ++ [toByte r.cls, toByte r.relay.number, toByte (outletFlags s n)] ++
    leBytes 2 (meterOutlet s n).average ++ leBytes 2 (r.shed.getD 0)

/-- QUERY_OUTLET executed (R164). It finds the outlet records as a close whose work is in hand leaves them (R112; log
entry 26). -/
def queryOutletEffect (arg : List Byte) (s : State) : State :=
  match outletArg s arg with
  | some n => respond 0x02 .done (outletData (finishClose s) n) (finishClose s)
  | none => respond 0x02 .badArgument [] s

/-- QUERY_OUTLET (R164). -/
def execQueryOutlet (arg : List Byte) (s : State) : Host.Outcome State Fault Refusal :=
  .next (receiveCommand arg (queryOutletEffect arg) s)

/-! ## Outlet commands -/

/-- LOCK_OFF executed (R139, R165). A close whose work is in hand comes before the lock (R77, R112; log entry 26). -/
def lockOffEffect (arg : List Byte) (s : State) : State :=
  match outletArg s arg with
  | none => respond 0x03 .badArgument [] s
  | some n =>
    if (relayOutlet s n).cls = 0 then respond 0x03 .protectedOutlet [] s
    else respond 0x03 .accepted [] (lockOutlet n (finishClose s))

/-- LOCK_OFF (R139, R165). -/
def execLockOff (arg : List Byte) (s : State) : Host.Outcome State Fault Refusal :=
  .next (receiveCommand arg (lockOffEffect arg) s)

/-- UNLOCK executed (R139, R165). A close whose work is in hand comes before it (R112; log entry 26). -/
def unlockEffect (arg : List Byte) (s : State) : State :=
  match outletArg s arg with
  | none => respond 0x04 .badArgument [] s
  | some n => respond 0x04 .accepted [] (unlockOutlet n (finishClose s))

/-- UNLOCK (R139, R165). -/
def execUnlock (arg : List Byte) (s : State) : Host.Outcome State Fault Refusal :=
  .next (receiveCommand arg (unlockEffect arg) s)

/-- CLEAR_FAULT executed (R141, R165). A close whose work is in hand comes before it (R112; log entry 26), and leaves a
STUCK outlet STUCK. -/
def clearFaultEffect (arg : List Byte) (s : State) : State :=
  match outletArg s arg with
  | none => respond 0x05 .badArgument [] s
  | some n =>
    if (relayOutlet s n).relay = .stuck then respond 0x05 .accepted [] (clearStuck n (finishClose s))
    else respond 0x05 .notStuck [] s

/-- CLEAR_FAULT (R141, R165). -/
def execClearFault (arg : List Byte) (s : State) : Host.Outcome State Fault Refusal :=
  .next (receiveCommand arg (clearFaultEffect arg) s)

/-! ## Alert and record commands -/

/-- ACK_EVENTS executed (R151, R166). -/
def ackEventsEffect (arg : List Byte) (s : State) : State :=
  match twoByteSet arg with
  | none => respond 0x06 .badArgument [] s
  | some set => respond 0x06 .done [] (s.withAlert (s.alert.acknowledge set))

/-- ACK_EVENTS (R151, R166). -/
def execAckEvents (arg : List Byte) (s : State) : Host.Outcome State Fault Refusal :=
  .next (receiveCommand arg (ackEventsEffect arg) s)

/-- ALERT_N is released and the gap timer starts, or starts again, at the installed gap length (R152). -/
def startGap (s : State) : State :=
  s.withAlert { s.alert with gap := some (gapLength s.loader.params) }.refresh

/-- END_ALERT executed (R152, R166). -/
def endAlertEffect (arg : List Byte) (s : State) : State :=
  if arg = [] then respond 0x07 .done [] (startGap s) else respond 0x07 .badArgument [] s

/-- END_ALERT (R152, R166). -/
def execEndAlert (arg : List Byte) (s : State) : Host.Outcome State Fault Refusal :=
  .next (receiveCommand arg (endAlertEffect arg) s)

/-- The data of a FETCH_RECORD response (R167, spec/11). -/
def recordData (r : ExcursionRecord) : List Byte :=
  [toByte r.kind.number] ++ leBytes 2 r.tenant ++ leBytes 4 r.periodNumber.toNat ++ leBytes 3 r.draw ++
    leBytes 3 r.demand ++ leBytes 3 r.contract ++ leBytes 3 r.share ++ [toByte r.outlets.length] ++
    r.outlets.map toByte

/-- FETCH_RECORD executed (R157, R167). -/
def fetchRecordEffect (arg : List Byte) (s : State) : State :=
  if arg = [] then
    match s.records with
    | [] => respond 0x08 .empty [] s
    | r :: rest => respond 0x08 .done (recordData r) (s.withRecords rest)
  else respond 0x08 .badArgument [] s

/-- FETCH_RECORD (R157, R167). -/
def execFetchRecord (arg : List Byte) (s : State) : Host.Outcome State Fault Refusal :=
  .next (receiveCommand arg (fetchRecordEffect arg) s)

/-! ## Restart and unknown codes -/

/-- RESTART executed: DONE is answered, restart pending is set, and with it the coil takes no further job (R144, R168). -/
def restartEffect (arg : List Byte) (s : State) : State :=
  if arg = [] then (respond 0x09 .done [] s).withRestartPending true else respond 0x09 .badArgument [] s

/-- RESTART (R168). -/
def execRestart (arg : List Byte) (s : State) : Host.Outcome State Fault Refusal :=
  .next (receiveCommand arg (restartEffect arg) s)

/-- What executing a command of this code does; an unknown code is answered INVALID (R162, spec/11 "COMMAND payload"). -/
def commandEffect (code : Byte) (arg : List Byte) (s : State) : State :=
  match code.toNat with
  | 1 => queryStatusEffect arg s
  | 2 => queryOutletEffect arg s
  | 3 => lockOffEffect arg s
  | 4 => unlockEffect arg s
  | 5 => clearFaultEffect arg s
  | 6 => ackEventsEffect arg s
  | 7 => endAlertEffect arg s
  | 8 => fetchRecordEffect arg s
  | 9 => restartEffect arg s
  | _ => respond code .invalid [] s

/-- INVALID_COMMAND (R162): a command is executed by its code, and a code that is none of the nine is answered
INVALID. -/
def execInvalidCommand (code : Byte) (arg : List Byte) (s : State) : Host.Outcome State Fault Refusal :=
  .next (receiveCommand arg (commandEffect code arg) s)

/-! ## The end-alert gap -/

/-- The gap timer runs out, and the drive of ALERT_N is taken afresh (R153). -/
def endGap (s : State) : State := s.withAlert { s.alert with gap := none }.refresh

/-- GAP_EXPIRY (R153). Without a gap running there is no gap timer, and nothing happens. -/
def execGapExpiry (s : State) : Host.Outcome State Fault Refusal :=
  .next (if s.alert.gap.isSome then endGap s else s)

end Sys2Proof.Machine
end

