-- ==== Sys2Proof/Machine/Link.lean ====
section
/-! DEFINITION. The Link Transceiver and the Link Monitor (spec/02, spec/03): characters, frames and their delivery,
attempts, yields, faults and successes, and the rate search. -/

namespace Sys2Proof.Machine

/-! ## Frames -/

/-- The frame assembler takes a good character (R20, R21, R23). -/
def assembleByte (a : Assembler) (x : Byte) : Assembler :=
  match a with
  | .waitQuiet => .waitQuiet
  | .armed => if x = Config.sync then .inFrame [] else .waitQuiet
  | .inFrame b => if linkDropped (b ++ [x]) then .waitQuiet else .inFrame (b ++ [x])

/-- The receiver listens to the line for others: it has a rate, and the engine is not driving a frame of its own. -/
def listening (s : State) : Bool := receiverRuns s && s.link.sending.isNone

/-- The receiver listens, and no character is in progress: quiet time and gap time are being counted (R19, R22). -/
def betweenCharacters (s : State) : Bool := listening s && s.link.inCharacter.isEmpty

/-- The bytes of a frame that has all its characters and has not yet been judged. -/
def completedFrame (s : State) : Option (List Byte) :=
  match s.link.assembler with
  | .inFrame b => if listening s && linkComplete b then some b else none
  | _ => none

/-- The current link rate is adopted: the dwell timer stops, the link state becomes JOINED and an entry line check is
placed (R41, R42). -/
def adoptRate (s : State) : State :=
  let s := setLinkState .joined s
  placeCheck .entry (s.withMonitor { s.monitor with dwell := none })

/-- A REPORT is delivered: one with the own number takes the link state to DUPLICATE (R49); a malformed one is discarded
(R59); any other is taken (R58, R61). -/
def deliverReport (source : Nat) (p : List Byte) (s : State) : State :=
  if source = s.loader.station then
    if s.monitor.link = .alone ∨ s.monitor.link = .joined ∨ s.monitor.link = .muted then enterDuplicate s else s
  else if reportMalformed s.loader.station source p then s
  else takeReport source (reportTicks p) (reportEntries p) s

/-- A COMMAND is delivered: it is ignored unless it comes from source 0, for this station, with 2 to 4 bytes (R159). -/
def deliverCommand (source : Nat) (p : List Byte) (s : State) : State :=
  match p with
  | target :: code :: arg =>
    if source = 0 ∧ target.toNat = s.loader.station then receiveCommand arg (commandEffect code arg) s else s
  | _ => s

/-- A valid frame is delivered by its kind; a RESPONSE and a LINE_CHECK go to the Link Monitor alone (R25). -/
def deliverByKind (b : List Byte) (s : State) : State :=
  match linkKind b with
  | 1 => deliverReport (linkSource b) (linkPayload b) s
  | 2 => deliverCommand (linkSource b) (linkPayload b) s
  | _ => s

/-- The Link Monitor hears a valid frame (R25, R48). -/
def hearFrame (s : State) : State := s.withMonitor { s.monitor with heard := true }

/-- The frame is a REPORT that will be taken (R58, R59). -/
def bringsReport (b : List Byte) (s : State) : Bool :=
  decide (linkKind b = 1) && !reportMalformed s.loader.station (linkSource b) (linkPayload b)

/-- Before a frame that brings a report comes the rest of a close whose work is in hand, whose one reading the report is
not in (R77; log entry 26), and the roster takes what the last tick completion made due (log entry 7). -/
def settleForReport (b : List Byte) (s : State) : State :=
  if bringsReport b s then settleRoster (finishClose s) else s

/-- A valid frame is delivered: to the Link Monitor first, which in SEARCH adopts the rate, then by kind (R25, R41, R48);
after a frame that has ended the search, R47 is tested (log entry 8). -/
def deliverFrame (b : List Byte) (s : State) : State :=
  let s := settleForReport b s
  if s.monitor.link = .search then testAlone (deliverByKind b (adoptRate (hearFrame s)))
  else deliverByKind b (hearFrame s)

/-- A frame completion: the assembler goes to WAIT_QUIET, and a valid frame is delivered (R24, R25). -/
def completeFrame (s : State) : State :=
  match completedFrame s with
  | none => s
  | some b =>
    let s := s.withLink { s.link with assembler := .waitQuiet }
    if linkValid b then deliverFrame b s else s

/-- FRAME_COMPLETION (R24). A frame that lacks characters does not complete. -/
def execFrameCompletion (s : State) : Host.Outcome State Fault Refusal := .next (completeFrame s)

/-! ## Characters and quiet time -/

/-- A character whose eleven levels have been read is judged (R18, R20). -/
def judgeLevels (levels : BitVec 11) (s : State) : State :=
  match judgeCharacter levels with
  | .glitch => s.withLink { s.link with inCharacter := [], quiet := 0 }
  | .error =>
    reportCharError (s.withLink { s.link with assembler := .waitQuiet, inCharacter := [], quiet := 0, gap := 0 })
  | .good x =>
    s.withLink { s.link with assembler := assembleByte s.link.assembler x, inCharacter := [], quiet := 0, gap := 0 }

/-- One character is assembled and judged: from a start edge, or from the levels already read of the character in
progress (R18, R26). A frame that has all its characters has completed before the next start edge. -/
def takeCharacter (levels : BitVec 11) (s : State) : State :=
  if listening s then
    let s := completeFrame s
    judgeLevels (characterLevels s.link.inCharacter levels) s
  else s

/-- One more level of the character in progress is read; the eleventh completes it (R18, R26). -/
def takeLevel (level : Bool) (s : State) : State :=
  let read := s.link.inCharacter ++ [level]
  if read.length < 11 then s.withLink { s.link with inCharacter := read } else judgeLevels (characterLevels read 0) s

/-- CHARACTER (R18). Without a rate the receiver does not run (R37); while the engine drives a frame, what the receiver
reads is that frame (R26). -/
def execCharacter (levels : BitVec 11) (s : State) : Host.Outcome State Fault Refusal := .next (takeCharacter levels s)

/-- The character is the sixteenth error of a period without a frame heard, in ALONE (R48). -/
def sixteenthError (levels : BitVec 11) (s : State) : Bool :=
  decide (judgeCharacter (characterLevels s.link.inCharacter levels) = .error ∧ s.monitor.link = .alone ∧
    s.monitor.charErrors + 1 = Config.searchErrors ∧ s.monitor.heard = false)

/-- SEARCH_ON_CHARACTER_ERRORS (R48): the character error at which the link state goes from ALONE to SEARCH. -/
def execSearchOnCharacterErrors (levels : BitVec 11) (s : State) : Host.Outcome State Fault Refusal :=
  .next (if listening s ∧ sixteenthError levels (completeFrame s) = true then takeCharacter levels s else s)

/-- The line stays recessive for `n` bit times more (R19). -/
def quietFor (n : Nat) (s : State) : State := s.withLink (passQuiet n s.link)

/-- The line is recessive for one bit time more: a level of the character in progress, or else quiet time (R18, R19). -/
def restBit (s : State) : State := if s.link.inCharacter = [] then quietFor 1 s else takeLevel true s

/-- The frame assembler waits in WAIT_QUIET and the line stays recessive until the quiet time is 3 (R20). -/
def armAssembler (s : State) : State :=
  if s.link.assembler = .waitQuiet then quietFor (Config.armQuiet - s.link.quiet) s else s

/-- ASSEMBLER_ARMED (R20). Outside WAIT_QUIET there is nothing to arm, and in a character no quiet time to count. -/
def execAssemblerArmed (s : State) : Host.Outcome State Fault Refusal :=
  .next (if betweenCharacters s then armAssembler (completeFrame s) else s)

/-- GAP_ERROR (R22): the line stays recessive until the third bit time after the last stop bit has ended. Outside a
frame, in one that has all its characters, and while a character is in progress there is no gap to time. -/
def execGapError (s : State) : Host.Outcome State Fault Refusal :=
  .next (match s.link.assembler with
    | .inFrame b => if betweenCharacters s = true ∧ linkComplete b = false then quietFor (Config.gapQuiet - s.link.gap) s else s
    | _ => s)

/-! ## Sending -/

/-- The report that can be sent and its attempt count: READY marked new, or else an unfinished frame in SEND (R28). -/
def reportCandidate (x : Transceiver) : Option (SendKind × Nat) :=
  if x.readyNew then some (.report, 0) else x.send.map fun f => (.report, f.attempt)

/-- The transmit candidate and its attempt count: the first that is present and permitted of a line check request, a
full response slot and a report (R28). -/
def candidate (s : State) : Option (SendKind × Nat) :=
  let offered (k : SendKind) (c : Option (SendKind × Nat)) := if permits s.monitor.link k then c else none
  offered .lineCheck (s.monitor.check.map fun c => (.lineCheck, c.attempt)) <|>
  offered .response (s.link.slot.map fun r => (.response, r.attempt)) <|>
  offered .report (reportCandidate s.link)

/-- The access delay in access slots (R29). -/
def accessDelay (station attempt : Nat) : Nat := (station + 5 * attempt) % 16

/-- The start threshold in bit times of quiet (R29). -/
def startThreshold (station attempt : Nat) : Nat :=
  Config.idleInterval + Config.accessSlot * accessDelay station attempt

/-- READY marked new is exchanged with SEND, and the mark is cleared (R35). -/
def takeReady (x : Transceiver) : Transceiver :=
  if x.readyNew then
    { x with
      ready := x.send.map SendFrame.snapshot
      send := x.ready.map fun r => ⟨r, 0⟩
      readyNew := false }
  else x

/-- The engine begins the candidate's frame (R29, R35). -/
def beginFrame (k : SendKind) (s : State) : State :=
  let x := if k = .report then takeReady s.link else s.link
  s.withLink { x with sending := some k }

/-- The attempt start of the candidate, with the quiet time at its threshold or past it (R29). -/
def startAttempt (s : State) : State :=
  match candidate s with
  | none => s
  | some (k, attempt) => beginFrame k (quietFor (startThreshold s.loader.station attempt - s.link.quiet) s)

/-- ATTEMPT_START (R29). Without a candidate, while a frame is being driven and while a character is in progress no
attempt starts. -/
def execAttemptStart (s : State) : Host.Outcome State Fault Refusal :=
  .next (if betweenCharacters s then startAttempt (completeFrame s) else s)

/-- The attempt count of a frame rises by 1 modulo 16 (R29). -/
def nextAttempt (n : Nat) : Nat := (n + 1) % 16

/-- The attempt count of the frame of this kind rises, and the frame stays where it is (R30, R31). -/
def countAttempt (k : SendKind) (s : State) : State :=
  match k with
  | .lineCheck =>
    s.withMonitor { s.monitor with check := s.monitor.check.map fun c => { c with attempt := nextAttempt c.attempt } }
  | .response => s.withLink { s.link with slot := s.link.slot.map fun r => { r with attempt := nextAttempt r.attempt } }
  | .report => s.withLink { s.link with send := s.link.send.map fun f => { f with attempt := nextAttempt f.attempt } }

/-- Bit `bit` of the frame being driven is at this level (R17). -/
def drivenBit (s : State) (k : SendKind) (bit : Nat) (level : Bool) : Bool :=
  decide (bit < 11 * (outFrame s k).length) && (frameBit (outFrame s k) bit == level)

/-- The receiver's copy of the frame after the whole characters before bit `bit` (R26). -/
def copySoFar (frame : List Byte) (bit : Nat) : Assembler := (frame.take (bit / 11)).foldl assembleByte .armed

/-- The levels read of the character in which bit `bit` of the frame stands, before that bit (R26). -/
def characterSoFar (frame : List Byte) (bit : Nat) : List Bool :=
  (List.range (bit % 11)).map fun i => frameBit frame (bit / 11 * 11 + i)

/-- The station stops driving at bit `bit` and the attempt count rises; the receiver has its copy of the frame, the
character in progress included, up to that bit (R26, R30). -/
def stopDriving (k : SendKind) (bit : Nat) (s : State) : State :=
  countAttempt k (s.withLink { s.link with
    sending := none, assembler := copySoFar (outFrame s k) bit, inCharacter := characterSoFar (outFrame s k) bit
    quiet := 0, gap := 0 })

/-- The station yields at bit `bit`, which reads dominant: the receiver goes on with the other party's frame from there
(R26, R30). -/
def yieldFrame (k : SendKind) (bit : Nat) (s : State) : State := takeLevel false (stopDriving k bit s)

/-- YIELD (R30). A yield comes at a recessive bit of the frame being driven and nowhere else. -/
def execYieldLine (bit : Nat) (s : State) : Host.Outcome State Fault Refusal :=
  .next (match s.link.sending with
    | some k => if drivenBit s k bit true then yieldFrame k bit s else s
    | none => s)

/-- The quiet time after a transmit fault at bit `bit`. The faulty bit never reached the line, so it goes on from the last
dominant bit: from before the frame where the first bit is the faulty one, else through the recessive bits of the
frame that stand right before it (R19, R31). -/
def quietAfterFault (frame : List Byte) (bit quiet : Nat) : Nat := if bit = 0 then quiet else recessiveRun frame bit

/-- The engine drops the frame at a transmit fault, and the receiver its copy (R26, R31). The assembler waits for the
quiet time to reach 3, and where it is past 3 already is armed at the next bit time (log entry 23). -/
def dropFrame (frame : List Byte) (bit : Nat) (s : State) : State :=
  s.withLink { s.link with
    sending := none, assembler := .waitQuiet, inCharacter := []
    quiet := quietAfterFault frame bit s.link.quiet, gap := 0 }

/-- A line check has failed: an entry check takes the link state to MUTED, a periodic one sets the countdown to 64
(R42, R43). -/
def checkFailed (s : State) : State :=
  match s.monitor.check with
  | some ⟨.entry, _⟩ => enterMuted s
  | some ⟨.periodic, _⟩ => s.withMonitor { s.monitor with check := none, countdown := Config.checkSpacing }
  | none => s

/-- A transmit fault on a response or a report is counted; the third takes the link state to MUTED (R44). -/
def countFault (s : State) : State :=
  let s := s.withMonitor { s.monitor with faults := s.monitor.faults + 1 }
  if Config.faultLimit ≤ s.monitor.faults then enterMuted s else s

/-- A transmit fault at bit `bit` of the frame of this kind (R31). -/
def faultFrame (k : SendKind) (bit : Nat) (s : State) : State :=
  let s := dropFrame (outFrame s k) bit s
  match k with
  | .lineCheck => checkFailed s
  | .response => countFault (countAttempt .response s)
  | .report => countFault (countAttempt .report s)

/-- TRANSMIT_FAULT (R31). A fault comes at a dominant bit of the frame being driven and nowhere else. -/
def execTransmitFault (bit : Nat) (s : State) : Host.Outcome State Fault Refusal :=
  .next (match s.link.sending with
    | some k => if drivenBit s k bit false then faultFrame k bit s else s
    | none => s)

/-- TX_FAULT_LIMIT (R44): the transmit fault on a response or a report that brings the consecutive count to 3. -/
def execTxFaultLimit (bit : Nat) (s : State) : Host.Outcome State Fault Refusal :=
  .next (match s.link.sending with
    | some k =>
      if k ≠ .lineCheck ∧ drivenBit s k bit false = true ∧ s.monitor.faults + 1 = Config.faultLimit then faultFrame k bit s
      else s
    | none => s)

/-- A line check has passed: the consecutive-fault count becomes 0, and from MUTED the link state becomes JOINED or
ALONE (R42, R43). -/
def checkPassed (s : State) : State :=
  match s.monitor.check with
  | some ⟨.entry, _⟩ => s.withMonitor { s.monitor with check := none, faults := 0 }
  | some ⟨.periodic, _⟩ =>
    let s := s.withMonitor { s.monitor with check := none, faults := 0, countdown := 0 }
    if allAbsent s then enterAlone s else setLinkState .joined s
  | none => s

/-- The frame of this kind has been sent successfully (R26, R32). -/
def sentFrame (k : SendKind) (s : State) : State :=
  let s := s.withLink { s.link with
    sending := none, assembler := .waitQuiet, inCharacter := [], quiet := 0, gap := 0 }
  match k with
  | .lineCheck => checkPassed s
  | .response => (s.withLink { s.link with slot := none }).withMonitor { s.monitor with faults := 0 }
  | .report => (s.withLink { s.link with send := none }).withMonitor { s.monitor with faults := 0 }

/-- TRANSMIT_SUCCESS (R32). Without a frame being driven nothing succeeds. -/
def execTransmitSuccess (s : State) : Host.Outcome State Fault Refusal :=
  .next (match s.link.sending with
    | some k => sentFrame k s
    | none => s)

/-! ## The rate search -/

/-- The dwell timer runs out in SEARCH: the next rate of the sweep, or after the fourth dwell ALONE at the default rate
with an entry line check (R40). -/
def nextDwell (s : State) : State :=
  if s.monitor.searchPosition < 4 then
    let s' := setRate ((sweep (defaultRate s)).getD s.monitor.searchPosition (defaultRate s)) s
    s'.withMonitor { s'.monitor with
      searchPosition := s.monitor.searchPosition + 1, dwell := some Config.dwellTime }
  else
    let s := setRate (defaultRate s) s
    placeCheck .entry (enterAlone (s.withMonitor { s.monitor with dwell := none }))

/-- DWELL_EXPIRY (R40). The dwell timer runs in SEARCH only. -/
def execDwellExpiry (s : State) : Host.Outcome State Fault Refusal :=
  .next (if s.monitor.link = .search ∧ s.monitor.dwell.isSome = true then nextDwell s else s)

end Sys2Proof.Machine
end

