-- ==== Sys2Proof/Machine/Meter.lean ====
section
/-! DEFINITION. Ticks, read cycles and captured frames (spec/01): the commands TICK, CAPTURE_COMPLETION and
OUTLET_UNMEASURED. -/

namespace Sys2Proof.Machine

/-- The record of converter `c`. -/
def converter (s : State) (c : Nat) : Converter := s.meter.converters.getD (c - 1) Converter.blank

/-- Replace the record of converter `c`. -/
def setConverter (c : Nat) (x : Converter) (s : State) : State :=
  s.withMeter { s.meter with converters := s.meter.converters.set (c - 1) x }

/-- Change the eight outlets of converter `c`, 8c − 7 to 8c; `f` is given the channel, 1 to 8 (R4, R5). -/
def changeConverterOutlets (c : Nat) (f : Nat → MeterOutlet → MeterOutlet) (s : State) : State :=
  s.withMeter { s.meter with outlets := s.meter.outlets.mapIdx fun i o =>
    if 8 * (c - 1) ≤ i ∧ i < 8 * c then f (i - 8 * (c - 1) + 1) o else o }

/-- The applied samples of an accepted frame of converter `c`, by outlet (R4). -/
def appliedSample (c : Nat) (f : List Byte) (n : Nat) : Option Nat :=
  if 8 * (c - 1) < n ∧ n ≤ 8 * c then some (sampleOf f (n - 8 * (c - 1))) else none

/-- An accepted frame is applied to all eight outlets together, and its samples are handed to the Relay Driver (R4). -/
def applyFrame (c : Nat) (f : List Byte) (s : State) : State :=
  let s := changeConverterOutlets c
    (fun j o => { o with held := sampleOf f j, missed := 0, unmeasured := false })
    (setConverter c ⟨some f, some (frameSequence f)⟩ s)
  takeVerifySample (appliedSample c f) s

/-- One missed tick of an outlet: the count rises, saturating at 5, and the fifth makes it UNMEASURED (R5, R6). -/
def missTick (o : MeterOutlet) : MeterOutlet :=
  { o with
    missed := min Config.missedLimit (o.missed + 1)
    unmeasured := o.unmeasured || decide (o.missed + 1 = Config.missedLimit) }

/-- An outlet of converter `c` has a missed count of 4, so that one more rejection makes it UNMEASURED (R6). -/
def unmeasuredDue (s : State) (c : Nat) : Bool :=
  ((s.meter.outlets.drop (8 * (c - 1))).take 8).any fun o => decide (o.missed + 1 = Config.missedLimit)

/-- A rejected frame is dropped and counts as one missed tick for the eight outlets; SAMPLE_FAULT is raised once where
they become UNMEASURED (R5, R6). -/
def missFrame (c : Nat) (s : State) : State :=
  let s' := changeConverterOutlets c (fun _ => missTick) (setConverter c { converter s c with buffer := none } s)
  if unmeasuredDue s c then raise .sampleFault s' else s'

/-- The tick completion: held samples are accumulated, the tick count rises (R7), and the roster's ages rise (R52). -/
def completeTick (s : State) : State :=
  let n := 8 * s.loader.params.converterCount
  let outlets := s.meter.outlets.mapIdx fun i o =>
    if i < n then { o with accumulator := o.accumulator + o.held } else o
  ((s.withMeter { s.meter with outlets := outlets }).withTime { s.time with tickCount := s.time.tickCount + 1 }).withRoster
    (s.roster.map ageRecord)

/-- The read of converter `c` ends: the next converter is read, or the read cycle ends with the tick completion (R2). -/
def endRead (c : Nat) (s : State) : State :=
  if c < s.loader.params.converterCount then s.withMeter { s.meter with reading := some (c + 1) }
  else completeTick (s.withMeter { s.meter with reading := none })

/-- What the last tick completion has made due and the rules bring about before the next tick: the rest of a close in
hand, a waiting open verify, the roster's changes, the period close (R2, R8, R52, R53, R77; log entries 7 and 26). -/
def takeDueWork (s : State) : State :=
  let s := settleRoster (verifyOpen (finishClose s))
  if closeDue s then closePeriod s else s

/-- A tick starts a read cycle at converter 1 (R1, R2). -/
def startRead (s : State) : State :=
  let s := takeDueWork s
  s.withMeter { s.meter with reading := some 1 }

/-- TICK (R1, R2). The timer must run; a read cycle in hand ends before the next tick (R2), so while one is in hand no
tick comes. -/
def execTick (s : State) : Host.Outcome State Fault Refusal :=
  .next (if s.time.running ∧ s.meter.reading = none then startRead s else s)

/-- CAPTURE_COMPLETION (R3 to R7): the frame of the converter being read is judged, then applied or counted as missed.
Without a read cycle in hand no frame is captured. -/
def execCaptureCompletion (frame : List Byte) (s : State) : Host.Outcome State Fault Refusal :=
  .next (match s.meter.reading with
    | none => s
    | some c =>
      if frameAccepted (converter s c).lastSequence (capturedBytes frame) then
        endRead c (applyFrame c (capturedBytes frame) s)
      else endRead c (missFrame c s))

/-- OUTLET_UNMEASURED (R6): the frame being read is rejected and the missed counts of its outlets go from 4 to 5. -/
def execOutletUnmeasured (s : State) : Host.Outcome State Fault Refusal :=
  .next (match s.meter.reading with
    | none => s
    | some c => if unmeasuredDue s c then endRead c (missFrame c s) else s)

end Sys2Proof.Machine
end

