-- ==== Sys2Proof/Machine/Start.lean ====
section
/-! DEFINITION. Resets, the start image and its installation (spec/11; R74 to R76, R92, R93, R143 to R146). -/

namespace Sys2Proof.Machine

/-! ## Power-on reset -/

/-- POWER_ON_RESET (R170): every block takes its power-on values and the load state becomes HELD. -/
def execPowerOnReset (s : State) : Host.Outcome State Fault Refusal := .next (State.reset.withPending s.pending)

/-- The station number a strap value gives (R170). -/
def stationOfStraps (straps : BitVec 4) : Nat := straps.toNat + 1

/-- The hold ends: the straps are sampled and the image read begins (R170, R171). -/
def endHold (straps : BitVec 4) (s : State) : State :=
  s.withLoader { s.loader with load := .reading, afterRestart := false, station := stationOfStraps straps }

/-- HOLD_END (R170). Outside the load state HELD there is no hold to end. -/
def execHoldEnd (straps : BitVec 4) (s : State) : Host.Outcome State Fault Refusal :=
  .next (if s.loader.load = .held then endHold straps s else s)

/-! ## Installation -/

/-- The tenant record that record `i` of the image gives, with the levels of R76 and the run state of R75 and R92. -/
def imageTenantRecord (im : List Byte) (i : Nat) : Tenant :=
  let o := imageRecord i
  let units := max 1 (imageWord im (o + 2))
  let w := clampTo 8 16 (imageByte im (o + 4))
  let b := clampTo 16 32 (imageByte im (o + 5))
  let h := min 15 (imageByte im (o + 6))
  let c := units * 100
  { id := imageTenantId im i
    units := units
    w := w
    b := b
    h := h
    graceSetting := imageByte im (o + 7)
    enforce := (serialByte im (o + 8)).getLsbD 0
    expected := BitVec.ofNat 16 (imageWord im (o + 9))
    contract := c
    warn := c * w / 16
    burst := c * b / 16
    release := c - c * h / 64
    subtotal := 0
    draw := 0
    demand := 0
    view := .complete
    overflow := 0
    standing := .clear
    grace := 0
    settle := 0
    restore := 0 }

/-- The tenant records of the image, in image order (R74). -/
def imageTenantRecords (im : List Byte) : List Tenant := (List.range (imageTenants im)).map (imageTenantRecord im)

/-- The switching record of outlet `n` at an installation after a power-on reset (R143). -/
def startOutlet (im : List Byte) (n : Nat) : RelayOutlet :=
  let off := imageOutletOff im n
  ⟨imageOutletTenant im n, imageOutletClass im n, if off then .openPending else .closePending, off, none⟩

/-- The START job of outlet `n`: OPEN for a locked outlet, CLOSE for the others (R143). -/
def startJob (im : List Byte) (n : Nat) : Job := ⟨n, if imageOutletOff im n then .toOpen else .toClose, .start⟩

/-- Records and START jobs for every present outlet in outlet-number order; the coil takes the first at once (R143). -/
def installPowerOn (im : List Byte) (s : State) : State :=
  coilTake (s.withRelay
    { outlets := outletNumbers.map fun n => if present s n then startOutlet im n else RelayOutlet.blank
      queue := (presentOutlets s).map (startJob im)
      coil := none })

/-- The switching record of outlet `n` at an installation after a restart reset: relay state and lock are kept, the shed
flag only where the tenant id is the same and the new class is 1 to 15 (R145). -/
def keptOutlet (im : List Byte) (n : Nat) (r : RelayOutlet) : RelayOutlet :=
  { r with
    tenant := imageOutletTenant im n
    cls := imageOutletClass im n
    shed := if r.tenant = imageOutletTenant im n ∧ 1 ≤ imageOutletClass im n then r.shed else none }

/-- The desired state of an outlet in ON or OFF is compared; other outlets are left as they are (R145). -/
def compareSettled (s : State) (n : Nat) : State :=
  if (relayOutlet s n).relay = .on ∨ (relayOutlet s n).relay = .off then compareDesired n s else s

/-- The kept switching records under the re-read image, compared in outlet-number order (R145). -/
def installRestart (im : List Byte) (s : State) : State :=
  let s' := s.withRelay { s.relay with
    outlets := outletNumbers.map fun n => if present s n then keptOutlet im n (relayOutlet s n) else RelayOutlet.blank }
  (presentOutlets s').foldl compareSettled s'

/-- A tenant with a kept shed outlet starts in RECOVER, with the restore counter at the restore spacing (R93). -/
def startStanding (s : State) (t : Tenant) : Tenant :=
  if shedOutlets s t.id = [] then t else { t with standing := .recover, restore := s.loader.params.spacing }

/-- An accepted image is installed: every block receives its part (R74, R82, R149, R174, R175). -/
def install (im : List Byte) (s : State) : State :=
  let p := imageParams im
  let s := s.withLoader { s.loader with load := .installed, params := p }
  let s := s.withTime { s.time with running := true }
  let s := s.withAlert { s.alert with mask := p.alertMask }.refresh
  let s := if s.loader.afterRestart then installRestart im s else installPowerOn im s
  let s := s.withRecon ⟨(imageTenantRecords im).map (startStanding s), p.expire, true⟩
  enterSearch s

/-- A rejected image: the load state becomes REJECTED, no switching record stands and IMAGE_FAULT is raised
(R146, R172, R175). -/
def reject (s : State) : State :=
  raise .imageFault ((s.withRelay RelayDriver.reset).withLoader { s.loader with load := .rejected })

/-- IMAGE_READ_COMPLETE (R171, R172): the bytes that have been read are judged whole, and the image is then installed or
rejected. Outside the load state READING no read is in hand. -/
def execImageReadComplete (image : List Byte) (s : State) : Host.Outcome State Fault Refusal :=
  .next (if s.loader.load = .reading then
    (if imageAccepted (imageRead image) then install (imageRead image) s else reject s)
  else s)

/-! ## Restart reset -/

/-- The relay state an outlet had before its job was queued (R144). -/
def stateBeforeJob (j : Job) : RelayState :=
  match j.origin, j.dir with
  | .start, _ => .unknown
  | .change, .toOpen => .on
  | .change, .toClose => .off

/-- Every queued job is discarded, and its outlet returns to its earlier relay state (R144). -/
def discardJobs (s : State) : State :=
  let s' := s.relay.queue.foldl
    (fun s j => setRelayOutlet j.outlet (fun r => { r with relay := stateBeforeJob j }) s) s
  s'.withRelay { s'.relay with queue := [] }

/-- The restart is pending, its response is done with and the coil is free (R168). -/
def restartDue (s : State) : Bool := s.restartPending && s.link.slot.isNone && s.relay.coil.isNone

/-- The restart reset: power-on values but for the switching records, the straps sampled afresh and the load state
READING (R175). -/
def restartStation (straps : BitVec 4) (s : State) : State :=
  ((State.reset.withRelay (discardJobs s).relay).withLoader
    { Loader.reset with load := .reading, afterRestart := true, station := stationOfStraps straps }).withPending s.pending

/-- RESTART_RESET (R168, R175). Until the response is done with and the coil is free the reset does not begin. The spec
gives no order between the reset and the period close, LATE and expiry of a tick completion at the same moment; that the
reset, taken first, leaves them untaken, and that a close whose work is in hand is finished before it, is the model's
choice (log entry 27). -/
def execRestartReset (straps : BitVec 4) (s : State) : Host.Outcome State Fault Refusal :=
  .next (if restartDue s then restartStation straps (finishClose s) else s)

end Sys2Proof.Machine
end

