-- ==== Sys2Proof/Machine/Dispatch.lean ====
section
/-! DEFINITION. exec: one arm for each command, each one call of the command's meaning. -/

namespace Sys2Proof.Machine

def exec (i : Instr) (s : State) : Host.Outcome State Fault Refusal :=
  match i with
  | .powerOnReset => Sys2Proof.Machine.execPowerOnReset s
  | .holdEnd straps => Sys2Proof.Machine.execHoldEnd straps s
  | .imageReadComplete image => Sys2Proof.Machine.execImageReadComplete image s
  | .tick => Sys2Proof.Machine.execTick s
  | .captureCompletion frame => Sys2Proof.Machine.execCaptureCompletion frame s
  | .outletUnmeasured => Sys2Proof.Machine.execOutletUnmeasured s
  | .stationLate station => Sys2Proof.Machine.execStationLate station s
  | .stationExpiry station => Sys2Proof.Machine.execStationExpiry station s
  | .periodClose => Sys2Proof.Machine.execPeriodClose s
  | .graceExpiry tenant => Sys2Proof.Machine.execGraceExpiry tenant s
  | .settleExpiry tenant => Sys2Proof.Machine.execSettleExpiry tenant s
  | .restoreCounterExpiry tenant => Sys2Proof.Machine.execRestoreCounterExpiry tenant s
  | .checkCountdownExpiry => Sys2Proof.Machine.execCheckCountdownExpiry s
  | .character levels => Sys2Proof.Machine.execCharacter levels s
  | .searchOnCharacterErrors levels => Sys2Proof.Machine.execSearchOnCharacterErrors levels s
  | .assemblerArmed => Sys2Proof.Machine.execAssemblerArmed s
  | .gapError => Sys2Proof.Machine.execGapError s
  | .frameCompletion => Sys2Proof.Machine.execFrameCompletion s
  | .queryStatus arg => Sys2Proof.Machine.execQueryStatus arg s
  | .queryOutlet arg => Sys2Proof.Machine.execQueryOutlet arg s
  | .lockOff arg => Sys2Proof.Machine.execLockOff arg s
  | .unlock arg => Sys2Proof.Machine.execUnlock arg s
  | .clearFault arg => Sys2Proof.Machine.execClearFault arg s
  | .ackEvents arg => Sys2Proof.Machine.execAckEvents arg s
  | .endAlert arg => Sys2Proof.Machine.execEndAlert arg s
  | .fetchRecord arg => Sys2Proof.Machine.execFetchRecord arg s
  | .restart arg => Sys2Proof.Machine.execRestart arg s
  | .invalidCommand code arg => Sys2Proof.Machine.execInvalidCommand code arg s
  | .attemptStart => Sys2Proof.Machine.execAttemptStart s
  | .yieldLine bit => Sys2Proof.Machine.execYieldLine bit s
  | .transmitFault bit => Sys2Proof.Machine.execTransmitFault bit s
  | .txFaultLimit bit => Sys2Proof.Machine.execTxFaultLimit bit s
  | .transmitSuccess => Sys2Proof.Machine.execTransmitSuccess s
  | .dwellExpiry => Sys2Proof.Machine.execDwellExpiry s
  | .pulseEnd => Sys2Proof.Machine.execPulseEnd s
  | .settleEnd => Sys2Proof.Machine.execSettleEnd s
  | .openVerify => Sys2Proof.Machine.execOpenVerify s
  | .gapExpiry => Sys2Proof.Machine.execGapExpiry s
  | .restartReset straps => Sys2Proof.Machine.execRestartReset straps s

end Sys2Proof.Machine
end

