-- ==== Sys2Proof/Machine/Idle.lean ====
section
/-! DEFINITION. What the station does of itself while no command waits: it takes what has become due, and else lets one
bit time pass with the line at rest (log entry 6). -/

namespace Sys2Proof.Machine

/-- The last tick completion has left work that has not yet been taken. -/
def tickWorkDue (s : State) : Bool :=
  s.meter.reading.isNone && (closeDue s || stationNumbers.any (fun n => lateDue s n || expiryDue s n))

/-- The quiet time has reached the candidate's start threshold (R29). -/
def attemptDue (s : State) : Bool :=
  betweenCharacters s && (candidate s).any fun c => decide (startThreshold s.loader.station c.2 ≤ s.link.quiet)

/-- The work that the last tick completion made due is taken: the roster's changes, and the beginning of a period close,
whose work on the tenants then is in hand (R52, R53, R77; log entry 26). -/
def beginDueWork (s : State) : State :=
  let s := settleRoster s
  if closeDue s then beginClose s else s

/-- A step with no command waiting: a frame completion, the next part of a close in hand, an open verify, the work of a
tick completion or an attempt start that is due is taken, in this order; with nothing due the line rests for one bit
time (R18, R19). -/
def idle (s : State) : State :=
  if (completedFrame s).isSome then completeFrame s
  else if s.closeInHand ≠ none then workOn s
  else if verifyDue s then verifyOpen s
  else if tickWorkDue s then beginDueWork s
  else if attemptDue s then startAttempt s
  else if listening s then restBit s
  else s

end Sys2Proof.Machine
end

