-- ==== Sys2Proof/Safety.lean ====
section
/-! DEFINITION. What always holds of a station: the rules of spec/ that speak of every moment, each as a predicate on
the state, and the words in which the statements about single commands are put. -/

namespace Sys2Proof.Machine

/-! ## The rules that hold at every moment -/

/-- R150: ALERT_N is driven low exactly when an unmasked latch or the IMAGE_FAULT latch is set and no end-alert gap is
running. -/
def AlertRule (s : State) : Prop :=
  s.alert.low = true ↔
    s.alert.gap = none ∧ ∃ k : EventKind,
      latched s k = true ∧ (k = .imageFault ∨ s.alert.mask.getLsbD k.number = false)

/-- R26, R27, R33, R35, R36: what is being driven, and what waits to be sent, is permitted in the link state that holds;
the frame being driven is one the station holds; and no character of another party is in progress while it is driven.
R19, R22: the quiet time saturates at 255; inside a frame it and the gap time stay below 3. -/
structure TransmitRule (s : State) : Prop where
  driven : ∀ k, s.link.sending = some k → permits s.monitor.link k = true
  slot : s.link.slot ≠ none → permits s.monitor.link .response = true
  send : s.link.send ≠ none → permits s.monitor.link .report = true
  check : s.monitor.check ≠ none → permits s.monitor.link .lineCheck = true
  checkHeld : s.link.sending = some .lineCheck → s.monitor.check ≠ none
  responseHeld : s.link.sending = some .response → s.link.slot ≠ none
  reportHeld : s.link.sending = some .report → s.link.send ≠ none
  readyHeld : s.link.readyNew = true → s.link.ready ≠ none
  character : s.link.sending ≠ none → s.link.inCharacter = []
  short : s.link.inCharacter.length < 11
  quiet : s.link.quiet ≤ 255
  gap : ∀ b, s.link.assembler = .inFrame b → linkComplete b = false → s.link.gap < 3 ∧ s.link.quiet ≤ s.link.gap

/-- R14, R38, R73, R75, R146, R158: until an image is installed the station is at rest. -/
structure RestRule (s : State) : Prop where
  meter : s.meter = Meter.reset
  time : s.time = TimeBase.reset
  link : s.monitor.link = .linkOff
  rate : s.monitor.rate = none
  sending : s.link.sending = none
  roster : s.roster = List.replicate 16 RosterRecord.blank
  table : s.table = []
  tenants : s.recon.tenants = []
  queue : s.relay.queue = []
  coil : s.relay.coil = none
  closeInHand : s.closeInHand = none

/-- The rule of a station whose image is not installed. -/
def RestUntilInstalled (s : State) : Prop := s.loader.load ≠ .installed → RestRule s

/-- R4 to R8: the ranges of the Outlet Meter's figures, and UNMEASURED exactly at five missed ticks. -/
structure MeterRule (s : State) : Prop where
  outlets : s.meter.outlets.length = 24
  converters : s.meter.converters.length = 3
  held : ∀ n, (meterOutlet s n).held ≤ 40000
  missed : ∀ n, (meterOutlet s n).missed ≤ 5
  unmeasured : ∀ n, (meterOutlet s n).unmeasured = true ↔ (meterOutlet s n).missed = 5
  accumulator : ∀ n, present s n = true → (meterOutlet s n).accumulator ≤ 40000 * s.time.tickCount
  average : ∀ n, (meterOutlet s n).average ≤ 40000
  ticks : s.time.tickCount ≤ s.loader.params.periodTicks
  inRead : s.meter.reading ≠ none → s.time.tickCount < s.loader.params.periodTicks
  reading : ∀ c, s.meter.reading = some c → 1 ≤ c ∧ c ≤ s.loader.params.converterCount
  started : s.loader.load = .installed →
    5 ≤ s.loader.params.periodTicks ∧ 1 ≤ s.loader.params.converterCount ∧ s.loader.params.converterCount ≤ 3

/-- R134, R135: the queue and the coil together hold at most one job for any outlet; an outlet is pending exactly while
its job is queued and working exactly while the coil holds its job; a free coil leaves no job waiting unless a restart
is pending. -/
structure RelayRule (s : State) : Prop where
  outlets : s.relay.outlets.length = 24
  oneJob : ((s.relay.coil.map fun c => c.job.outlet).toList ++ s.relay.queue.map Job.outlet).Nodup
  queued : ∀ j ∈ s.relay.queue,
    1 ≤ j.outlet ∧ j.outlet ≤ 24 ∧ (relayOutlet s j.outlet).relay = j.dir.pending
  held : ∀ c, s.relay.coil = some c →
    1 ≤ c.job.outlet ∧ c.job.outlet ≤ 24 ∧ (relayOutlet s c.job.outlet).relay = c.job.dir.working
  pendingHasJob : ∀ n d, 1 ≤ n → n ≤ 24 → (relayOutlet s n).relay = JobDir.pending d →
    ∃ j ∈ s.relay.queue, j.outlet = n
  workingHasCoil : ∀ n d, 1 ≤ n → n ≤ 24 → (relayOutlet s n).relay = JobDir.working d →
    ∃ c, s.relay.coil = some c ∧ c.job.outlet = n
  verifyOpens : ∀ j x, s.relay.coil = some ⟨j, .verify x⟩ → j.dir = .toOpen
  taken : s.relay.coil = none → s.restartPending = false → s.relay.queue = []

/-- R139, R140: an outlet of class 0, a locked one, a STUCK one, an unassigned and an absent one never carries the shed
flag. -/
structure ShedRule (s : State) : Prop where
  shed : ∀ n, 1 ≤ n → (relayOutlet s n).shed ≠ none →
    1 ≤ (relayOutlet s n).cls ∧ (relayOutlet s n).lock = false ∧ (relayOutlet s n).relay ≠ .stuck ∧
      (relayOutlet s n).tenant ≠ 0 ∧ (s.loader.load = .installed → present s n = true)
  tenants : ∀ t ∈ s.recon.tenants, t.id ≠ 0

/-- R50, R52, R62: the roster's records, and the Contribution Table: at most 128 entries, one for a pair, in its order,
each from a peer that is LIVE or LATE and for a local tenant; and no overflow bit beside its entry. -/
structure TableRule (s : State) : Prop where
  records : s.roster.length = 16
  own : (rosterRecord s s.loader.station).state = .absent
  limit : s.table.length ≤ 128
  order : s.table.Pairwise fun a b => a.source < b.source ∨ (a.source = b.source ∧ a.tenant < b.tenant)
  entries : ∀ e ∈ s.table,
    1 ≤ e.source ∧ e.source ≤ 16 ∧ e.source ≠ s.loader.station ∧ (rosterRecord s e.source).state ≠ .absent ∧
      (∃ t ∈ s.recon.tenants, t.id = e.tenant) ∧ e.value ≤ 960000
  overflow : ∀ e ∈ s.table, ∀ t ∈ s.recon.tenants, t.id = e.tenant → hasStation t.overflow e.source = false
  station : 1 ≤ s.loader.station ∧ s.loader.station ≤ 16

/-- R74, R106, R156, R172: the tenant records carry different ids; a tenant with shed outlets here is in CURTAIL or
RECOVER, and a tenant in RECOVER has one, but for the tenant whose departure a close in hand takes next (R104); the Record
Queue holds at most 16 records. -/
structure ExcursionRule (s : State) : Prop where
  ids : (s.recon.tenants.map Tenant.id).Nodup
  shedding : ∀ r ∈ s.recon.tenants, shedOutlets s r.id ≠ [] → r.standing = .curtail ∨ r.standing = .recover
  recovering : ∀ r ∈ s.recon.tenants, r.standing = .recover →
    shedOutlets s r.id ≠ [] ∨ ∃ rest, s.closeInHand = some ⟨.departure, r.id :: rest⟩
  records : s.records.length ≤ 16

/-! ## Words of the statements -/

/-- A command of the gateway that arrives now is executed (R159 to R161). -/
structure CommandTaken (arg : List Byte) (s : State) : Prop where
  length : arg.length ≤ 2
  link : s.monitor.link = .alone ∨ s.monitor.link = .joined ∨ s.monitor.link = .muted ∨ s.monitor.link = .duplicate
  slot : s.link.slot = none
  restart : s.restartPending = false

/-- The Link Transceiver once the answer has been placed: it fills the slot in ALONE and JOINED, and elsewhere the slot
is emptied at the moment it is filled (R33, R161). -/
def answered (s : State) (code : Byte) (result : Result) (data : List Byte) : Transceiver :=
  { s.link with
    slot := if s.monitor.link = .alone ∨ s.monitor.link = .joined then some ⟨code, result, data, 0⟩ else none }

/-- The row of the table that a command code stands for (spec/11, "COMMAND payload"). -/
def gatewayRow (code : Byte) (arg : List Byte) : Instr :=
  match code.toNat with
  | 1 => .queryStatus arg
  | 2 => .queryOutlet arg
  | 3 => .lockOff arg
  | 4 => .unlock arg
  | 5 => .clearFault arg
  | 6 => .ackEvents arg
  | 7 => .endAlert arg
  | 8 => .fetchRecord arg
  | 9 => .restart arg
  | _ => .invalidCommand code arg

/-- The receiver runs, the engine drives nothing, and no frame waits to be judged (R16, R24, R26). -/
structure LineFree (s : State) : Prop where
  rate : s.monitor.rate ≠ none
  sending : s.link.sending = none
  frame : completedFrame s = none

/-- The levels of a character go on from those of it that have been read already; between characters any do (R18, R26). -/
structure GoesOn (levels : BitVec 11) (s : State) : Prop where
  short : s.link.inCharacter.length < 11
  agree : ∀ i b, s.link.inCharacter[i]? = some b → levels.getLsbD i = b

/-- The station once the Link Monitor has heard a valid frame that has just completed: frame heard is set, and in SEARCH
the current rate is adopted, with the link state JOINED and an entry line check placed (R24, R25, R41, R48). -/
def heard (s : State) : State :=
  { s with
    link := { s.link with assembler := .waitQuiet }
    monitor :=
      if s.monitor.link = .search then
        { s.monitor with heard := true, link := .joined, dwell := none, check := some ⟨.entry, 0⟩ }
      else { s.monitor with heard := true } }

/-- A frame that was heard in state `s` and handled by its own block in state `u` ends in state `t`: where it has ended
the search and every roster record is still ABSENT, JOINED is left for ALONE with LINK_ALONE (R41, R47). -/
def SearchTested (s u t : State) : Prop :=
  if s.monitor.link = .search ∧ ∀ r ∈ u.roster, r.state = .absent then
    t.monitor = { u.monitor with link := .alone, charErrors := 0, heard := false } ∧
    t.alert.latches = u.alert.latches ||| 0x0200#16 ∧ t.alert.mask = u.alert.mask ∧ t.alert.gap = u.alert.gap ∧
    t = { u with monitor := t.monitor, alert := t.alert }
  else t = u

/-- The quiet time after a transmit fault at bit `bit` of a frame: the faulty bit did not reach the line, so it counts on
from before the frame where that is the first bit, and else counts the recessive bits back to the last dominant one
(R19, R31). -/
def FaultQuiet (frame : List Byte) (bit before after : Nat) : Prop :=
  if bit = 0 then after = before
  else after < bit ∧ frameBit frame (bit - after - 1) = false ∧
    ∀ i, bit - after ≤ i → i < bit → frameBit frame i = true

/-- The state that some commands, taken one after another, lead to. -/
def afterAll (cs : List Instr) (s : State) : State :=
  cs.foldl (fun s c => match exec c s with
    | .next t => t
    | _ => s) s

/-- The rows of the roster's part of a tick completion: STATION_LATE of stations 1 to 16, then STATION_EXPIRY of stations
1 to 16, each without effect where it is not due (R52, R53, log entries 7 and 10). -/
def rosterRows : List Instr :=
  (List.range 16).map (fun i => .stationLate (i + 1)) ++ (List.range 16).map fun i => .stationExpiry (i + 1)

/-- The rows of all that a tick completion can have made due, in the order in which the next tick finds them taken:
OPEN_VERIFY, the roster's rows, PERIOD_CLOSE (log entry 7). -/
def tickRows : List Instr := .openVerify :: rosterRows ++ [.periodClose]

/-- How many steps the work in hand can still take. -/
def workLeft (s : State) : Nat :=
  match s.closeInHand with
  | none => 0
  | some ⟨_, []⟩ => 1
  | some ⟨.figures, ids⟩ => 3 * ids.length + 1
  | some ⟨.standing, ids⟩ => 3 * ids.length
  | some ⟨.departure, ids⟩ => 3 * ids.length - 1

/-- A part of the work of a close in hand has been taken, and the rest is what it was: it has appended at most one record,
and has left the readings of the close, the link's receiver and what waits to be sent as they were (R77, R110, R156). -/
structure PartTaken (s t : State) : Prop where
  rest : finishClose t = finishClose s
  less : workLeft t < workLeft s
  records : t.records = s.records ∨ ∃ r, t.records = s.records ++ [r]
  reading : t.meter = s.meter ∧ t.time = s.time ∧ t.roster = s.roster ∧ t.table = s.table
  link : t.monitor = s.monitor ∧
    t.link = { s.link with fill := t.link.fill, ready := t.link.ready, readyNew := t.link.readyNew }
  other : t.restartPending = s.restartPending ∧ t.loader = s.loader ∧ t.pending = s.pending

/-- Nothing that the last tick completion brought about still waits to be taken (log entry 7). -/
structure TickWorkTaken (s : State) : Prop where
  inHand : s.closeInHand = none
  verify : verifyDue s = false
  late : ∀ n, lateDue s n = false
  expiry : ∀ n, expiryDue s n = false
  close : closeDue s = false

/-- A field of the start image as it is installed (R173): below its range the lower limit, above it the upper limit. -/
def Clamped (lo hi field installed : Nat) : Prop :=
  installed = if field < lo then lo else if hi < field then hi else field

/-- The read of converter `c` has ended: another converter is read next, or the read cycle is over and the tick is
complete, with the tick count one higher and every LIVE and LATE record one tick older (R2, R7, R52). -/
def ReadWentOn (c : Nat) (s t : State) : Prop :=
  if c < s.loader.params.converterCount then
    t.meter.reading = some (c + 1) ∧ t.time = s.time ∧ t.roster = s.roster
  else
    t.meter.reading = none ∧ t.time = { s.time with tickCount := s.time.tickCount + 1 } ∧
      t.roster = s.roster.map fun r => if r.state = .absent then r else { r with age := min 65535 (r.age + 1) }

/-- What the end of the read of converter `c` does to the figures `o` of outlet `n` (R7, R11): accumulated at a tick
completion if the outlet is present. -/
def accumulated (s : State) (c n : Nat) (o : MeterOutlet) : MeterOutlet :=
  if s.loader.params.converterCount ≤ c ∧ n ≤ 8 * s.loader.params.converterCount then
    { o with accumulator := o.accumulator + o.held }
  else o

/-- The standing is the one chosen by M (R91). -/
def ByDemand (r r' : Tenant) : Prop := r'.standing = if r.warn ≤ r'.demand then .watch else .clear

/-- How one evaluation moves the standing and the counters of a tenant (R96 to R105): `r` is its record before the
close, `r'` after it; `before` and `after` say whether it has shed outlets here. -/
def StandingMoves (p : Params) (r r' : Tenant) (before after : Prop) [Decidable before] [Decidable after] : Prop :=
  match r.standing with
  | .clear | .watch =>
    if r.enforce = true ∧ r.burst < r'.draw then r'.standing = .curtail ∧ r'.settle = p.settle
    else if r.contract < r'.demand then
      if r.enforce = true ∧ r.graceSetting = 0 then r'.standing = .curtail ∧ r'.settle = p.settle ∧ r'.grace = 0
      else r'.standing = .excess ∧ r'.grace = r.graceSetting
    else ByDemand r r'
  | .excess =>
    if r.enforce = true ∧ r.burst < r'.draw then r'.standing = .curtail ∧ r'.settle = p.settle
    else if r'.demand ≤ r.contract then ByDemand r r'
    else if r.enforce = true ∧ r.grace = 1 then r'.standing = .curtail ∧ r'.settle = p.settle ∧ r'.grace = 0
    else r'.standing = .excess ∧ r'.grace = r.grace - 1
  | .curtail =>
    if r'.demand ≤ r.release then
      if before then r'.standing = .recover ∧ r'.restore = p.spacing else ByDemand r r'
    else r'.standing = .curtail ∧ r'.settle = if r.settle = 0 then p.settle else r.settle - 1
  | .recover =>
    if r.enforce = true ∧ r.burst < r'.draw then
      r'.standing = .curtail ∧ r'.settle = p.settle ∧ r'.restore = r.restore
    else if r.enforce = true ∧ r.contract < r'.demand then
      r'.standing = .curtail ∧ r'.settle = p.settle ∧ r'.restore = r.restore
    else if r.restore ≤ 1 then
      r'.restore = p.spacing ∧ if after then r'.standing = .recover else ByDemand r r'
    else r'.standing = .recover ∧ r'.restore = r.restore - 1

/-! What one close outside warm-up appends, raises and sheds for a tenant: `r` is its record before the close, `r'` after
it, and `s` the state once the averages of the close are made. -/

/-- An excursion begins (R96, R97, R107). -/
def begins (r r' : Tenant) : Bool :=
  decide ((r.standing = .clear ∨ r.standing = .watch) ∧ (r'.standing = .excess ∨ r'.standing = .curtail))

/-- An excursion ends (R109). -/
def ends (r r' : Tenant) : Bool :=
  decide (r.standing ≠ .clear ∧ r.standing ≠ .watch ∧ (r'.standing = .clear ∨ r'.standing = .watch))

/-- A shed round runs: at an entry into CURTAIL with the settle counter at 0, and in CURTAIL when that counter stands at 0
(R101). -/
def roundRuns (r r' : Tenant) : Bool :=
  decide (r'.standing = .curtail) &&
    match r.standing with
    | .curtail => decide (r.settle = 0)
    | .recover => decide (r.burst < r'.draw)
    | _ => true

/-- The round looks for outlets: the ISOLATED limit does not stop it and its share is above 0 (R113, R114). -/
def roundSheds (r r' : Tenant) : Bool :=
  roundRuns r r' && decide (¬ (r'.view = .isolated ∧ r'.subtotal ≤ r'.contract) ∧ 0 < share r')

/-- The outlets the round takes (R117). -/
def roundTakes (s : State) (r r' : Tenant) : List Nat := if roundSheds r r' then shedTaken s r.id (share r') else []

/-- The candidates fall short of the share (R118). -/
def roundFallsShort (s : State) (r r' : Tenant) : Bool :=
  roundSheds r r' && decide (powerOf s (roundTakes s r r') < share r')

/-- The outlet a restore step restores, if it restores one (R103, R121 to R126). -/
def stepRestores (s : State) (r r' : Tenant) : Option Nat :=
  if r.standing = .recover ∧ r'.standing ≠ .curtail ∧ r.restore ≤ 1 then
    (restoreCandidates s r.id).head?.filter fun n => restoreAllowed s r' (powerAtShed s n)
  else none

/-- The records of the close, in the order of R110. -/
def closeRecords (s : State) (r r' : Tenant) : List ExcursionRecord :=
  let record (kind : RecordKind) (share : Nat) (outlets : List Nat) : ExcursionRecord :=
    ⟨kind, r.id, s.time.periodNumber, r'.draw, r'.demand, r'.contract, share, outlets⟩
  (if begins r r' then [record .excessBegin 0 []] else []) ++
  (if roundSheds r r' then
    [record (if roundFallsShort s r r' then .unresolved else .shed) (share r') (roundTakes s r r')] else []) ++
  ((stepRestores s r r').toList.map fun n => record .restore 0 [n]) ++
  (if ends r r' then [record .excessEnd 0 []] else [])

/-- A tenant's record in a later state. -/
def recordIn (t : State) (r : Tenant) : Tenant := (findTenant t r.id).getD r

/-- What a close outside warm-up leaves of every tenant's evaluation, from state `s` to state `t` (R87, R107 to R110,
R117, R118, R126, R130, R131, R156): the records, tenant by tenant in table order, as far as the queue has room; the
events; the shed flags; and the relay states, with every outlet just shed on its way to open, and every outlet just
restored on its way to close or, with its OPEN still queued, as it was before. The row PERIOD_CLOSE is one step, with no
command between two of its records (log entry 26). -/
structure CloseEffects (s t : State) : Prop where
  records : t.records =
    (s.records ++ s.recon.tenants.flatMap fun r => closeRecords (closeMeter s) r (recordIn t r)).take 16
  lost : latched t .recordLost = (latched s .recordLost || decide
    (16 < s.records.length + (s.recon.tenants.flatMap fun r => closeRecords (closeMeter s) r (recordIn t r)).length))
  excess : latched t .excess = (latched s .excess || s.recon.tenants.any fun r => begins r (recordIn t r))
  curtail : latched t .curtail = (latched s .curtail ||
    s.recon.tenants.any fun r => decide (r.standing ≠ .curtail ∧ (recordIn t r).standing = .curtail))
  restored : latched t .restored = (latched s .restored ||
    s.recon.tenants.any fun r => decide (r.standing = .recover) && ends r (recordIn t r))
  unresolved : latched t .unresolved = (latched s .unresolved ||
    s.recon.tenants.any fun r => roundFallsShort (closeMeter s) r (recordIn t r))
  viewDegraded : latched t .viewDegraded = (latched s .viewDegraded ||
    s.recon.tenants.any fun r => decide (r.view = .complete ∧ (recordIn t r).view ≠ .complete))
  shed : ∀ r ∈ s.recon.tenants, ∀ n ∈ tenantOutlets s r.id, (relayOutlet t n).shed =
    if n ∈ roundTakes (closeMeter s) r (recordIn t r) then some (meterOutlet t n).average
    else if stepRestores (closeMeter s) r (recordIn t r) = some n then none
    else (relayOutlet s n).shed
  opening : ∀ r ∈ s.recon.tenants, ∀ n ∈ roundTakes (closeMeter s) r (recordIn t r),
    (relayOutlet t n).relay = .openPending ∨ (relayOutlet t n).relay = .opening
  closing : ∀ r ∈ s.recon.tenants, ∀ n, stepRestores (closeMeter s) r (recordIn t r) = some n →
    (relayOutlet s n).lock = false →
    match (relayOutlet s n).relay with
    | .off => (relayOutlet t n).relay = .closePending ∨ (relayOutlet t n).relay = .closing
    | .openPending =>
      (relayOutlet t n).relay =
        if ∃ j ∈ s.relay.queue, j.outlet = n ∧ j.origin = .start then .closePending else .on
    | x => (relayOutlet t n).relay = x
  otherRelays : ∀ n, 1 ≤ n → (∀ r ∈ s.recon.tenants, n ∉ roundTakes (closeMeter s) r (recordIn t r) ∧
    stepRestores (closeMeter s) r (recordIn t r) ≠ some n) → (relayOutlet t n).relay = (relayOutlet s n).relay
  otherOutlets : ∀ n, 1 ≤ n → (∀ r ∈ s.recon.tenants, n ∉ tenantOutlets s r.id) →
    (relayOutlet t n).shed = (relayOutlet s n).shed
  otherLatches : ∀ k, k ∉ [EventKind.excess, .curtail, .restored, .unresolved, .viewDegraded, .recordLost,
    .reportSuperseded] → latched t k = latched s k

/-- The part of a tenant record that an installation fixes (R74). -/
def Tenant.installed (t : Tenant) :
    Nat × Nat × Nat × Nat × Nat × Nat × Bool × StationSet × Nat × Nat × Nat × Nat :=
  (t.id, t.units, t.w, t.b, t.h, t.graceSetting, t.enforce, t.expected, t.contract, t.warn, t.burst, t.release)

/-- The coil and the queue after the coil has become free with the jobs `q` waiting (R135, R144). -/
def CoilFreed (q : List Job) (s t : State) : Prop :=
  match s.restartPending, q with
  | false, j :: rest =>
    t.relay.coil = some ⟨j, .pulse⟩ ∧ t.relay.queue = rest ∧ (relayOutlet t j.outlet).relay = j.dir.working
  | _, _ => t.relay.coil = none ∧ t.relay.queue = q

/-- A job of origin CHANGE has been queued for outlet `n` (R130): it waits at the tail behind a coil that is held or a
restart that is pending, or a free coil has taken it at once. -/
def JobQueued (n : Nat) (d : JobDir) (s t : State) : Prop :=
  if s.relay.coil = none ∧ s.restartPending = false then
    t.relay.coil = some ⟨⟨n, d, .change⟩, .pulse⟩ ∧ t.relay.queue = [] ∧ (relayOutlet t n).relay = d.working
  else
    t.relay.coil = s.relay.coil ∧ t.relay.queue = s.relay.queue ++ [⟨n, d, .change⟩] ∧
      (relayOutlet t n).relay = d.pending

/-- The Relay Driver has nothing to do for outlet `n`: its relay state, the queue and the coil are as they were. -/
def RelayLeft (n : Nat) (s t : State) : Prop :=
  t.relay.coil = s.relay.coil ∧ t.relay.queue = s.relay.queue ∧ (relayOutlet t n).relay = (relayOutlet s n).relay

/-- What the Relay Driver does about outlet `n` when its desired state turns to OFF (R130 to R133). -/
def TurnedOff (n : Nat) (s t : State) : Prop :=
  match (relayOutlet s n).relay with
  | .on => JobQueued n .toOpen s t
  | .closePending =>
    if ∃ j ∈ s.relay.queue, j.outlet = n ∧ j.origin = .start then
      (relayOutlet t n).relay = .openPending ∧ t.relay.coil = s.relay.coil ∧
        t.relay.queue = s.relay.queue.map fun j => if j.outlet = n then ⟨n, .toOpen, .start⟩ else j
    else
      (relayOutlet t n).relay = .off ∧ t.relay.coil = s.relay.coil ∧
        t.relay.queue = s.relay.queue.filter fun j => j.outlet != n
  | _ => RelayLeft n s t

/-- What the Relay Driver does about outlet `n` when its desired state turns to ON (R130 to R133). -/
def TurnedOn (n : Nat) (s t : State) : Prop :=
  match (relayOutlet s n).relay with
  | .off => JobQueued n .toClose s t
  | .openPending =>
    if ∃ j ∈ s.relay.queue, j.outlet = n ∧ j.origin = .start then
      (relayOutlet t n).relay = .closePending ∧ t.relay.coil = s.relay.coil ∧
        t.relay.queue = s.relay.queue.map fun j => if j.outlet = n then ⟨n, .toClose, .start⟩ else j
    else
      (relayOutlet t n).relay = .on ∧ t.relay.coil = s.relay.coil ∧
        t.relay.queue = s.relay.queue.filter fun j => j.outlet != n
  | _ => RelayLeft n s t

/-- Apart from the outlets named, no outlet's relay state has changed. -/
def RelaysKept (but : List Nat) (s t : State) : Prop :=
  ∀ m, 1 ≤ m → m ∉ but → (relayOutlet t m).relay = (relayOutlet s m).relay

/-- Apart from outlet `n`, no outlet's tenant, class, flags or power at shed have changed, and outlet `n` keeps its
tenant and class. -/
def OtherOutletsKept (n : Nat) (s t : State) : Prop :=
  (relayOutlet t n).tenant = (relayOutlet s n).tenant ∧ (relayOutlet t n).cls = (relayOutlet s n).cls ∧
  ∀ m, 1 ≤ m → m ≠ n →
    (relayOutlet t m).tenant = (relayOutlet s m).tenant ∧ (relayOutlet t m).cls = (relayOutlet s m).cls ∧
    (relayOutlet t m).lock = (relayOutlet s m).lock ∧ (relayOutlet t m).shed = (relayOutlet s m).shed

end Sys2Proof.Machine
end

