-- ==== Sys2Proof/Certificates/Slice0/Obligations.lean ====
section
/-! DEFINITION. The statements about the model. Each says in its docstring which rule of spec/ it puts into words, and
what in it is the model's own choice. -/

section

open Sys2Proof Sys2Proof.Machine

/-! ## The step -/

/-- A step executes the command at the front of the queue on the state with the rest of the queue. -/
def Obligations.StepRunsTheFrontCommand : Prop :=
  ∀ (c : Instr) (rest : List Instr) (s : State), s.pending = c :: rest →
    step s = exec c { s with pending := rest }

/-- With no command waiting the station takes what is due, a frame completion before the next part of a close in hand
before an open verify before the work of a tick completion before an attempt start, and else lets one recessive bit time
pass, which is quiet time or, in a character, its next level. The work of a tick completion is the roster's rows,
station by station, and then the beginning of the period close where it is due. The close then is in hand: each idle
step takes a part of it, which appends at most one record (R156), and all the parts together do what the row
PERIOD_CLOSE does. The order is the model's choice (log entry 6), and so are the character in progress (log entry 24)
and the parts of the close (log entry 26). -/
def Obligations.IdleStepTakesWhatIsDue : Prop :=
  ∀ s : State, s.pending = [] →
    (completedFrame s ≠ none → step s = exec .frameCompletion s) ∧
    (completedFrame s = none → s.closeInHand ≠ none → ∃ t, step s = .next t ∧ PartTaken s t) ∧
    (completedFrame s = none → s.closeInHand = none → verifyDue s = true → step s = exec .openVerify s) ∧
    (completedFrame s = none → s.closeInHand = none → verifyDue s = false → tickWorkDue s = true →
      let u := afterAll rosterRows s
      (closeDue u = false → step s = .next u) ∧
      (closeDue u = true → ∃ v, step s = .next v ∧ v.closeInHand ≠ none ∧ exec .periodClose u = .next (finishClose v) ∧
        v = { u with meter := v.meter, time := v.time, monitor := v.monitor, closeInHand := v.closeInHand })) ∧
    (completedFrame s = none → s.closeInHand = none → verifyDue s = false → tickWorkDue s = false →
      attemptDue s = true → step s = exec .attemptStart s) ∧
    (completedFrame s = none → s.closeInHand = none → verifyDue s = false → tickWorkDue s = false →
      attemptDue s = false →
      (listening s = false → step s = .next s) ∧
      (listening s = true → s.link.inCharacter = [] → step s = .next { s with link := passQuiet 1 s.link }) ∧
      (listening s = true → s.link.inCharacter ≠ [] → s.link.inCharacter.length < 10 →
        step s = .next { s with link := { s.link with inCharacter := s.link.inCharacter ++ [true] } }) ∧
      (listening s = true → s.link.inCharacter.length = 10 → step s = exec (.character (BitVec.allOnes 11)) s))

/-- Every command answers a next state, and leaves the queue of waiting commands as it was. That it does so in every state
is the model's choice: the spec says nothing of an event at a moment at which it does not come about, and the model
gives such a row no effect instead of refusing it (log entry 10). The queue is the model's own (log entry 17). -/
def Obligations.EveryCommandAnswersANextState : Prop :=
  ∀ (c : Instr) (s : State), ∃ t, exec c s = .next t ∧ t.pending = s.pending

/-! ## What always holds -/

/-- The state a reset leaves meets every rule that holds at every moment. TableRule's range of the station number, and
what MeterRule says of the parameters, rest there on the values the model gives both before they are first given:
station 1 and parameters of 0 (log entry 1). -/
def Obligations.ResetMeetsEveryRule : Prop :=
  AlertRule State.reset ∧ TransmitRule State.reset ∧ RestUntilInstalled State.reset ∧ MeterRule State.reset ∧
    RelayRule State.reset ∧ ShedRule State.reset ∧ TableRule State.reset ∧ ExcursionRule State.reset

/-- R150: every step keeps ALERT_N at the level its condition gives. -/
def Obligations.StepKeepsAlertRule : Prop :=
  ∀ s t : State, AlertRule s → step s = .next t → AlertRule t

/-- R26, R27, R36: every step leaves only what the link state permits driven and waiting, and no character in progress
beside a frame being driven. R19, R22: it keeps the quiet time within 255, and below 3 inside a frame, whose gap time is
the model's own field (log entry 3). -/
def Obligations.StepKeepsTransmitRule : Prop :=
  ∀ s t : State, TransmitRule s → step s = .next t → TransmitRule t

/-- R14, R38, R73, R75, R146: every step leaves a station without an installed image at rest. -/
def Obligations.StepKeepsRestUntilInstalled : Prop :=
  ∀ s t : State, RestUntilInstalled s → step s = .next t → RestUntilInstalled t

/-- R4 to R8: every step keeps the figures of the Outlet Meter in their ranges. -/
def Obligations.StepKeepsMeterRule : Prop :=
  ∀ s t : State, RestUntilInstalled s → MeterRule s → step s = .next t → MeterRule t

/-- R134: every step keeps at most one job for any outlet, each matched by its outlet's relay state. -/
def Obligations.StepKeepsRelayRule : Prop :=
  ∀ s t : State, RestUntilInstalled s → MeterRule s → RelayRule s → step s = .next t → RelayRule t

/-- R140: every step keeps the shed flag off protected, locked, STUCK, unassigned and absent outlets. -/
def Obligations.StepKeepsShedRule : Prop :=
  ∀ s t : State, RestUntilInstalled s → ShedRule s → step s = .next t → ShedRule t

/-- R50, R52, R62: every step keeps the Contribution Table's properties. The order in which the table is held is the
model's choice (log entry 5), and so is the station number before the first sample (log entry 1). -/
def Obligations.StepKeepsTableRule : Prop :=
  ∀ s t : State, RestUntilInstalled s → TableRule s → step s = .next t → TableRule t

/-- R147, R151: a latch stays set through every command that is not a reset and carries no ACK_EVENTS (code 6). The last
five commands can complete a frame, and with it an ACK_EVENTS be taken (log entry 7); of them, only a completion of
such a COMMAND is left out. -/
def Obligations.LatchesStayUntilAcknowledged : Prop :=
  ∀ (c : Instr) (s t : State) (k : EventKind), exec c s = .next t → latched s k = true →
    (match c with
      | .powerOnReset | .restartReset _ | .ackEvents _ => False
      | .invalidCommand code _ => code ≠ 6
      | .frameCompletion | .character _ | .searchOnCharacterErrors _ | .assemblerArmed | .attemptStart =>
        ∀ b, completedFrame s = some b → linkKind b = 2 → (linkPayload b).getD 1 0 ≠ 6
      | _ => True) →
    latched t k = true

/-- R15, R74, R140, R149: what an image installs stays until a reset or the next installation: the parameters and the
station number, the alert mask, the installed part of every tenant record, and every outlet's tenant and class. The
tenant records carry different ids, as every installation leaves them (R172) and every step keeps them
(StepKeepsExcursionRule). -/
def Obligations.InstalledValuesStay : Prop :=
  ∀ (c : Instr) (s t : State), (s.recon.tenants.map Tenant.id).Nodup → exec c s = .next t →
    (match c with
      | .powerOnReset | .restartReset _ | .holdEnd _ | .imageReadComplete _ => False
      | _ => True) →
    t.loader = s.loader ∧ t.alert.mask = s.alert.mask ∧
      t.recon.tenants.map Tenant.installed = s.recon.tenants.map Tenant.installed ∧
      t.relay.outlets.map (fun o => (o.tenant, o.cls)) = s.relay.outlets.map fun o => (o.tenant, o.cls)

/-! ## Frames and characters -/

/-- R57, R59, R176: a report as it is sent is read back entry for entry, and is not malformed at any other station. -/
def Obligations.ReportsSurviveTheLink : Prop :=
  ∀ (r : Snapshot) (own source : Nat), 1 ≤ r.periodTicks → r.periodTicks < 256 → r.entries.length ≤ 24 →
    (∀ e ∈ r.entries, 1 ≤ e.tenant ∧ e.tenant < 4096 ∧ e.value < 1048576) →
    (r.entries.map ReportEntry.tenant).Nodup → 1 ≤ source → source ≤ 16 → source ≠ own →
    (encodeReport r).length = 2 + 5 * r.entries.length ∧ reportTicks (encodeReport r) = r.periodTicks ∧
      reportEntries (encodeReport r) = r.entries ∧ reportMalformed own source (encodeReport r) = false

/-- R17, R18, R20, R21, R24: a receiver that is ARMED and takes the characters of a frame as it is sent has assembled it
whole, finds it valid, and reads its fields as they were sent. A character read as it is sent is good and gives its
byte; with one level read wrong it is a glitch where that is the start bit and an error where it is any other bit. -/
def Obligations.SentFramesAreReceived : Prop :=
  (∀ (kind source : Nat) (payload : List Byte), 1 ≤ kind → kind ≤ 4 → source < 256 → payload.length ≤ 200 →
    ∃ b, (linkFrame kind source payload).foldl assembleByte .armed = .inFrame b ∧ linkComplete b = true ∧
      linkValid b = true ∧ linkKind b = kind ∧ linkSource b = source ∧ linkPayload b = payload) ∧
  (∀ (x : Byte) (levels : BitVec 11), (∀ i, i < 11 → levels.getLsbD i = characterBit x i) →
    judgeCharacter levels = .good x ∧
    ∀ i, i < 11 → judgeCharacter (levels ^^^ BitVec.twoPow 11 i) = if i = 0 then .glitch else .error)

/-! ## Resets and the start image -/

/-- R12, R37, R38, R50, R73, R75, R142, R148, R149, R154, R158, R170: what a power-on reset leaves in every block, and
the end of the hold, which samples the straps and begins the image read. The station number, the parameters and the gap
time have no reset value in the spec, and nothing is said of them at the reset. Outside HELD the row HOLD_END has no
effect, which is the model's choice (log entry 10). -/
def Obligations.PowerOnResetAndHold : Prop :=
  (∀ s : State, ∃ t, exec .powerOnReset s = .next t ∧ t.pending = s.pending ∧ t.loader.load = .held ∧
    t.meter = ⟨List.replicate 24 ⟨0, 0, 0, false, 0⟩, List.replicate 3 ⟨none, none⟩, none⟩ ∧
    t.time = ⟨false, 0, 0⟩ ∧
    t.link = ⟨.waitQuiet, [], 0, t.link.gap, none, none, none, none, false, none⟩ ∧
    t.monitor = ⟨.linkOff, none, 1, none, 0, 0, false, none, 0⟩ ∧
    t.roster = List.replicate 16 ⟨.absent, 0, 0⟩ ∧ t.table = [] ∧ t.recon = ⟨[], 0, false⟩ ∧
    t.relay.outlets.length = 24 ∧
    (∀ o ∈ t.relay.outlets, o.relay = .unknown ∧ o.lock = false ∧ o.shed = none) ∧
    t.relay.queue = [] ∧ t.relay.coil = none ∧
    t.alert = ⟨0, BitVec.allOnes 16, false, none⟩ ∧ t.records = [] ∧ t.closeInHand = none ∧
    t.restartPending = false) ∧
  (∀ (straps : BitVec 4) (s : State),
    (s.loader.load = .held → exec (.holdEnd straps) s =
      .next { s with loader := { s.loader with
        load := .reading, afterRestart := false, station := straps.toNat + 1 } }) ∧
    (s.loader.load ≠ .held → exec (.holdEnd straps) s = .next s))

/-- R171: in READING the memory port sends the read instruction 0x03 with the address 0 and reads 20 bytes, and no more
where the format mark is wrong or the tenant count is above 24; else the 72 bytes of outlet entries, 11 a tenant record
and the two check bytes. The judgement rests on these bytes alone. R146, R147, R150, R172: the checks an image must
pass; an image that fails one is rejected, IMAGE_FAULT is latched and ALERT_N driven low whatever the mask, and no
switching record stands: kept records are cleared after a restart reset too (log entry 15), and a record without a
value stands at tenant 0 and class 0 (log entry 1). -/
def Obligations.ImagesAreCheckedWhole : Prop :=
  (∀ (im : List Byte) (s : State), s.loader.load = .reading →
    memoryTransfer s im = some ([0x03, 0x00, 0x00],
      if serialByte im 0 = 0x7E ∧ serialByte im 1 = 0x18 ∧ imageByte im 19 ≤ 24 then 20 + 72 + 11 * imageByte im 19 + 2
      else 20)) ∧
  (∀ im more : List Byte, imageReadLength im ≤ im.length → imageAccepted (im ++ more) = imageAccepted im) ∧
  (∀ im : List Byte, imageAccepted im = true ↔
    serialByte im 0 = 0x7E ∧ serialByte im 1 = 0x18 ∧
    imageByte im 19 ≤ 24 ∧
    imageWord im 4 = 92 + 11 * imageByte im 19 ∧
    (serialByte im (imageWord im 4)).toNat = (checkWord (serialBytes im 0 (imageWord im 4))).2 ∧
    (serialByte im (imageWord im 4 + 1)).toNat = (checkWord (serialBytes im 0 (imageWord im 4))).1 ∧
    1 ≤ imageByte im 6 ∧ imageByte im 6 ≤ 3 ∧
    (∀ i, i < imageByte im 19 → imageTenantId im i ≠ 0) ∧
    (∀ i j, i < j → j < imageByte im 19 → imageTenantId im i ≠ imageTenantId im j) ∧
    (∀ n, 1 ≤ n → n ≤ 8 * imageByte im 6 → imageOutletTenant im n ≠ 0 →
      ∃ i, i < imageByte im 19 ∧ imageTenantId im i = imageOutletTenant im n) ∧
    (∀ n, 8 * imageByte im 6 < n → n ≤ 24 → imageOutletTenant im n = 0)) ∧
  (∀ (im : List Byte) (s : State), s.loader.load = .reading → imageAccepted im = false → s.alert.gap = none →
    exec (.imageReadComplete im) s =
      .next { s with
        loader := { s.loader with load := .rejected }
        relay := ⟨List.replicate 24 ⟨0, 0, .unknown, false, none⟩, [], none⟩
        alert := { s.alert with latches := s.alert.latches ||| 0x8000#16, low := true } })

/-- R1, R39, R74, R82, R143, R149, R174: what the installation of an accepted image after a power-on reset
does. That an absent outlet, which has no switching record (R143), stands at tenant 0 and class 0 is the model's choice
(log entry 1), and the gap time is the model's own field (log entry 3). -/
def Obligations.AcceptedImageIsInstalledAfterPowerOn : Prop :=
  ∀ (im : List Byte) (s : State), s.loader.load = .reading → s.loader.afterRestart = false →
    s.restartPending = false → imageAccepted im = true →
    ∃ t, exec (.imageReadComplete im) s = .next t ∧
      t.loader = { s.loader with load := .installed, params := imageParams im } ∧
      t.time = { s.time with running := true } ∧
      t.monitor = { s.monitor with
        link := .search, rate := some (rateOfCode (imageParams im).rateCode), searchPosition := 1
        dwell := some 6000, charErrors := 0, heard := false, faults := 0, check := none } ∧
      t.link = { s.link with
        assembler := .waitQuiet, inCharacter := [], quiet := 0, gap := 0, sending := none, slot := none
        send := none } ∧
      t.alert.mask = BitVec.ofNat 16 (imageWord im 14) ∧ t.alert.latches = s.alert.latches ∧
      t.alert.gap = s.alert.gap ∧ AlertRule t ∧
      t.recon = ⟨imageTenantRecords im, (imageParams im).expire, true⟩ ∧
      t.relay.coil = some ⟨⟨1, if imageOutletOff im 1 then .toOpen else .toClose, .start⟩, .pulse⟩ ∧
      t.relay.queue = (presentOutlets t).tail.map
        (fun n => ⟨n, if imageOutletOff im n then .toOpen else .toClose, .start⟩) ∧
      relayOutlet t 1 = ⟨imageOutletTenant im 1, imageOutletClass im 1,
        if imageOutletOff im 1 then .opening else .closing, imageOutletOff im 1, none⟩ ∧
      (∀ n, 2 ≤ n → n ≤ 8 * imageByte im 6 → relayOutlet t n = ⟨imageOutletTenant im n, imageOutletClass im n,
        if imageOutletOff im n then .openPending else .closePending, imageOutletOff im n, none⟩) ∧
      (∀ n, 8 * imageByte im 6 < n → relayOutlet t n = ⟨0, 0, .unknown, false, none⟩) ∧
      t.meter = s.meter ∧ t.roster = s.roster ∧ t.table = s.table ∧ t.records = s.records ∧
      t.closeInHand = s.closeInHand ∧ t.restartPending = s.restartPending ∧ t.pending = s.pending

/-- R39, R93, R145, R149, R174, R175: what the installation of an accepted image after a restart reset does: the flags
each outlet keeps, the jobs, one for every outlet whose kept relay state and desired state differ, in outlet-number
order, of which the coil takes the first at once; the tenants, the mask, and the rate search. That an outlet the re-read
image makes absent, which loses its switching record (R145), stands at tenant 0 and class 0 is the model's choice (log
entry 1), and the gap time is the model's own field (log entry 3). -/
def Obligations.AcceptedImageIsInstalledAfterRestart : Prop :=
  ∀ (im : List Byte) (s : State), s.loader.load = .reading → s.loader.afterRestart = true →
    s.restartPending = false → s.relay.queue = [] → s.relay.coil = none → imageAccepted im = true →
    ∃ t, exec (.imageReadComplete im) s = .next t ∧
      t.loader = { s.loader with load := .installed, params := imageParams im } ∧
      t.time = { s.time with running := true } ∧
      t.monitor = { s.monitor with
        link := .search, rate := some (rateOfCode (imageParams im).rateCode), searchPosition := 1
        dwell := some 6000, charErrors := 0, heard := false, faults := 0, check := none } ∧
      t.link = { s.link with
        assembler := .waitQuiet, inCharacter := [], quiet := 0, gap := 0, sending := none, slot := none
        send := none } ∧
      t.alert.mask = BitVec.ofNat 16 (imageWord im 14) ∧ t.alert.latches = s.alert.latches ∧
      t.alert.gap = s.alert.gap ∧ AlertRule t ∧ t.restartPending = false ∧
      (∀ jobs : List Job,
        jobs = (presentOutlets t).filterMap (fun n =>
          let off := (relayOutlet t n).lock || (relayOutlet t n).shed.isSome
          match (relayOutlet s n).relay with
          | .on => if off then some ⟨n, .toOpen, .change⟩ else none
          | .off => if off then none else some ⟨n, .toClose, .change⟩
          | _ => none) →
        t.relay.coil = jobs.head?.map (fun j => ⟨j, .pulse⟩) ∧ t.relay.queue = jobs.tail) ∧
      t.recon.warmup = (imageParams im).expire ∧ t.recon.seedDue = true ∧
      (∀ n, 1 ≤ n → n ≤ 8 * imageByte im 6 →
        (relayOutlet t n).tenant = imageOutletTenant im n ∧ (relayOutlet t n).cls = imageOutletClass im n ∧
        (relayOutlet t n).lock = (relayOutlet s n).lock ∧
        (relayOutlet t n).shed =
          if (relayOutlet s n).tenant = imageOutletTenant im n ∧ 1 ≤ imageOutletClass im n then
            (relayOutlet s n).shed
          else none) ∧
      (∀ n, 1 ≤ n → n ≤ 8 * imageByte im 6 → (relayOutlet s n).relay = .on →
        (relayOutlet t n).relay =
          if (relayOutlet t n).lock = false ∧ (relayOutlet t n).shed = none then .on
          else if t.relay.coil.map (fun c => c.job.outlet) = some n then .opening else .openPending) ∧
      (∀ n, 1 ≤ n → n ≤ 8 * imageByte im 6 → (relayOutlet s n).relay = .off →
        (relayOutlet t n).relay =
          if (relayOutlet t n).lock = true ∨ (relayOutlet t n).shed ≠ none then .off
          else if t.relay.coil.map (fun c => c.job.outlet) = some n then .closing else .closePending) ∧
      (∀ n, 1 ≤ n → n ≤ 8 * imageByte im 6 → (relayOutlet s n).relay = .unknown ∨ (relayOutlet s n).relay = .stuck →
        (relayOutlet t n).relay = (relayOutlet s n).relay) ∧
      (∀ n, 8 * imageByte im 6 < n → relayOutlet t n = ⟨0, 0, .unknown, false, none⟩) ∧
      t.recon.tenants.length = imageByte im 19 ∧
      (∀ i, i < imageByte im 19 → ∃ r, t.recon.tenants[i]? = some r ∧
        r = { imageTenantRecord im i with
          standing := if shedOutlets t r.id = [] then .clear else .recover
          restore := if shedOutlets t r.id = [] then 0 else (imageParams im).spacing }) ∧
      t.roster = s.roster ∧ t.table = s.table ∧ t.records = s.records ∧ t.meter = s.meter ∧
      t.closeInHand = s.closeInHand ∧ t.pending = s.pending

/-- R173: the fields of an image as they are installed. -/
def Obligations.InstalledFieldsAreClamped : Prop :=
  ∀ im : List Byte,
    Clamped 5 50 (imageByte im 7) (imageParams im).periodTicks ∧
    Clamped 0 6 (imageByte im 8) (imageParams im).k ∧
    Clamped 2 4 (imageByte im 9) (imageParams im).stale ∧
    (∃ first, Clamped 3 15 (imageByte im 10) first ∧
      (imageParams im).expire =
        if first ≤ (imageParams im).stale then (imageParams im).stale + 1 else first) ∧
    (imageParams im).stale + 1 ≤ (imageParams im).expire ∧ (imageParams im).expire ≤ 15 ∧
    Clamped 1 15 (imageByte im 11) (imageParams im).settle ∧
    Clamped 1 15 (imageByte im 12) (imageParams im).spacing ∧
    Clamped 0 3 (imageByte im 13) (imageParams im).rateCode ∧
    Clamped 1 8 (imageByte im 17) (imageParams im).pulseCode ∧
    pulseTime (imageParams im) = 10 * (imageParams im).pulseCode ∧
    (imageParams im).gapSelect = (if imageByte im 16 = 0 then 0 else 1) ∧
    gapLength (imageParams im) = (if imageByte im 16 = 0 then 10 else 1000) ∧
    (imageParams im).converterCount = imageByte im 6 ∧
    (imageParams im).revision.toNat = imageWord im 2 ∧
    (imageParams im).alertMask.toNat = imageWord im 14 ∧
    (imageParams im).offThreshold = imageByte im 18 ∧
    ∀ i, Clamped 1 65535 (imageWord im (imageRecord i + 2)) (imageTenantRecord im i).units ∧
      Clamped 8 16 (imageByte im (imageRecord i + 4)) (imageTenantRecord im i).w ∧
      Clamped 16 32 (imageByte im (imageRecord i + 5)) (imageTenantRecord im i).b ∧
      Clamped 0 15 (imageByte im (imageRecord i + 6)) (imageTenantRecord im i).h ∧
      (imageTenantRecord im i).graceSetting = imageByte im (imageRecord i + 7) ∧
      (imageTenantRecord im i).enforce = (serialByte im (imageRecord i + 8)).getLsbD 0 ∧
      (imageTenantRecord im i).expected.toNat = imageWord im (imageRecord i + 9)

/-- R76: the contract in dW, the three levels derived from it, and the ranges they keep. -/
def Obligations.TenantLevelsFollowTheContract : Prop :=
  ∀ (im : List Byte) (i : Nat) (r : Tenant), r = imageTenantRecord im i →
    r.contract = r.units * 100 ∧ r.warn = r.contract * r.w / 16 ∧ r.burst = r.contract * r.b / 16 ∧
    r.release = r.contract - r.contract * r.h / 64 ∧
    100 ≤ r.contract ∧ r.contract ≤ 6553500 ∧ 50 ≤ r.warn ∧ r.warn ≤ r.contract ∧
    r.contract ≤ r.burst ∧ r.burst ≤ 2 * r.contract ∧ 77 ≤ r.release ∧ r.release ≤ r.contract

/-! ## Ticks and converter frames -/

/-- R1, R2, R12: a tick starts a read cycle at converter 1, and none comes while the tick timer is stopped or a read
cycle is in hand, where the row has no effect (log entry 10). What the last tick completion left due is taken first: the
rest of a close in hand (log entry 26), and then its rows in the order of tickRows, an OPEN_VERIFY, what is due at each
station, the period close (log entry 7); a tick that finds nothing left only starts the read cycle. -/
def Obligations.TickStartsAReadCycle : Prop :=
  ∀ s : State,
    (s.time.running = true → s.meter.reading = none → TickWorkTaken s →
      exec .tick s = .next { s with meter := { s.meter with reading := some 1 } }) ∧
    (s.time.running = true → s.meter.reading = none →
      let u := afterAll tickRows (finishClose s)
      exec .tick s = .next { u with meter := { u.meter with reading := some 1 } }) ∧
    (s.time.running = false ∨ s.meter.reading ≠ none → exec .tick s = .next s)

/-- R3: the four conditions of acceptance and the computation of the check word; a converter that sends nothing and one
that sends zeros are refused. -/
def Obligations.ConverterFrameAcceptance : Prop :=
  (∀ (last : Option Byte) (f : List Byte), frameAccepted last f = true ↔
    (serialByte f 18).toNat = (checkWord (serialBytes f 0 18)).2 ∧
    (serialByte f 19).toNat = (checkWord (serialBytes f 0 18)).1 ∧
    (serialByte f 0).getLsbD 0 = true ∧ (serialByte f 0).getLsbD 1 = false ∧
    last ≠ some (serialByte f 1)) ∧
  checkWord [] = (0, 0) ∧
  (∀ (bs : List Byte) (x : Byte), checkWord (bs ++ [x]) =
    (((checkWord bs).1 + x.toNat) % 255, ((checkWord bs).2 + ((checkWord bs).1 + x.toNat) % 255) % 255)) ∧
  (∀ bs : List Byte, (checkWord bs).1 < 255 ∧ (checkWord bs).2 < 255) ∧
  ∀ last : Option Byte, frameAccepted last (List.replicate 20 0xFF) = false ∧
    frameAccepted last (List.replicate 20 0x00) = false

/-- R2, R4, R7, R137: an accepted frame gives its eight outlets their samples, clamped, and the coil its verify sample
if it waits for one of them. A read cycle that ends completes the tick; what R8, R52 and R53 bring about at the tick
completion (the close, LATE, expiry) is left to steps of its own, with the tick count standing at `period_ticks` until
the close (log entry 7). -/
def Obligations.AcceptedFrameIsApplied : Prop :=
  ∀ (f : List Byte) (c : Nat) (s : State), s.meter.reading = some c → 1 ≤ c →
    c ≤ s.loader.params.converterCount → s.loader.params.converterCount ≤ 3 →
    s.meter.outlets.length = 24 → s.meter.converters.length = 3 →
    frameAccepted (converter s c).lastSequence (serialBytes f 0 20) = true →
    ∃ t, exec (.captureCompletion f) s = .next t ∧
      (∀ j, 1 ≤ j → j ≤ 8 →
        meterOutlet t (8 * (c - 1) + j) = accumulated s c (8 * (c - 1) + j)
          { meterOutlet s (8 * (c - 1) + j) with
            held := min (leNat [serialByte f (2 + 2 * (j - 1)), serialByte f (3 + 2 * (j - 1))]) 40000
            missed := 0, unmeasured := false }) ∧
      (∀ n, 1 ≤ n → n ≤ 8 * (c - 1) ∨ 8 * c < n → meterOutlet t n = accumulated s c n (meterOutlet s n)) ∧
      converter t c = ⟨some (serialBytes f 0 20), some (serialByte f 1)⟩ ∧
      (∀ d, 1 ≤ d → d ≠ c → converter t d = converter s d) ∧
      ReadWentOn c s t ∧
      (∀ j, s.relay.coil = some ⟨j, .verify none⟩ → 8 * (c - 1) < j.outlet → j.outlet ≤ 8 * c →
        t.relay = { s.relay with coil := some ⟨j, .verify (some (meterOutlet t j.outlet).held)⟩ }) ∧
      ((∀ j, s.relay.coil = some ⟨j, .verify none⟩ → j.outlet ≤ 8 * (c - 1) ∨ 8 * c < j.outlet) →
        t.relay = s.relay) ∧
      t = { s with meter := t.meter, time := t.time, roster := t.roster, relay := t.relay }

/-- R5, R6, R7: a rejected frame is one missed tick for its eight outlets and changes none of their samples; the row
OUTLET_UNMEASURED is the rejection that brings a missed count from 4 to 5, and where none stands at 4 it has no effect,
which is the model's choice (log entry 2). What the tick completion makes due (R8, R52, R53) is left to steps of its own
(log entry 7). -/
def Obligations.RejectedFrameIsAMissedTick : Prop :=
  ∀ (f : List Byte) (c : Nat) (s : State), s.meter.reading = some c → 1 ≤ c →
    c ≤ s.loader.params.converterCount → s.loader.params.converterCount ≤ 3 →
    s.meter.outlets.length = 24 → s.meter.converters.length = 3 →
    frameAccepted (converter s c).lastSequence (serialBytes f 0 20) = false →
    ∃ t, exec (.captureCompletion f) s = .next t ∧
      (∀ j, 1 ≤ j → j ≤ 8 →
        meterOutlet t (8 * (c - 1) + j) = accumulated s c (8 * (c - 1) + j)
          { meterOutlet s (8 * (c - 1) + j) with
            missed := min 5 ((meterOutlet s (8 * (c - 1) + j)).missed + 1)
            unmeasured := (meterOutlet s (8 * (c - 1) + j)).unmeasured ||
              decide ((meterOutlet s (8 * (c - 1) + j)).missed = 4) }) ∧
      (∀ n, 1 ≤ n → n ≤ 8 * (c - 1) ∨ 8 * c < n → meterOutlet t n = accumulated s c n (meterOutlet s n)) ∧
      converter t c = ⟨none, (converter s c).lastSequence⟩ ∧
      (∀ d, 1 ≤ d → d ≠ c → converter t d = converter s d) ∧
      ReadWentOn c s t ∧
      ((∃ j, 1 ≤ j ∧ j ≤ 8 ∧ (meterOutlet s (8 * (c - 1) + j)).missed = 4) →
        t.alert.latches = s.alert.latches ||| 0x0800#16 ∧ exec .outletUnmeasured s = .next t) ∧
      ((∀ j, 1 ≤ j → j ≤ 8 → (meterOutlet s (8 * (c - 1) + j)).missed ≠ 4) →
        t.alert = s.alert ∧ exec .outletUnmeasured s = .next s) ∧
      t.alert.mask = s.alert.mask ∧ t.alert.gap = s.alert.gap ∧
      t = { s with meter := t.meter, time := t.time, roster := t.roster, alert := t.alert }

/-! ## The roster -/

/-- R52: a LIVE record whose age exceeds stale factor × its period becomes LATE and keeps its age and period. R47, R53: a
LATE record whose age exceeds expire factor × its period expires: it becomes ABSENT, its entries and overflow bits go,
and in JOINED with no record left the link state becomes ALONE with LINK_ALONE. The row STATION_LATE has no effect on
any other record, which is the model's choice (log entry 10). -/
def Obligations.StationsGoLateAndExpire : Prop :=
  (∀ (n : Nat) (s : State), 1 ≤ n → n ≤ 16 →
    exec (.stationLate n) s = .next
      (if (rosterRecord s n).state = .live ∧
          s.loader.params.stale * (rosterRecord s n).period < (rosterRecord s n).age then
        { s with roster := s.roster.set (n - 1) { rosterRecord s n with state := .late } }
      else s)) ∧
  (∀ (n : Nat) (s : State), 1 ≤ n → n ≤ 16 → s.roster.length = 16 → (rosterRecord s n).state = .late →
    s.loader.params.expire * (rosterRecord s n).period < (rosterRecord s n).age →
    ∃ t, exec (.stationExpiry n) s = .next t ∧
      rosterRecord t n = ⟨.absent, 0, 0⟩ ∧ (∀ m, 1 ≤ m → m ≠ n → rosterRecord t m = rosterRecord s m) ∧
      t.table = s.table.filter (fun e => e.source != n) ∧
      t.recon = { s.recon with
        tenants := s.recon.tenants.map fun r => { r with overflow := dropStation r.overflow n } } ∧
      (∀ r ∈ t.recon.tenants, hasStation r.overflow n = false) ∧
      (if s.monitor.link = .joined ∧ ∀ r ∈ t.roster, r.state = .absent then
        t.monitor = { s.monitor with link := .alone, charErrors := 0, heard := false } ∧
          t.alert.latches = s.alert.latches ||| 0x0200#16
      else t.monitor = s.monitor ∧ t.alert = s.alert) ∧
      t.alert.mask = s.alert.mask ∧ t.alert.gap = s.alert.gap ∧
      t = { s with roster := t.roster, table := t.table, recon := t.recon, monitor := t.monitor, alert := t.alert })

/-! ## The period close -/

/-- R8, R34, R43, R48, R55, R56: what a period close does outside the tenant table: averages, counts, the report, which
raises REPORT_SUPERSEDED exactly where it replaces one marked new in ALONE or JOINED, and the line check of MUTED. That
the row of CHECK_COUNTDOWN_EXPIRY is the whole close that brings the countdown to 0, and has no effect at any other
moment, is DEDUCED (log entry 2). Where no close is due neither row has an effect (R8, log entry 10). A close whose work
is in hand is finished before another one (log entry 26). -/
def Obligations.PeriodCloseMakesAveragesAndReport : Prop :=
  (∀ s : State, closeDue s = false → exec .periodClose s = .next s ∧ exec .checkCountdownExpiry s = .next s) ∧
  (∀ s : State, closeDue s = true → exec .periodClose s = exec .periodClose (finishClose s) ∧
    exec .checkCountdownExpiry s =
      if s.monitor.link = .muted ∧ s.monitor.check = none ∧ s.monitor.countdown ≤ 1 then exec .periodClose s
      else .next s) ∧
  ∀ s : State, closeDue s = true → s.closeInHand = none → ∃ t, exec .periodClose s = .next t ∧
    (∀ n, 1 ≤ n → meterOutlet t n =
      if n ≤ 8 * s.loader.params.converterCount then
        { meterOutlet s n with
          average := (meterOutlet s n).accumulator / s.loader.params.periodTicks, accumulator := 0 }
      else meterOutlet s n) ∧
    t.meter.converters = s.meter.converters ∧ t.meter.reading = s.meter.reading ∧
    t.time = ⟨s.time.running, 0, s.time.periodNumber + 1⟩ ∧
    t.link = { s.link with
      fill := s.link.ready
      ready := some ⟨s.loader.params.periodTicks, t.recon.tenants.map fun r =>
        ⟨r.id, r.subtotal, decide (shedOutlets t r.id ≠ []), anyUnmeasured t r.id⟩⟩
      readyNew := true } ∧
    (latched t .reportSuperseded = true ↔ latched s .reportSuperseded = true ∨
      s.link.readyNew = true ∧ (s.monitor.link = .alone ∨ s.monitor.link = .joined)) ∧
    t.monitor = { s.monitor with
      charErrors := 0, heard := false
      countdown := if s.monitor.link = .muted ∧ s.monitor.check = none then s.monitor.countdown - 1
        else s.monitor.countdown
      check := if s.monitor.link = .muted ∧ s.monitor.check = none ∧ s.monitor.countdown ≤ 1 then
        some ⟨.periodic, 0⟩ else s.monitor.check } ∧
    t.recon.tenants.map Tenant.id = s.recon.tenants.map Tenant.id ∧
    t.roster = s.roster ∧ t.table = s.table ∧ t.loader = s.loader ∧ t.restartPending = s.restartPending ∧
    t.closeInHand = none ∧ t.pending = s.pending ∧ t.alert.mask = s.alert.mask ∧ t.alert.gap = s.alert.gap ∧
    ∀ n, (relayOutlet t n).lock = (relayOutlet s n).lock

/-- R78 to R86: the figures every tenant's record holds after a close: L, D, M and the view of that close. -/
def Obligations.CloseFiguresFollowTheRules : Prop :=
  ∀ s : State, closeDue s = true → s.closeInHand = none → (s.recon.tenants.map Tenant.id).Nodup →
    ∃ t, exec .periodClose s = .next t ∧
      t.recon.warmup = s.recon.warmup - 1 ∧
      t.recon.seedDue = (s.recon.seedDue && decide (0 < s.recon.warmup)) ∧
      ∀ r ∈ s.recon.tenants, ∃ r', findTenant t r.id = some r' ∧
        r'.subtotal = ((tenantOutlets s r.id).map fun n => (meterOutlet t n).average).sum ∧
        r'.draw = r'.subtotal + ((s.table.filter fun e => e.tenant == r.id).map Entry.value).sum ∧
        r'.demand = (if s.recon.warmup = 0 ∧ s.recon.seedDue = true then r'.draw
          else demandStep s.loader.params.k r.demand r'.draw) ∧
        r'.view = viewQuality s r ∧ r'.overflow = r.overflow ∧ r'.installed = r.installed

/-- R80: the step of the demand as the rule computes it with signed numbers; the new demand lies between the old one
and the cage draw; with k = 0 it is the cage draw, and it reaches a cage draw that stays still. -/
def Obligations.DemandMovesTowardTheDraw : Prop :=
  ∀ k m d : Nat,
    (∃ step : Int, (demandStep k m d : Int) = m + step ∧
      step = if d = m then 0
        else if Int.tdiv ((d : Int) - m) (2 ^ k) = 0 then (if m < d then 1 else -1)
        else Int.tdiv ((d : Int) - m) (2 ^ k)) ∧
    min m d ≤ demandStep k m d ∧ demandStep k m d ≤ max m d ∧
    demandStep 0 m d = d ∧
    ∃ n, (fun x => demandStep k x d)^[n] m = d

/-- R83 to R86: the three grades of the view. -/
def Obligations.ViewQualityIsGraded : Prop :=
  ∀ (s : State) (r : Tenant),
    let expected (n : Nat) : Prop := 1 ≤ n ∧ n ≤ 16 ∧ hasStation r.expected n = true ∧ n ≠ s.loader.station
    let isolated : Prop := (∃ n, expected n) ∧ ∀ n, expected n → (rosterRecord s n).state = .absent
    let doubtful : Prop :=
      (∃ n, expected n ∧ (rosterRecord s n).state ≠ .live) ∨
      (∃ e ∈ s.table, e.tenant = r.id ∧ ((rosterRecord s e.source).state = .late ∨ e.unmeasured = true)) ∨
      r.overflow ≠ 0 ∨
      (∃ n ∈ presentOutlets s, (relayOutlet s n).tenant = r.id ∧ (meterOutlet s n).unmeasured = true)
    (viewQuality s r = .isolated ↔ isolated) ∧
    (viewQuality s r = .partialView ↔ ¬ isolated ∧ doubtful) ∧
    (viewQuality s r = .complete ↔ ¬ isolated ∧ ¬ doubtful)

/-- R113: the share of an excess is X × L / D rounded up, is never above L, and is 0 without an excess or without a
local draw. -/
def Obligations.ShareIsRoundedUp : Prop :=
  ∀ r : Tenant,
    (r.draw ≤ r.contract ∨ r.subtotal = 0 → share r = 0) ∧
    (r.contract < r.draw → 0 < r.subtotal →
      1 ≤ share r ∧ (share r - 1) * r.draw < (r.draw - r.contract) * r.subtotal ∧
      (r.draw - r.contract) * r.subtotal ≤ share r * r.draw) ∧
    share r ≤ r.subtotal ∧
    (r.contract < r.draw → r.subtotal = r.draw → share r = r.draw - r.contract)

/-- R112, R114 to R118: a shed round. The candidates stand in shed order; the round takes the fewest of them, in that
order, whose averages reach the share; each taken outlet gets the shed flag and its average as power at shed; one OPEN
job each is queued in shed order (R130, R135), and no other outlet's relay state changes; one record is appended, or lost
with RECORD_LOST where the queue is full (R156); UNRESOLVED is raised where all candidates fall short, and no other
event. -/
def Obligations.ShedRoundTakesTheFewest : Prop :=
  ∀ (s : State) (id : Nat) (r : Tenant), findTenant s id = some r → s.relay.outlets.length = 24 →
    s.loader.params.converterCount ≤ 3 →
    let cands := shedCandidates s id
    let taken := shedTaken s id (share r)
    let power (ns : List Nat) := (ns.map fun n => (meterOutlet s n).average).sum
    (∀ n, n ∈ cands ↔ 1 ≤ n ∧ n ≤ 8 * s.loader.params.converterCount ∧ (relayOutlet s n).tenant = id ∧
      1 ≤ (relayOutlet s n).cls ∧ (relayOutlet s n).relay = .on ∧ (relayOutlet s n).lock = false ∧
      (relayOutlet s n).shed = none) ∧
    cands.Pairwise (fun a b => (relayOutlet s b).cls < (relayOutlet s a).cls ∨
      ((relayOutlet s a).cls = (relayOutlet s b).cls ∧
        ((meterOutlet s b).average < (meterOutlet s a).average ∨
          ((meterOutlet s a).average = (meterOutlet s b).average ∧ a < b)))) ∧
    taken <+: cands ∧
    (r.view = .isolated ∧ r.subtotal ≤ r.contract ∨ share r = 0 → shedRound id s = s) ∧
    (¬ (r.view = .isolated ∧ r.subtotal ≤ r.contract) → 0 < share r →
      power taken.dropLast < share r ∧
      (power taken < share r → taken = cands) ∧
      (∀ n, 1 ≤ n → (relayOutlet (shedRound id s) n).shed =
        if n ∈ taken then some (meterOutlet s n).average else (relayOutlet s n).shed) ∧
      (s.records.length < 16 → (shedRound id s).records = s.records ++
        [⟨if power taken < share r then .unresolved else .shed, id, s.time.periodNumber, r.draw, r.demand,
          r.contract, share r, taken⟩]) ∧
      (16 ≤ s.records.length → (shedRound id s).records = s.records) ∧
      (shedRound id s).alert.latches = s.alert.latches ||| (if power taken < share r then 0x0008#16 else 0#16) |||
        (if 16 ≤ s.records.length then 0x1000#16 else 0#16) ∧
      (RelayRule s → RelaysKept taken s (shedRound id s) ∧ ∀ jobs : List Job, jobs = taken.map (fun n => ⟨n, .toOpen, .change⟩) →
        if s.relay.coil = none ∧ s.restartPending = false then
          (shedRound id s).relay.coil = jobs.head?.map (fun j => ⟨j, .pulse⟩) ∧
            (shedRound id s).relay.queue = jobs.tail
        else
          (shedRound id s).relay.coil = s.relay.coil ∧ (shedRound id s).relay.queue = s.relay.queue ++ jobs))

/-- R121 to R126: a restore step. The candidates stand in restore order; only the first is considered, and it is
restored exactly when the view is COMPLETE, no lower-numbered LIVE peer reports SHED for the tenant, and D + p does not
exceed Rel. The restore appends a RESTORE record, which is lost with RECORD_LOST where the queue is full (R156). R130 to
R133: as its desired state turns to ON, the Relay Driver queues a CLOSE, or takes back an OPEN that is still queued; a
locked outlet it leaves as it is. -/
def Obligations.RestoreStepTakesTheFirst : Prop :=
  ∀ (s : State) (id : Nat) (r : Tenant), findTenant s id = some r → s.relay.outlets.length = 24 →
    s.loader.params.converterCount ≤ 3 →
    let power (n : Nat) := (relayOutlet s n).shed.getD 0
    (∀ n, n ∈ restoreCandidates s id ↔ 1 ≤ n ∧ n ≤ 8 * s.loader.params.converterCount ∧
      (relayOutlet s n).tenant = id ∧ (relayOutlet s n).shed ≠ none) ∧
    (restoreCandidates s id).Pairwise (fun a b => (relayOutlet s a).cls < (relayOutlet s b).cls ∨
      ((relayOutlet s a).cls = (relayOutlet s b).cls ∧
        (power a < power b ∨ (power a = power b ∧ a < b)))) ∧
    (restoreCandidates s id = [] → restoreStep id s = s) ∧
    ∀ n rest, restoreCandidates s id = n :: rest →
      let allowed : Prop := r.view = .complete ∧
        (∀ e ∈ s.table, e.tenant = id → e.source < s.loader.station →
          (rosterRecord s e.source).state = .live → e.shed = false) ∧
        r.draw + power n ≤ r.release
      (¬ allowed → restoreStep id s = s) ∧
      (allowed →
        (∀ m, 1 ≤ m → (relayOutlet (restoreStep id s) m).shed =
          if m = n then none else (relayOutlet s m).shed) ∧
        (s.records.length < 16 → (restoreStep id s).alert = s.alert ∧ (restoreStep id s).records = s.records ++
          [⟨.restore, id, s.time.periodNumber, r.draw, r.demand, r.contract, 0, [n]⟩]) ∧
        (16 ≤ s.records.length → (restoreStep id s).records = s.records ∧
          (restoreStep id s).alert.latches = s.alert.latches ||| 0x1000#16) ∧
        (RelayRule s → (if (relayOutlet s n).lock = true then RelayLeft n s (restoreStep id s)
            else TurnedOn n s (restoreStep id s)) ∧ RelaysKept [n] s (restoreStep id s)))

/-- R91, R96 to R105: how one close after warm-up moves the standing and the counters of every tenant. R87, R107 to
R110, R117, R118, R126: what it appends, raises, sheds and restores: the records of every tenant in table order, each
excursion's beginning and end, the round or the step the standing calls for, the events, and what becomes of the relays
(R130, R131). That the row is one step, in which no command comes between two records, is the model's choice (log entry
26). -/
def Obligations.StandingFollowsTheRules : Prop :=
  ∀ s : State, closeDue s = true → s.closeInHand = none → (s.recon.tenants.map Tenant.id).Nodup →
    s.recon.warmup = 0 → ∃ t, exec .periodClose s = .next t ∧
      (∀ r ∈ s.recon.tenants, ∃ r', findTenant t r.id = some r' ∧
        StandingMoves s.loader.params r r' (shedOutlets s r.id ≠ []) (shedOutlets t r.id ≠ [])) ∧
      (RelayRule s → s.relay.outlets.length = 24 → s.loader.params.converterCount ≤ 3 → s.records.length ≤ 16 →
        CloseEffects s t)

/-- R94: a warm-up close leaves every standing and counter, every outlet and the Record Queue as they were, and raises
nothing but a superseded report. -/
def Obligations.WarmupCloseEvaluatesNothing : Prop :=
  ∀ s : State, closeDue s = true → s.closeInHand = none → (s.recon.tenants.map Tenant.id).Nodup → 0 < s.recon.warmup →
    ∃ t, exec .periodClose s = .next t ∧
      (∀ r ∈ s.recon.tenants, ∃ r', findTenant t r.id = some r' ∧ r'.standing = r.standing ∧
        r'.grace = r.grace ∧ r'.settle = r.settle ∧ r'.restore = r.restore) ∧
      t.relay = s.relay ∧ t.records = s.records ∧
      (∀ k, k ≠ .reportSuperseded → latched t k = latched s k) ∧ t.recon.warmup + 1 = s.recon.warmup

/-- R98, R101, R103, R104: what becomes of a tenant whose grace, settle or restore counter runs out at a close. That
each of the three rows named after these counters is the whole period close at which the counter of its tenant runs out,
does all that the close does, and has no effect at any other moment, is DEDUCED (log entry 2). A close whose work is in
hand is finished before, so that the counters are those it leaves (R77, log entry 26). -/
def Obligations.CounterExpiriesAreCloses : Prop :=
  (∀ (s : State) (id : Nat),
    closeDue s = false ∨ 0 < (finishClose s).recon.warmup ∨ findTenant (finishClose s) id = none →
    exec (.graceExpiry id) s = .next s ∧ exec (.settleExpiry id) s = .next s ∧
      exec (.restoreCounterExpiry id) s = .next s) ∧
  ∀ (s w : State) (r : Tenant), closeDue s = true → w = finishClose s → (w.recon.tenants.map Tenant.id).Nodup →
    w.recon.warmup = 0 → r ∈ w.recon.tenants →
    let d := cageDraw (closeMeter w) r.id
    let m := if w.recon.seedDue = true then d else demandStep s.loader.params.k r.demand d
    (¬ (r.standing = .excess ∧ r.enforce = true ∧ r.grace = 1 ∧ d ≤ r.burst ∧ r.contract < m) →
      exec (.graceExpiry r.id) s = .next s) ∧
    (¬ (r.standing = .curtail ∧ r.settle = 0 ∧ r.release < m) → exec (.settleExpiry r.id) s = .next s) ∧
    (¬ (r.standing = .recover ∧ r.restore ≤ 1 ∧ (r.enforce = true → d ≤ r.burst ∧ m ≤ r.contract)) →
      exec (.restoreCounterExpiry r.id) s = .next s) ∧
    (r.standing = .excess → r.enforce = true → r.grace = 1 → d ≤ r.burst → r.contract < m →
      ∃ t r', exec (.graceExpiry r.id) s = .next t ∧ exec .periodClose s = .next t ∧
        findTenant t r.id = some r' ∧ r'.standing = .curtail ∧ r'.grace = 0 ∧
        r'.settle = s.loader.params.settle ∧ latched t .curtail = true) ∧
    (r.standing = .curtail → r.settle = 0 → r.release < m →
      ∃ t r', exec (.settleExpiry r.id) s = .next t ∧ exec .periodClose s = .next t ∧
        findTenant t r.id = some r' ∧ r'.standing = .curtail ∧ r'.settle = s.loader.params.settle) ∧
    (r.standing = .recover → r.restore ≤ 1 → (r.enforce = true → d ≤ r.burst) →
      (r.enforce = true → m ≤ r.contract) →
      ∃ t r', exec (.restoreCounterExpiry r.id) s = .next t ∧ exec .periodClose s = .next t ∧
        findTenant t r.id = some r' ∧ r'.restore = s.loader.params.spacing ∧
        (shedOutlets t r.id ≠ [] → r'.standing = .recover) ∧
        (shedOutlets t r.id = [] → ByDemand r r' ∧ latched t .restored = true))

/-! ## Receiving -/

/-- R16, R18, R20, R21, R23, R26, R48: what a glitch, an error and a good character do in each state of the frame
assembler; a character that was in progress after a yield goes on from the levels already read of it (log entry 24).
R36, R39, R48: in ALONE, the sixteenth character error of a period in which no frame was heard starts the rate search:
permission is withdrawn and the sweep begins at the default rate. That the row SEARCH_ON_CHARACTER_ERRORS does all that
this CHARACTER does is DEDUCED (log entry 2). The gap time is the model's own field (log entry 3). Of the levels a row
carries, those at the places of levels already read make no difference (log entry 24). -/
def Obligations.CharactersMoveTheAssembler : Prop :=
  (∀ (levels : BitVec 11) (s : State), LineFree s → GoesOn levels s →
    (judgeCharacter levels = .glitch →
      exec (.character levels) s = .next { s with link := { s.link with inCharacter := [], quiet := 0 } }) ∧
    (judgeCharacter levels = .error →
      ¬ (s.monitor.link = .alone ∧ s.monitor.charErrors = 15 ∧ s.monitor.heard = false) →
      exec (.character levels) s = .next { s with
        link := { s.link with assembler := .waitQuiet, inCharacter := [], quiet := 0, gap := 0 }
        monitor := { s.monitor with charErrors := min 255 (s.monitor.charErrors + 1) } }) ∧
    (∀ x, judgeCharacter levels = .good x →
      exec (.character levels) s = .next { s with link := { s.link with
        inCharacter := [], quiet := 0, gap := 0
        assembler := match s.link.assembler with
          | .waitQuiet => .waitQuiet
          | .armed => if x = 0xC5 then .inFrame [] else .waitQuiet
          | .inFrame b =>
            if b = [] ∧ (x = 0 ∨ 4 < x.toNat) ∨ b.length = 2 ∧ 200 < x.toNat then .waitQuiet
            else .inFrame (b ++ [x]) } })) ∧
  (∀ (levels : BitVec 11) (s : State), LineFree s → GoesOn levels s → judgeCharacter levels = .error →
    s.monitor.link = .alone → s.monitor.charErrors = 15 → s.monitor.heard = false →
    exec (.searchOnCharacterErrors levels) s = exec (.character levels) s ∧
    exec (.searchOnCharacterErrors levels) s = .next { s with
      monitor := { s.monitor with
        link := .search, rate := some (rateOfCode s.loader.params.rateCode), searchPosition := 1
        dwell := some 6000, charErrors := 0, heard := false, faults := 0, check := none }
      link := { s.link with
        assembler := .waitQuiet, inCharacter := [], quiet := 0, gap := 0, slot := none, send := none } }) ∧
  (∀ (given levels : BitVec 11) (s : State), LineFree s → GoesOn levels s →
    (∀ i, s.link.inCharacter.length ≤ i → i < 11 → given.getLsbD i = levels.getLsbD i) →
    exec (.character given) s = exec (.character levels) s ∧
    exec (.searchOnCharacterErrors given) s = exec (.searchOnCharacterErrors levels) s)

/-- R20: three bit times of quiet arm a waiting frame assembler; R22: the third recessive bit time after a stop bit
inside a frame drops the frame, and the assembler is ARMED unless a glitch has set the quiet time back. That both times
are counted from the end of the stop bit is DEDUCED (log entry 3), the rows bring them to their thresholds (log entry
9), and a quiet time past 3 arms the assembler too (log entry 23). While a character is in progress neither row has an
effect (log entry 24). -/
def Obligations.QuietArmsAndGapsDrop : Prop :=
  ∀ s : State, LineFree s →
    (s.link.inCharacter = [] → s.link.assembler = .waitQuiet → s.link.quiet ≤ 255 → ∃ g,
      exec .assemblerArmed s = .next { s with link := { s.link with
        assembler := .armed, quiet := max 3 s.link.quiet, gap := g } }) ∧
    (s.link.inCharacter ≠ [] → exec .assemblerArmed s = .next s ∧ exec .gapError s = .next s) ∧
    (∀ b, s.link.inCharacter = [] → s.link.assembler = .inFrame b → linkComplete b = false → s.link.gap < 3 → s.link.quiet ≤ s.link.gap →
      ∃ q, q + s.link.gap = s.link.quiet + 3 ∧
        exec .gapError s = .next { s with link := { s.link with
          assembler := if q = 3 then .armed else .waitQuiet, quiet := q, gap := 3 } })

/-- R24, R25, R48, R176: a frame whose check bytes do not match is dropped without a trace, and a valid RESPONSE or
LINE_CHECK outside SEARCH is a frame heard and nothing more. R41, R42, R47: in SEARCH it proves the rate: the dwell timer
stops, an entry line check is placed, and the link state becomes JOINED, or at once ALONE with LINK_ALONE where every
record is ABSENT (log entry 8). -/
def Obligations.FramesThatAreOnlyHeard : Prop :=
  (∀ (b : List Byte) (s : State), completedFrame s = some b →
    (linkValid b = false →
      exec .frameCompletion s = .next { s with link := { s.link with assembler := .waitQuiet } }) ∧
    (linkValid b = true → linkKind b = 3 ∨ linkKind b = 4 → s.monitor.link ≠ .search →
      exec .frameCompletion s = .next { s with
        link := { s.link with assembler := .waitQuiet }, monitor := { s.monitor with heard := true } })) ∧
  (∀ (b : List Byte) (s : State), completedFrame s = some b → linkValid b = true →
    linkKind b = 3 ∨ linkKind b = 4 → s.monitor.link = .search →
    ∃ t, exec .frameCompletion s = .next t ∧
      (if ∀ r ∈ s.roster, r.state = .absent then
        t.monitor = { s.monitor with
          link := .alone, dwell := none, check := some ⟨.entry, 0⟩, charErrors := 0, heard := false } ∧
        t.alert.latches = s.alert.latches ||| 0x0200#16
      else
        t.monitor = { s.monitor with
          link := .joined, dwell := none, check := some ⟨.entry, 0⟩, heard := true } ∧
        t.alert = s.alert) ∧
      t.alert.mask = s.alert.mask ∧ t.alert.gap = s.alert.gap ∧
      t = { s with link := { s.link with assembler := .waitQuiet }, monitor := t.monitor, alert := t.alert })

/-- R36, R49: a valid REPORT with the own number in ALONE, JOINED or MUTED makes the link state DUPLICATE and raises
DUPLICATE; it is not taken. R41: in SEARCH it ends the search first, whose entry line check then ends without a result
(log entry 8). In DUPLICATE it is heard and nothing more. -/
def Obligations.OwnNumberReportMakesDuplicate : Prop :=
  ∀ (b : List Byte) (s : State), completedFrame s = some b → linkValid b = true → linkKind b = 1 →
    linkSource b = s.loader.station →
    (s.monitor.link = .alone ∨ s.monitor.link = .joined ∨ s.monitor.link = .muted →
      ∃ t, exec .frameCompletion s = .next t ∧
        t.monitor = { s.monitor with link := .duplicate, heard := true, check := none } ∧
        t.link = { s.link with assembler := .waitQuiet, slot := none, send := none } ∧
        t.alert.latches = s.alert.latches ||| 0x0080#16 ∧ t.alert.mask = s.alert.mask ∧
        t = { s with monitor := t.monitor, link := t.link, alert := t.alert }) ∧
    (s.monitor.link = .search →
      ∃ t, exec .frameCompletion s = .next t ∧
        t.monitor = { s.monitor with link := .duplicate, heard := true, dwell := none, check := none } ∧
        t.link = { s.link with assembler := .waitQuiet, slot := none, send := none } ∧
        t.alert.latches = s.alert.latches ||| 0x0080#16 ∧ t.alert.mask = s.alert.mask ∧
        t.alert.gap = s.alert.gap ∧ t = { s with monitor := t.monitor, link := t.link, alert := t.alert }) ∧
    (s.monitor.link = .duplicate →
      exec .frameCompletion s = .next { s with
        link := { s.link with assembler := .waitQuiet }, monitor := { s.monitor with heard := true } })

/-- R41, R46, R51, R58, R60, R61 to R69: a report that is not malformed, taken in ALONE, JOINED, MUTED or DUPLICATE, or
in SEARCH, which it ends (log entry 8), as one whole: its source is LIVE with age 0; its entries are applied in their
order, each to what the ones before it have left; the local tenants it does not name have neither an entry of it nor its
overflow bit; and ALONE becomes JOINED. R63 to R68: an entry of a tenant that is not local does nothing; one that is
held is updated; a new one is created while there is room, marked and reported by UNEXPECTED_HOST where its source is
not expected; in a full table it takes the place of the victim, whose tenant gets the overflow bit of its source; with
no victim it is refused, and its own overflow bit is set; both raise TABLE_FULL. A malformed report is heard and nothing
more (R59). Before the frame is heard, a close whose work is in hand, which has been read without it, is finished (R77,
log entry 26), and the roster takes what the last tick completion left due, as the rows STATION_LATE and STATION_EXPIRY
of stations 1 to 16 (log entry 7), so that a link state that becomes ALONE with it leaves frame heard set by this frame
(R48). -/
def Obligations.ReportsAreTakenWhole : Prop :=
  (∀ (b : List Byte) (s : State), completedFrame s = some b → linkValid b = true → linkKind b = 1 →
    linkSource b ≠ s.loader.station → s.roster.length = 16 → s.monitor.link ≠ .linkOff →
    let src := linkSource b
    let es := reportEntries (linkPayload b)
    let named (id : Nat) : Bool := es.any fun e => e.tenant == id
    (reportMalformed s.loader.station src (linkPayload b) = true →
      ∃ t, exec .frameCompletion s = .next t ∧ SearchTested s (heard s) t) ∧
    (reportMalformed s.loader.station src (linkPayload b) = false →
      let w := finishClose s
      ∃ t, exec .frameCompletion s = .next t ∧
        rosterRecord t src = ⟨.live, 0, min 50 (max 5 (reportTicks (linkPayload b)))⟩ ∧
        t.monitor.link = (if s.monitor.link = .alone ∨ s.monitor.link = .search then .joined else s.monitor.link) ∧
        (s.monitor.link = .search → t.monitor.dwell = none ∧ t.monitor.check = some ⟨.entry, 0⟩) ∧
        t.recon.tenants.map Tenant.id = w.recon.tenants.map Tenant.id ∧
        (∀ r ∈ w.recon.tenants, ∃ r', findTenant t r.id = some r' ∧
          (∀ e ∈ es, e.tenant = r.id →
            (∃ x, findEntry t src r.id = some x ∧ x.value = min 960000 e.value ∧ x.shed = e.shed ∧
              x.unmeasured = e.unmeasured ∧ hasStation r'.overflow src = false) ∨
            (findEntry t src r.id = none ∧ hasStation r'.overflow src = true ∧ latched t .tableFull = true)) ∧
          ((∀ e ∈ es, e.tenant ≠ r.id) →
            findEntry t src r.id = none ∧ hasStation r'.overflow src = false)) ∧
        (∀ id, id ∉ w.recon.tenants.map Tenant.id → findEntry s src id = none → findEntry t src id = none) ∧
        (∀ x ∈ t.table, x.source ≠ src → x ∈ s.table) ∧
        t = { w with
          link := t.link, monitor := t.monitor, roster := t.roster, table := t.table, recon := t.recon
          alert := t.alert } ∧
        (∀ v : State, v = es.foldl (applyEntry src)
            (setRosterRecord src ⟨.live, 0, min 50 (max 5 (reportTicks (linkPayload b)))⟩ (heard (afterAll rosterRows w))) →
          t.monitor = { v.monitor with
            heard := true, link := if v.monitor.link = .alone then .joined else v.monitor.link } ∧
          t.link = (heard w).link ∧ t.roster = v.roster ∧ t.alert = v.alert ∧
          t.table = v.table.filter (fun x =>
            x.source != src || named x.tenant || !v.recon.tenants.any fun r => r.id == x.tenant) ∧
          t.recon = { v.recon with
            tenants := v.recon.tenants.map fun r =>
              if named r.id then r else { r with overflow := dropStation r.overflow src } }))) ∧
  ∀ (src : Nat) (e : ReportEntry) (v : State),
    (findTenant v e.tenant = none → applyEntry src v e = v) ∧
    ∀ r, findTenant v e.tenant = some r →
      let w := applyEntry src v e
      let new : Entry := ⟨src, e.tenant, min 960000 e.value, e.shed, e.unmeasured, !hasStation r.expected src⟩
      let unexpected : EventSet := if hasStation r.expected src then 0 else 0x0020
      let late (x : Entry) : Prop := (rosterRecord v x.source).state = .late
      let withOverflow (f : Tenant → StationSet) : Reconciler :=
        { v.recon with tenants := v.recon.tenants.map fun t => { t with overflow := f t } }
      let cleared (t : Tenant) (m : StationSet) : StationSet := if t.id = e.tenant then dropStation m src else m
      (findEntry v src e.tenant ≠ none → w = { v with
        table := v.table.map fun y =>
          if y.source = src ∧ y.tenant = e.tenant then
            { y with value := min 960000 e.value, shed := e.shed, unmeasured := e.unmeasured }
          else y
        recon := withOverflow fun t => cleared t t.overflow }) ∧
      (findEntry v src e.tenant = none → v.table.length < 128 →
        (∀ y, y ∈ w.table ↔ y = new ∨ y ∈ v.table) ∧ w.table.length = v.table.length + 1 ∧
        w.recon = withOverflow (fun t => cleared t t.overflow) ∧
        w.alert.latches = v.alert.latches ||| unexpected) ∧
      (findEntry v src e.tenant = none → 128 ≤ v.table.length →
        ((∀ y ∈ v.table, ¬ late y) → w.table = v.table ∧
          w.recon = withOverflow (fun t => if t.id = e.tenant then addStation t.overflow src else t.overflow) ∧
          w.alert.latches = v.alert.latches ||| 0x0040#16) ∧
        ∀ x ∈ v.table, late x →
          (∀ y ∈ v.table, late y → y = x ∨ (rosterRecord v y.source).age < (rosterRecord v x.source).age ∨
            ((rosterRecord v y.source).age = (rosterRecord v x.source).age ∧
              (x.source < y.source ∨ (x.source = y.source ∧ x.tenant < y.tenant)))) →
          (∀ y, y ∈ w.table ↔ y = new ∨ (y ∈ v.table ∧ ¬ (y.source = x.source ∧ y.tenant = x.tenant))) ∧
          w.recon = withOverflow (fun t =>
            cleared t (if t.id = x.tenant then addStation t.overflow x.source else t.overflow)) ∧
          w.alert.latches = v.alert.latches ||| unexpected ||| 0x0040#16) ∧
      w.alert.mask = v.alert.mask ∧ w.alert.gap = v.alert.gap ∧
      w = { v with table := w.table, recon := w.recon, alert := w.alert }

/-- R159, R161: a valid COMMAND from the gateway for this station, with two to four payload bytes, does what the gateway's
row for its code does; any other COMMAND is heard and nothing more. That the frame is its hearing and then the row is
DEDUCED (log entry 11). R41, R47: a COMMAND that ends the search is executed in JOINED, and JOINED is left for ALONE
after it where every roster record is ABSENT (log entry 8). -/
def Obligations.CommandFramesAreTheGatewayRows : Prop :=
  ∀ (b : List Byte) (s : State), completedFrame s = some b → linkValid b = true → linkKind b = 2 →
    (∀ target code arg, linkPayload b = target :: code :: arg → linkSource b = 0 →
      target.toNat = s.loader.station → arg.length ≤ 2 →
      (s.monitor.link ≠ .search → exec .frameCompletion s = exec (gatewayRow code arg) (heard s)) ∧
      ∃ u t, exec (gatewayRow code arg) (heard s) = .next u ∧ exec .frameCompletion s = .next t ∧
        SearchTested s u t) ∧
    (linkSource b ≠ 0 ∨ (linkPayload b).length < 2 ∨ 4 < (linkPayload b).length ∨
        ((linkPayload b).getD 0 0).toNat ≠ s.loader.station →
      ∃ t, exec .frameCompletion s = .next t ∧ SearchTested s (heard s) t)

/-! ## Sending -/

/-- R29: the start threshold, its range, and the sixteen access delays a frame visits in sixteen attempts. -/
def Obligations.AccessDelaysVisitEverySlot : Prop :=
  ∀ station attempt : Nat,
    startThreshold station attempt = 14 + 16 * ((station + 5 * attempt) % 16) ∧
    14 ≤ startThreshold station attempt ∧ startThreshold station attempt ≤ 254 ∧
    startThreshold station (attempt % 16) = startThreshold station attempt ∧
    ∀ slot, slot < 16 → ∃ n, n < 16 ∧ accessDelay station (attempt + n) = slot ∧
      ∀ m, m < 16 → accessDelay station (attempt + m) = slot → m = n

/-- R17, R24, R28, R57, R162: the frame that is driven is SYNC, Kind, the own station number as Source, Length, the
payload and the check bytes B and A: Kind 4 with the fixed pattern for a line check, Kind 3 with the command code
echoed, the result code and the data for a response, Kind 1 with the period ticks, the entry count and five bytes an
entry for the snapshot in SEND. R27, R28, R29, R35: an attempt start begins the first of a line check request, a full
slot and a report that is present and permitted, once the quiet time is at its threshold; a report marked new in READY
is exchanged with SEND. Nothing starts without a candidate (log entry 10) nor while a character is in progress (log
entry 24); the row brings the quiet time to the threshold (log entry 9). -/
def Obligations.AttemptStartBeginsTheCandidate : Prop :=
  (∀ s : State,
    let byte (n : Nat) : Byte := BitVec.ofNat 8 n
    let framed (kind : Byte) (payload : List Byte) : List Byte :=
      let body := kind :: byte s.loader.station :: byte payload.length :: payload
      0xC5 :: body ++ [byte (checkWord body).2, byte (checkWord body).1]
    outFrame s .lineCheck = framed 4 [0x00, 0xFF, 0x55, 0xAA, 0x0F, 0xF0, 0x33, 0xCC, 0x01, 0x80, 0xFE, 0x7F, 0xC5,
      0x3A, 0x96, 0x69] ∧
    (∀ r, s.link.slot = some r → outFrame s .response = framed 3 (r.code :: byte (match r.result with
      | .done => 0
      | .accepted => 1
      | .badArgument => 2
      | .protectedOutlet => 3
      | .notStuck => 4
      | .empty => 5
      | .invalid => 6) :: r.data)) ∧
    (∀ f, s.link.send = some f →
      (∀ e ∈ f.snapshot.entries, e.tenant < 4096 ∧ e.value < 1048576) →
      outFrame s .report = framed 1 (byte f.snapshot.periodTicks :: byte f.snapshot.entries.length ::
        f.snapshot.entries.flatMap fun e => [byte (e.tenant % 256),
          byte (e.tenant / 256 + 16 * e.shed.toNat + 32 * e.unmeasured.toNat),
          byte (e.value % 256), byte (e.value / 256 % 256), byte (e.value / 65536)]))) ∧
  (∀ s : State, LineFree s → s.link.inCharacter ≠ [] → exec .attemptStart s = .next s) ∧
  ∀ s : State, LineFree s → s.link.inCharacter = [] → s.link.quiet ≤ 255 →
    let sends := s.monitor.link = .alone ∨ s.monitor.link = .joined
    let started (k : SendKind) (attempt : Nat) (x : Transceiver) : Prop :=
      ∃ a g, exec .attemptStart s = .next { s with link := { x with
        sending := some k, quiet := max s.link.quiet (startThreshold s.loader.station attempt)
        assembler := a, gap := g } }
    (∀ c, s.monitor.check = some c → sends ∨ s.monitor.link = .muted → started .lineCheck c.attempt s.link) ∧
    (∀ r, s.monitor.check = none → s.link.slot = some r → sends → started .response r.attempt s.link) ∧
    (∀ r, s.monitor.check = none → s.link.slot = none → s.link.readyNew = true → s.link.ready = some r → sends →
      started .report 0 { s.link with
        send := some ⟨r, 0⟩, ready := s.link.send.map SendFrame.snapshot, readyNew := false }) ∧
    (∀ f, s.monitor.check = none → s.link.slot = none → s.link.readyNew = false → s.link.send = some f → sends →
      started .report f.attempt s.link) ∧
    (¬ sends → s.monitor.check = none ∨ s.monitor.link ≠ .muted → exec .attemptStart s = .next s) ∧
    (s.monitor.check = none → s.link.slot = none → s.link.readyNew = false → s.link.send = none →
      exec .attemptStart s = .next s)

/-- R26, R30: at a bit that was sent recessive and reads dominant the station yields: it stops driving, the frame's
attempt count rises modulo 16, the frame stays where it is, and the receiver goes on with its copy: the whole
characters, and the levels of the character in progress, the dominant one included (log entry 24). R18: where that bit
is a stop bit, the character ends with it in a framing error, which is counted and drops the copy; R48: and as the
sixteenth error of a period without a frame, in ALONE, it starts the rate search. A yield counts no fault. The quiet and
gap times after the yield follow log entry 3. -/
def Obligations.YieldKeepsTheFrame : Prop :=
  ∀ (bit : Nat) (s : State) (k : SendKind), s.link.sending = some k → bit < 11 * (outFrame s k).length →
    frameBit (outFrame s k) bit = true →
    let yielded : State := { s with
      link := { s.link with
        sending := none, quiet := 0, gap := 0
        slot := if k = .response then s.link.slot.map (fun r => { r with attempt := (r.attempt + 1) % 16 })
          else s.link.slot
        send := if k = .report then s.link.send.map (fun f => { f with attempt := (f.attempt + 1) % 16 })
          else s.link.send }
      monitor := { s.monitor with
        check := if k = .lineCheck then s.monitor.check.map (fun c => { c with attempt := (c.attempt + 1) % 16 })
          else s.monitor.check } }
    let searches : Prop := s.monitor.link = .alone ∧ s.monitor.charErrors = 15 ∧ s.monitor.heard = false
    (bit % 11 < 10 → exec (.yieldLine bit) s = .next { yielded with
      link := { yielded.link with
        assembler := ((outFrame s k).take (bit / 11)).foldl assembleByte .armed
        inCharacter := (List.range (bit % 11)).map (fun i => frameBit (outFrame s k) (bit - bit % 11 + i)) ++
          [false] } }) ∧
    (bit % 11 = 10 → ¬ searches → exec (.yieldLine bit) s = .next { yielded with
      link := { yielded.link with assembler := .waitQuiet, inCharacter := [] }
      monitor := { yielded.monitor with charErrors := min 255 (s.monitor.charErrors + 1) } }) ∧
    (bit % 11 = 10 → searches → exec (.yieldLine bit) s = .next { yielded with
      link := { yielded.link with assembler := .waitQuiet, inCharacter := [], slot := none, send := none }
      monitor := { s.monitor with
        link := .search, rate := some (rateOfCode s.loader.params.rateCode), searchPosition := 1
        dwell := some 6000, charErrors := 0, heard := false, faults := 0, check := none } })

/-- R26, R31, R44: a transmit fault on a response or a report below the limit of three drops the frame, raises its attempt
count and the consecutive count, and leaves the frame where it was. R36, R42, R44, R45: the third consecutive fault, and
a failed entry line check, take the link state to MUTED with TX_FAULT; a failed periodic line check sets the countdown
to 64. R19, R31: the faulty bit did not reach the line, and the quiet time goes on from the last dominant bit; the gap
time is the model's own (log entry 3). That the row TX_FAULT_LIMIT is the third fault and does all that this
TRANSMIT_FAULT does is DEDUCED (log entry 2). -/
def Obligations.FaultsAreCountedToMuted : Prop :=
  (∀ (bit : Nat) (s : State) (k : SendKind), s.link.sending = some k → bit < 11 * (outFrame s k).length →
    frameBit (outFrame s k) bit = false → k ≠ .lineCheck → s.monitor.faults < 2 →
    ∃ q, FaultQuiet (outFrame s k) bit s.link.quiet q ∧ exec (.transmitFault bit) s = .next { s with
      link := { s.link with
        sending := none, assembler := .waitQuiet, inCharacter := [], gap := 0, quiet := q
        slot := if k = .response then s.link.slot.map (fun r => { r with attempt := (r.attempt + 1) % 16 })
          else s.link.slot
        send := if k = .report then s.link.send.map (fun f => { f with attempt := (f.attempt + 1) % 16 })
          else s.link.send }
      monitor := { s.monitor with faults := s.monitor.faults + 1 } }) ∧
  (∀ (bit : Nat) (s : State) (k : SendKind), s.link.sending = some k → bit < 11 * (outFrame s k).length →
    frameBit (outFrame s k) bit = false →
    (k ≠ .lineCheck ∧ s.monitor.faults = 2 ∨ k = .lineCheck ∧ s.monitor.check.map LineCheck.kind = some .entry →
      ∃ t q, exec (.transmitFault bit) s = .next t ∧ (k ≠ .lineCheck → exec (.txFaultLimit bit) s = .next t) ∧
        FaultQuiet (outFrame s k) bit s.link.quiet q ∧
        t.monitor = { s.monitor with link := .muted, faults := 0, countdown := 64, check := none } ∧
        t.link = { s.link with
          sending := none, assembler := .waitQuiet, inCharacter := [], gap := 0, quiet := q
          slot := none, send := none } ∧
        t.alert.latches = s.alert.latches ||| 0x0100#16 ∧ t.alert.mask = s.alert.mask ∧
        t.alert.gap = s.alert.gap ∧
        t = { s with link := t.link, monitor := t.monitor, alert := t.alert }) ∧
    (k = .lineCheck → s.monitor.check.map LineCheck.kind = some .periodic →
      ∃ q, FaultQuiet (outFrame s k) bit s.link.quiet q ∧ exec (.transmitFault bit) s = .next { s with
        link := { s.link with
          sending := none, assembler := .waitQuiet, inCharacter := [], gap := 0, quiet := q }
        monitor := { s.monitor with check := none, countdown := 64 } }))

/-- R26, R32, R42, R43, R44: a success empties the slot or SEND and clears the consecutive count; a passed entry check
ends; a passed periodic check leads from MUTED to JOINED, or to ALONE where every record is ABSENT.
The quiet and gap times after the success follow log entry 3; with no frame being driven the row has no effect (log
entry 10). -/
def Obligations.SuccessEndsTheFrame : Prop :=
  ∀ s : State,
    let quieted := { s.link with
      sending := none, assembler := .waitQuiet, inCharacter := [], quiet := 0, gap := 0 }
    (s.link.sending = some .response → exec .transmitSuccess s = .next { s with
      link := { quieted with slot := none }, monitor := { s.monitor with faults := 0 } }) ∧
    (s.link.sending = some .report → exec .transmitSuccess s = .next { s with
      link := { quieted with send := none }, monitor := { s.monitor with faults := 0 } }) ∧
    (s.link.sending = some .lineCheck → s.monitor.check.map LineCheck.kind = some .entry →
      exec .transmitSuccess s = .next { s with
        link := quieted, monitor := { s.monitor with check := none, faults := 0 } }) ∧
    (s.link.sending = some .lineCheck → s.monitor.check.map LineCheck.kind = some .periodic →
      exec .transmitSuccess s = .next { s with
        link := quieted
        monitor := if ∀ r ∈ s.roster, r.state = .absent then
            { s.monitor with
              link := .alone, check := none, faults := 0, countdown := 0, charErrors := 0, heard := false }
          else { s.monitor with link := .joined, check := none, faults := 0, countdown := 0 } }) ∧
    (s.link.sending = none → exec .transmitSuccess s = .next s)

/-- R16, R39, R40, R42: at the end of each of the first three dwells the search goes on at the next rate of the sweep,
and at the end of the fourth the link state becomes ALONE at the default rate with an entry line check. Outside SEARCH
no dwell runs, and the row has no effect (log entry 10). The gap time is the model's own field (log entry 3). -/
def Obligations.DwellExpiryMovesTheSweep : Prop :=
  ∀ (s : State) (d : Rate), rateOfCode s.loader.params.rateCode = d →
    let quieted := { s.link with assembler := .waitQuiet, inCharacter := [], quiet := 0, gap := 0 }
    let sweep : List Rate := match d with
      | .kbit125 => [.kbit125, .kbit1000, .kbit500, .kbit250]
      | .kbit250 => [.kbit250, .kbit1000, .kbit500, .kbit125]
      | .kbit500 => [.kbit500, .kbit1000, .kbit250, .kbit125]
      | .kbit1000 => [.kbit1000, .kbit500, .kbit250, .kbit125]
    (s.monitor.link = .search → s.monitor.dwell ≠ none → 1 ≤ s.monitor.searchPosition →
      (∀ r, sweep[s.monitor.searchPosition]? = some r → exec .dwellExpiry s = .next { s with
        link := quieted
        monitor := { s.monitor with
          rate := some r, searchPosition := s.monitor.searchPosition + 1, dwell := some 6000 } }) ∧
      (s.monitor.searchPosition = 4 → exec .dwellExpiry s = .next { s with
        link := quieted
        monitor := { s.monitor with
          link := .alone, rate := some d, dwell := none, check := some ⟨.entry, 0⟩
          charErrors := 0, heard := false } })) ∧
    (s.monitor.link ≠ .search → exec .dwellExpiry s = .next s)

/-! ## Gateway commands -/

/-- R159, R160: a command with more than two argument bytes, and one that arrives while a restart is pending, has no
effect; one that meets a FULL slot is discarded with COMMAND_OVERRUN. That a gateway's row in LINK_OFF or SEARCH has no
effect is the model's reading of the rows, by which the frame that proves the rate ends the search before its command
is taken (log entry 11; R161 takes that command, and CommandFramesAreTheGatewayRows states it). R162,
R165: the outlet commands that do nothing: an argument that is not one byte naming a present outlet, a LOCK_OFF of a
class 0 outlet, and a CLEAR_FAULT of an outlet that is not STUCK. -/
def Obligations.CommandsThatDoNothing : Prop :=
  (∀ (code : Byte) (arg : List Byte) (s : State),
    (2 < arg.length ∨ s.monitor.link = .linkOff ∨ s.monitor.link = .search ∨ s.restartPending = true →
      exec (gatewayRow code arg) s = .next s) ∧
    (arg.length ≤ 2 → s.monitor.link ≠ .linkOff → s.monitor.link ≠ .search → s.restartPending = false →
      s.link.slot ≠ none →
      ∃ t, exec (gatewayRow code arg) s = .next t ∧ t.alert.latches = s.alert.latches ||| 0x2000#16 ∧
        t.alert.mask = s.alert.mask ∧ t.alert.gap = s.alert.gap ∧ t = { s with alert := t.alert })) ∧
  (∀ (arg : List Byte) (s : State), CommandTaken arg s →
    ((∀ x : Byte, arg = [x] → present s x.toNat = false) →
      exec (.lockOff arg) s = .next { s with link := answered s 0x03 .badArgument [] } ∧
      exec (.unlock arg) s = .next { s with link := answered s 0x04 .badArgument [] } ∧
      exec (.clearFault arg) s = .next { s with link := answered s 0x05 .badArgument [] }) ∧
    ∀ x : Byte, arg = [x] → present s x.toNat = true →
      ((relayOutlet s x.toNat).cls = 0 →
        exec (.lockOff arg) s = .next { s with link := answered s 0x03 .protectedOutlet [] }) ∧
      ((relayOutlet s x.toNat).relay ≠ .stuck →
        exec (.clearFault arg) s = .next { s with link := answered s 0x05 .notStuck [] }))

/-- R162, R163, R164: QUERY_STATUS answers DONE with the station fields and the entries of the part asked for,
QUERY_OUTLET with the state of a present outlet; any other argument is answered BAD_ARGUMENT. Nothing else changes, but
that both find a close whose work is in hand finished, and the tenant table and the outlet records as it leaves them
(R77, R112, log entry 26). R176 and spec/11: the installed parameters stand in the order and coding of image bytes 6 to
18, and the codes of link state, link rate, standing, view and relay state are those of the table; the rate code while
there is no rate is the model's (log entry 20). That a tenant entry carries no L, as R163 and the layout have it and R77
alone does not, is DEDUCED (log entry 25); it is among the figures that the query takes of each tenant (R77). The bits
of the standing and view byte and of the flag byte that the layout does not name are 0 by the model's choice (log entry
28). -/
def Obligations.QueriesAnswerTheState : Prop :=
  (∀ p : Params, statusParams p = [toByte p.converterCount, toByte p.periodTicks, toByte p.k, toByte p.stale,
    toByte p.expire, toByte p.settle, toByte p.spacing, toByte p.rateCode, p.alertMask.setWidth 8,
    (p.alertMask >>> 8).setWidth 8, toByte p.gapSelect, toByte p.pulseCode, toByte p.offThreshold]) ∧
  ([LinkState.linkOff, .search, .alone, .joined, .muted, .duplicate].map LinkState.number = [0, 1, 2, 3, 4, 5] ∧
    [none, some Rate.kbit125, some .kbit250, some .kbit500, some .kbit1000].map rateNumber = [0, 0, 1, 2, 3] ∧
    [Standing.clear, .watch, .excess, .curtail, .recover].map Standing.number = [0, 1, 2, 3, 4] ∧
    [View.complete, .partialView, .isolated].map View.number = [0, 1, 2] ∧
    [RelayState.unknown, .on, .off, .openPending, .opening, .closePending, .closing, .stuck].map RelayState.number =
      [0, 1, 2, 3, 4, 5, 6, 7]) ∧
  (∀ (arg : List Byte) (s : State), CommandTaken arg s →
    (∀ part, (arg = [] ∧ part = 0 ∨ arg = [0] ∧ part = 0 ∨ arg = [1] ∧ part = 1) →
      let w := finishClose s
      ∃ data, exec (.queryStatus arg) s = .next { w with link := answered w 0x01 .done data } ∧
        data = [toByte part, toByte w.loader.station, toByte w.monitor.link.number,
            toByte (rateNumber w.monitor.rate)] ++
          leBytes 2 w.alert.latches.toNat ++ [toByte w.records.length] ++ leBytes 2 w.loader.params.revision.toNat ++
          leBytes 4 w.time.periodNumber.toNat ++ [toByte w.recon.tenants.length] ++
          statusParams w.loader.params ++ [toByte ((w.recon.tenants.drop (12 * part)).take 12).length] ++
          ((w.recon.tenants.drop (12 * part)).take 12).flatMap (fun r =>
            leBytes 2 r.id ++ [toByte (r.standing.number + 16 * r.view.number)] ++ leBytes 3 r.draw ++
              leBytes 3 r.demand) ∧
        data.length = 28 + 9 * ((w.recon.tenants.drop (12 * part)).take 12).length ∧
        statusFigures w part = ((w.recon.tenants.drop (12 * part)).take 12).map fun r =>
          ⟨r.id, r.standing, r.view, r.subtotal, r.draw, r.demand⟩) ∧
    (arg ≠ [] → arg ≠ [0] → arg ≠ [1] →
      exec (.queryStatus arg) s = .next { s with link := answered s 0x01 .badArgument [] })) ∧
  (∀ (arg : List Byte) (s : State), CommandTaken arg s →
    (∀ x : Byte, arg = [x] → present s x.toNat = true →
      let w := finishClose s
      ∃ (flags : Nat) (data : List Byte),
        exec (.queryOutlet arg) s = .next { w with link := answered w 0x02 .done data } ∧
        data = [x] ++ leBytes 2 (relayOutlet w x.toNat).tenant ++ [toByte (relayOutlet w x.toNat).cls,
            toByte (relayOutlet w x.toNat).relay.number, toByte flags] ++
          leBytes 2 (meterOutlet w x.toNat).average ++ leBytes 2 ((relayOutlet w x.toNat).shed.getD 0) ∧
        flags < 16 ∧ flags.testBit 0 = (relayOutlet w x.toNat).lock ∧
        flags.testBit 1 = (relayOutlet w x.toNat).shed.isSome ∧
        flags.testBit 2 = (meterOutlet w x.toNat).unmeasured ∧
        (flags.testBit 3 = true ↔ (relayOutlet w x.toNat).tenant ≠ 0 ∧
          ∃ e ∈ w.table, e.tenant = (relayOutlet w x.toNat).tenant ∧ e.unexpected = true)) ∧
    ((∀ x : Byte, arg = [x] → present s x.toNat = false) →
      exec (.queryOutlet arg) s = .next { s with link := answered s 0x02 .badArgument [] }))

/-- R129 to R133, R139, R165: LOCK_OFF of a present outlet of class 1 to 15 sets its lock flag, clears its shed flag,
and turns its desired state to OFF where it was ON. A close whose work is in hand is finished before (R77, R112,
log entry 26). -/
def Obligations.LockOffLocksTheOutlet : Prop :=
  ∀ (x : Byte) (s : State), CommandTaken [x] s → RelayRule s → present s x.toNat = true → x.toNat ≤ 24 →
    1 ≤ (relayOutlet s x.toNat).cls →
    exec (.lockOff [x]) s = exec (.lockOff [x]) (finishClose s) ∧
    (s.closeInHand = none → ∃ t, exec (.lockOff [x]) s = .next t ∧
      t.link = answered s 0x03 .accepted [] ∧
      (relayOutlet t x.toNat).lock = true ∧ (relayOutlet t x.toNat).shed = none ∧
      OtherOutletsKept x.toNat s t ∧
      (if (relayOutlet s x.toNat).lock = true ∨ (relayOutlet s x.toNat).shed ≠ none then
        RelayLeft x.toNat s t
      else TurnedOff x.toNat s t) ∧
      ((relayOutlet s x.toNat).shed = none ∨ (∀ r, findTenant s (relayOutlet s x.toNat).tenant = some r →
          r.standing ≠ .recover ∨ ∃ m ∈ shedOutlets s r.id, m ≠ x.toNat) →
        t.recon = s.recon ∧ t.records = s.records ∧ t.alert = s.alert) ∧
      RelaysKept [x.toNat] s t ∧
      t = { s with link := t.link, relay := t.relay, recon := t.recon, records := t.records, alert := t.alert })

/-- R129 to R133, R139, R165: UNLOCK of a present outlet clears its lock flag, and turns its desired state to ON where
the lock alone held it OFF. A close whose work is in hand is finished before (R112, log entry 26). -/
def Obligations.UnlockUnlocksTheOutlet : Prop :=
  ∀ (x : Byte) (s : State), CommandTaken [x] s → RelayRule s → present s x.toNat = true → x.toNat ≤ 24 →
    exec (.unlock [x]) s = exec (.unlock [x]) (finishClose s) ∧
    (s.closeInHand = none → ∃ t, exec (.unlock [x]) s = .next t ∧
      t.link = answered s 0x04 .accepted [] ∧
      (relayOutlet t x.toNat).lock = false ∧ (relayOutlet t x.toNat).shed = (relayOutlet s x.toNat).shed ∧
      OtherOutletsKept x.toNat s t ∧
      (if (relayOutlet s x.toNat).lock = true ∧ (relayOutlet s x.toNat).shed = none then TurnedOn x.toNat s t
      else RelayLeft x.toNat s t) ∧
      RelaysKept [x.toNat] s t ∧
      t = { s with link := t.link, relay := t.relay })

/-- R141, R165: CLEAR_FAULT of a STUCK outlet makes its relay state ON, and queues an OPEN where its desired state is
OFF. A close whose work is in hand is finished before (R112, log entry 26). -/
def Obligations.ClearFaultFreesTheOutlet : Prop :=
  ∀ (x : Byte) (s : State), CommandTaken [x] s → RelayRule s → present s x.toNat = true → x.toNat ≤ 24 →
    (relayOutlet s x.toNat).relay = .stuck →
    exec (.clearFault [x]) s = exec (.clearFault [x]) (finishClose s) ∧
    (s.closeInHand = none → ∃ t, exec (.clearFault [x]) s = .next t ∧
      t.link = answered s 0x05 .accepted [] ∧
      (relayOutlet t x.toNat).lock = (relayOutlet s x.toNat).lock ∧
      (relayOutlet t x.toNat).shed = (relayOutlet s x.toNat).shed ∧
      OtherOutletsKept x.toNat s t ∧
      (if (relayOutlet s x.toNat).lock = true ∨ (relayOutlet s x.toNat).shed ≠ none then
        JobQueued x.toNat .toOpen s t
      else
        (relayOutlet t x.toNat).relay = .on ∧ t.relay.coil = s.relay.coil ∧ t.relay.queue = s.relay.queue) ∧
      RelaysKept [x.toNat] s t ∧
      t = { s with link := t.link, relay := t.relay })

/-- R106, R109: a LOCK_OFF that clears the last shed outlet of a tenant in RECOVER ends its excursion at once: outside
warm-up the standing is chosen by the M held and EXCESS_END is appended, and during warm-up, while the warm-up count is
above 0 (log entry 16), the standing becomes CLEAR without a record. RESTORED is not raised. R156: where the
queue is full, the record is lost with RECORD_LOST. -/
def Obligations.LockOfTheLastShedOutletEndsTheExcursion : Prop :=
  ∀ (x : Byte) (s : State) (r : Tenant), CommandTaken [x] s → RelayRule s → present s x.toNat = true →
    x.toNat ≤ 24 → 1 ≤ (relayOutlet s x.toNat).cls → s.closeInHand = none →
    findTenant s (relayOutlet s x.toNat).tenant = some r → r.standing = .recover →
    shedOutlets s r.id = [x.toNat] →
    ∃ t r', exec (.lockOff [x]) s = .next t ∧ findTenant t r.id = some r' ∧ shedOutlets t r.id = [] ∧
      (s.recon.warmup = 0 → ByDemand r r' ∧ r'.demand = r.demand ∧
        (s.records.length < 16 → t.alert = s.alert ∧ t.records = s.records ++
          [⟨.excessEnd, r.id, s.time.periodNumber, r.draw, r.demand, r.contract, 0, []⟩]) ∧
        (16 ≤ s.records.length → t.records = s.records ∧ t.alert.latches = s.alert.latches ||| 0x1000#16)) ∧
      (0 < s.recon.warmup → r'.standing = .clear ∧ t.records = s.records ∧ t.alert = s.alert)

/-- R150, R151, R162, R166: ACK_EVENTS clears the latches its two bytes name and no other, and ALERT_N is taken afresh;
with another number of bytes it does nothing. R150, R152, R153: END_ALERT releases ALERT_N and starts the gap, or starts
it again, at the installed length; when the gap runs out ALERT_N is taken afresh. No latch changes. With no gap running
the row GAP_EXPIRY has no effect (log entry 10). -/
def Obligations.AlertCommandsAct : Prop :=
  (∀ (arg : List Byte) (s : State), CommandTaken arg s →
    (∀ x y : Byte, arg = [x, y] → ∃ t, exec (.ackEvents arg) s = .next t ∧ AlertRule t ∧
      t.alert.latches = s.alert.latches &&& ~~~(y ++ x) ∧
      t.alert.mask = s.alert.mask ∧ t.alert.gap = s.alert.gap ∧
      t = { s with link := answered s 0x06 .done [], alert := t.alert }) ∧
    (arg.length ≠ 2 → exec (.ackEvents arg) s = .next { s with link := answered s 0x06 .badArgument [] })) ∧
  (∀ (arg : List Byte) (s : State),
    (CommandTaken arg s → arg = [] → exec (.endAlert arg) s = .next { s with
      link := answered s 0x07 .done []
      alert := { s.alert with
        gap := some (if s.loader.params.gapSelect = 0 then 10 else 1000), low := false } }) ∧
    (CommandTaken arg s → arg ≠ [] →
      exec (.endAlert arg) s = .next { s with link := answered s 0x07 .badArgument [] }) ∧
    (s.alert.gap ≠ none → ∃ t, exec .gapExpiry s = .next t ∧ AlertRule t ∧
      t = { s with alert := { s.alert with gap := none, low := t.alert.low } }) ∧
    (s.alert.gap = none → exec .gapExpiry s = .next s))

/-- R156, R157, R162, R167: FETCH_RECORD removes the oldest record and answers DONE with its fields, or answers EMPTY.
R162, R168: RESTART answers DONE and sets restart pending; a code that is none of the nine is answered INVALID, whatever
its argument. The codes of the record kinds are those of the table of spec/11. -/
def Obligations.RecordAndRestartCommandsAct : Prop :=
  [RecordKind.excessBegin, .excessEnd, .shed, .unresolved, .restore].map RecordKind.number = [0, 1, 2, 3, 4] ∧
  (∀ (arg : List Byte) (s : State), CommandTaken arg s →
    (arg = [] → s.records = [] → exec (.fetchRecord arg) s = .next { s with link := answered s 0x08 .empty [] }) ∧
    (∀ r rest, arg = [] → s.records = r :: rest → exec (.fetchRecord arg) s = .next { s with
      records := rest
      link := answered s 0x08 .done ([toByte r.kind.number] ++ leBytes 2 r.tenant ++
        leBytes 4 r.periodNumber.toNat ++ leBytes 3 r.draw ++ leBytes 3 r.demand ++ leBytes 3 r.contract ++
        leBytes 3 r.share ++ [toByte r.outlets.length] ++ r.outlets.map toByte) }) ∧
    (arg ≠ [] → exec (.fetchRecord arg) s = .next { s with link := answered s 0x08 .badArgument [] })) ∧
  (∀ (code : Byte) (arg : List Byte) (s : State), CommandTaken arg s →
    (arg = [] → exec (.restart arg) s = .next { s with
      link := answered s 0x09 .done [], restartPending := true }) ∧
    (arg ≠ [] → exec (.restart arg) s = .next { s with link := answered s 0x09 .badArgument [] }) ∧
    (code = 0 ∨ 9 < code.toNat →
      exec (.invalidCommand code arg) s = .next { s with link := answered s code .invalid [] }))

/-! ## The coil and the restart reset -/

/-- R135, R136, R137: the end of a pulse begins the settle; the end of a CLOSE's settle makes the relay ON, compares the
desired state and frees the coil; the end of an OPEN's settle begins the wait for the verify sample. A close whose work
is in hand is finished before the end of a settle (R112, log entry 26). Without the stage in hand its row has no effect
(log entry 10). -/
def Obligations.PulseAndSettleEnd : Prop :=
  ∀ s : State, RelayRule s →
    (∀ j, s.relay.coil = some ⟨j, .pulse⟩ →
      exec .pulseEnd s = .next { s with relay := { s.relay with coil := some ⟨j, .settle⟩ } }) ∧
    (∀ j, s.relay.coil = some ⟨j, .settle⟩ → exec .settleEnd s = exec .settleEnd (finishClose s)) ∧
    (s.closeInHand = none → ∀ j, s.relay.coil = some ⟨j, .settle⟩ → j.dir = .toOpen →
      exec .settleEnd s = .next { s with relay := { s.relay with coil := some ⟨j, .verify none⟩ } }) ∧
    (s.closeInHand = none → ∀ j, s.relay.coil = some ⟨j, .settle⟩ → j.dir = .toClose →
      let off : Prop := (relayOutlet s j.outlet).lock = true ∨ (relayOutlet s j.outlet).shed ≠ none
      ∃ t, exec .settleEnd s = .next t ∧
        (off → CoilFreed (s.relay.queue ++ [⟨j.outlet, .toOpen, .change⟩]) s t ∧
          (relayOutlet t j.outlet).relay =
            if s.relay.queue = [] ∧ s.restartPending = false then .opening else .openPending) ∧
        (¬ off → CoilFreed s.relay.queue s t ∧ (relayOutlet t j.outlet).relay = .on) ∧
        (∀ n, 1 ≤ n → (relayOutlet t n).lock = (relayOutlet s n).lock ∧
          (relayOutlet t n).shed = (relayOutlet s n).shed ∧ (relayOutlet t n).cls = (relayOutlet s n).cls ∧
          (relayOutlet t n).tenant = (relayOutlet s n).tenant) ∧
        RelaysKept (j.outlet :: (s.relay.queue.head?.map Job.outlet).toList) s t ∧
        t = { s with relay := t.relay }) ∧
    ((∀ j, s.relay.coil ≠ some ⟨j, .pulse⟩) → exec .pulseEnd s = .next s) ∧
    ((∀ j, s.relay.coil ≠ some ⟨j, .settle⟩) → exec .settleEnd s = .next s)

/-- R133, R136, R138: a verify sample at or below the off threshold makes the relay OFF and compares the desired state;
one above it makes the relay STUCK, raises RELAY_FAULT and clears the shed flag. Either way the coil is free and takes
the head of the queue. R106, R109: a STUCK result that clears the last shed outlet of a tenant in RECOVER ends its
excursion at once: the standing is chosen by the M held and EXCESS_END is appended, and while the warm-up count is above
0 (log entry 16) the standing becomes CLEAR without a record. R156: where the queue is full, the record is lost with
RECORD_LOST. A close whose work is in hand is finished before (R77, R112, log entry 26). Before the verify sample has
come the row has no effect (log entry 10). -/
def Obligations.OpenVerifyDecides : Prop :=
  ∀ s : State, RelayRule s →
    (verifyDue s = true → exec .openVerify s = exec .openVerify (finishClose s)) ∧
    (s.closeInHand = none → ∀ j x, s.relay.coil = some ⟨j, .verify (some x)⟩ → x ≤ s.loader.params.offThreshold →
      let off : Prop := (relayOutlet s j.outlet).lock = true ∨ (relayOutlet s j.outlet).shed ≠ none
      ∃ t, exec .openVerify s = .next t ∧
        (off → CoilFreed s.relay.queue s t ∧ (relayOutlet t j.outlet).relay = .off) ∧
        (¬ off → CoilFreed (s.relay.queue ++ [⟨j.outlet, .toClose, .change⟩]) s t ∧
          (relayOutlet t j.outlet).relay =
            if s.relay.queue = [] ∧ s.restartPending = false then .closing else .closePending) ∧
        (∀ n, 1 ≤ n → (relayOutlet t n).lock = (relayOutlet s n).lock ∧
          (relayOutlet t n).shed = (relayOutlet s n).shed) ∧
        RelaysKept (j.outlet :: (s.relay.queue.head?.map Job.outlet).toList) s t ∧
        t = { s with relay := t.relay }) ∧
    (s.closeInHand = none → ∀ j x, s.relay.coil = some ⟨j, .verify (some x)⟩ → s.loader.params.offThreshold < x →
      ∃ t, exec .openVerify s = .next t ∧ CoilFreed s.relay.queue s t ∧
        (relayOutlet t j.outlet).relay = .stuck ∧ (relayOutlet t j.outlet).shed = none ∧
        (relayOutlet t j.outlet).lock = (relayOutlet s j.outlet).lock ∧ OtherOutletsKept j.outlet s t ∧
        latched t .relayFault = true ∧
        ((relayOutlet s j.outlet).shed = none ∨ (∀ r, findTenant s (relayOutlet s j.outlet).tenant = some r →
            r.standing ≠ .recover ∨ ∃ m ∈ shedOutlets s r.id, m ≠ j.outlet) →
          t.recon = s.recon ∧ t.records = s.records ∧ t.alert.latches = s.alert.latches ||| 0x0400#16) ∧
        (∀ r, findTenant s (relayOutlet s j.outlet).tenant = some r → r.standing = .recover →
          shedOutlets s r.id = [j.outlet] →
          ∃ r', findTenant t r.id = some r' ∧ shedOutlets t r.id = [] ∧
            (s.recon.warmup = 0 → ByDemand r r' ∧ r'.demand = r.demand ∧
              (s.records.length < 16 → t.alert.latches = s.alert.latches ||| 0x0400#16 ∧
                t.records = s.records ++
                  [⟨.excessEnd, r.id, s.time.periodNumber, r.draw, r.demand, r.contract, 0, []⟩]) ∧
              (16 ≤ s.records.length → t.records = s.records ∧
                t.alert.latches = s.alert.latches ||| 0x0400#16 ||| 0x1000#16)) ∧
            (0 < s.recon.warmup → r'.standing = .clear ∧ t.records = s.records ∧
              t.alert.latches = s.alert.latches ||| 0x0400#16)) ∧
        RelaysKept (j.outlet :: (s.relay.queue.head?.map Job.outlet).toList) s t ∧
        t = { s with relay := t.relay, recon := t.recon, records := t.records, alert := t.alert }) ∧
    ((∀ j x, s.relay.coil ≠ some ⟨j, .verify (some x)⟩) → exec .openVerify s = .next s)

/-- R144, R168, R169, R175: the restart reset begins once the response is done with and the coil is free: every block
takes its power-on values but for the switching records; queued jobs are discarded and their outlets return to their
earlier relay states; the straps are sampled and the image read begins. Before that the row has no effect (log entry
10). That a close whose work is in hand is finished before the reset, and one that is only due is not taken, is the
model's choice (log entry 27). -/
def Obligations.RestartResetKeepsTheRelays : Prop :=
  ∀ (straps : BitVec 4) (s : State), RelayRule s →
    (s.restartPending = true → s.link.slot = none → s.relay.coil = none →
      exec (.restartReset straps) s = exec (.restartReset straps) (finishClose s)) ∧
    (s.restartPending = true → s.link.slot = none → s.relay.coil = none → s.closeInHand = none →
      ∃ t, exec (.restartReset straps) s = .next t ∧
        t.loader.load = .reading ∧ t.loader.afterRestart = true ∧ t.loader.station = straps.toNat + 1 ∧
        t.meter = State.reset.meter ∧ t.time = State.reset.time ∧ t.link = State.reset.link ∧
        t.monitor = State.reset.monitor ∧ t.roster = State.reset.roster ∧ t.table = [] ∧
        t.recon = State.reset.recon ∧ t.alert = State.reset.alert ∧ t.records = [] ∧
        t.closeInHand = none ∧ t.restartPending = false ∧ t.relay.queue = [] ∧ t.relay.coil = none ∧ t.pending = s.pending ∧
        (∀ n, 1 ≤ n →
          (relayOutlet t n).tenant = (relayOutlet s n).tenant ∧ (relayOutlet t n).cls = (relayOutlet s n).cls ∧
          (relayOutlet t n).lock = (relayOutlet s n).lock ∧ (relayOutlet t n).shed = (relayOutlet s n).shed) ∧
        (∀ j ∈ s.relay.queue, (relayOutlet t j.outlet).relay =
          match j.origin, j.dir with
          | .start, _ => .unknown
          | .change, .toOpen => .on
          | .change, .toClose => .off) ∧
        (∀ n, 1 ≤ n → (∀ j ∈ s.relay.queue, j.outlet ≠ n) →
          (relayOutlet t n).relay = (relayOutlet s n).relay)) ∧
    (s.restartPending = false ∨ s.link.slot ≠ none ∨ s.relay.coil ≠ none →
      exec (.restartReset straps) s = .next s)

/-! ## Excursions and records -/

/-- R74, R106, R156, R172: every step keeps the tenant ids distinct, the shed outlets of a tenant in CURTAIL or RECOVER
with at least one in RECOVER, but for the tenant whose departure a close in hand takes next (R104, log entry 26), and the
Record Queue within 16 records. -/
def Obligations.StepKeepsExcursionRule : Prop :=
  ∀ s t : State, RestUntilInstalled s → ExcursionRule s → step s = .next t → ExcursionRule t

end
end

