-- ==== Sys2Proof/Laws/State.lean ====
section
/-! SUPPORT. What each update of one block leaves in each field of the state: one lemma per field per update, true by
`rfl`. -/

namespace Sys2Proof.Machine

variable (s : State)

/-! ### withMeter -/

@[simp] theorem withMeter_meter (x : Meter) : (s.withMeter x).meter = x := rfl
@[simp] theorem withMeter_time (x : Meter) : (s.withMeter x).time = s.time := rfl
@[simp] theorem withMeter_link (x : Meter) : (s.withMeter x).link = s.link := rfl
@[simp] theorem withMeter_monitor (x : Meter) : (s.withMeter x).monitor = s.monitor := rfl
@[simp] theorem withMeter_roster (x : Meter) : (s.withMeter x).roster = s.roster := rfl
@[simp] theorem withMeter_table (x : Meter) : (s.withMeter x).table = s.table := rfl
@[simp] theorem withMeter_recon (x : Meter) : (s.withMeter x).recon = s.recon := rfl
@[simp] theorem withMeter_relay (x : Meter) : (s.withMeter x).relay = s.relay := rfl
@[simp] theorem withMeter_alert (x : Meter) : (s.withMeter x).alert = s.alert := rfl
@[simp] theorem withMeter_records (x : Meter) : (s.withMeter x).records = s.records := rfl
@[simp] theorem withMeter_closeInHand (x : Meter) : (s.withMeter x).closeInHand = s.closeInHand := rfl
@[simp] theorem withMeter_restartPending (x : Meter) : (s.withMeter x).restartPending = s.restartPending := rfl
@[simp] theorem withMeter_loader (x : Meter) : (s.withMeter x).loader = s.loader := rfl
@[simp] theorem withMeter_pending (x : Meter) : (s.withMeter x).pending = s.pending := rfl

/-! ### withTime -/

@[simp] theorem withTime_meter (x : TimeBase) : (s.withTime x).meter = s.meter := rfl
@[simp] theorem withTime_time (x : TimeBase) : (s.withTime x).time = x := rfl
@[simp] theorem withTime_link (x : TimeBase) : (s.withTime x).link = s.link := rfl
@[simp] theorem withTime_monitor (x : TimeBase) : (s.withTime x).monitor = s.monitor := rfl
@[simp] theorem withTime_roster (x : TimeBase) : (s.withTime x).roster = s.roster := rfl
@[simp] theorem withTime_table (x : TimeBase) : (s.withTime x).table = s.table := rfl
@[simp] theorem withTime_recon (x : TimeBase) : (s.withTime x).recon = s.recon := rfl
@[simp] theorem withTime_relay (x : TimeBase) : (s.withTime x).relay = s.relay := rfl
@[simp] theorem withTime_alert (x : TimeBase) : (s.withTime x).alert = s.alert := rfl
@[simp] theorem withTime_records (x : TimeBase) : (s.withTime x).records = s.records := rfl
@[simp] theorem withTime_closeInHand (x : TimeBase) : (s.withTime x).closeInHand = s.closeInHand := rfl
@[simp] theorem withTime_restartPending (x : TimeBase) : (s.withTime x).restartPending = s.restartPending := rfl
@[simp] theorem withTime_loader (x : TimeBase) : (s.withTime x).loader = s.loader := rfl
@[simp] theorem withTime_pending (x : TimeBase) : (s.withTime x).pending = s.pending := rfl

/-! ### withLink -/

@[simp] theorem withLink_meter (x : Transceiver) : (s.withLink x).meter = s.meter := rfl
@[simp] theorem withLink_time (x : Transceiver) : (s.withLink x).time = s.time := rfl
@[simp] theorem withLink_link (x : Transceiver) : (s.withLink x).link = x := rfl
@[simp] theorem withLink_monitor (x : Transceiver) : (s.withLink x).monitor = s.monitor := rfl
@[simp] theorem withLink_roster (x : Transceiver) : (s.withLink x).roster = s.roster := rfl
@[simp] theorem withLink_table (x : Transceiver) : (s.withLink x).table = s.table := rfl
@[simp] theorem withLink_recon (x : Transceiver) : (s.withLink x).recon = s.recon := rfl
@[simp] theorem withLink_relay (x : Transceiver) : (s.withLink x).relay = s.relay := rfl
@[simp] theorem withLink_alert (x : Transceiver) : (s.withLink x).alert = s.alert := rfl
@[simp] theorem withLink_records (x : Transceiver) : (s.withLink x).records = s.records := rfl
@[simp] theorem withLink_closeInHand (x : Transceiver) : (s.withLink x).closeInHand = s.closeInHand := rfl
@[simp] theorem withLink_restartPending (x : Transceiver) : (s.withLink x).restartPending = s.restartPending := rfl
@[simp] theorem withLink_loader (x : Transceiver) : (s.withLink x).loader = s.loader := rfl
@[simp] theorem withLink_pending (x : Transceiver) : (s.withLink x).pending = s.pending := rfl

/-! ### withMonitor -/

@[simp] theorem withMonitor_meter (x : Monitor) : (s.withMonitor x).meter = s.meter := rfl
@[simp] theorem withMonitor_time (x : Monitor) : (s.withMonitor x).time = s.time := rfl
@[simp] theorem withMonitor_link (x : Monitor) : (s.withMonitor x).link = s.link := rfl
@[simp] theorem withMonitor_monitor (x : Monitor) : (s.withMonitor x).monitor = x := rfl
@[simp] theorem withMonitor_roster (x : Monitor) : (s.withMonitor x).roster = s.roster := rfl
@[simp] theorem withMonitor_table (x : Monitor) : (s.withMonitor x).table = s.table := rfl
@[simp] theorem withMonitor_recon (x : Monitor) : (s.withMonitor x).recon = s.recon := rfl
@[simp] theorem withMonitor_relay (x : Monitor) : (s.withMonitor x).relay = s.relay := rfl
@[simp] theorem withMonitor_alert (x : Monitor) : (s.withMonitor x).alert = s.alert := rfl
@[simp] theorem withMonitor_records (x : Monitor) : (s.withMonitor x).records = s.records := rfl
@[simp] theorem withMonitor_closeInHand (x : Monitor) : (s.withMonitor x).closeInHand = s.closeInHand := rfl
@[simp] theorem withMonitor_restartPending (x : Monitor) : (s.withMonitor x).restartPending = s.restartPending := rfl
@[simp] theorem withMonitor_loader (x : Monitor) : (s.withMonitor x).loader = s.loader := rfl
@[simp] theorem withMonitor_pending (x : Monitor) : (s.withMonitor x).pending = s.pending := rfl

/-! ### withRoster -/

@[simp] theorem withRoster_meter (x : List RosterRecord) : (s.withRoster x).meter = s.meter := rfl
@[simp] theorem withRoster_time (x : List RosterRecord) : (s.withRoster x).time = s.time := rfl
@[simp] theorem withRoster_link (x : List RosterRecord) : (s.withRoster x).link = s.link := rfl
@[simp] theorem withRoster_monitor (x : List RosterRecord) : (s.withRoster x).monitor = s.monitor := rfl
@[simp] theorem withRoster_roster (x : List RosterRecord) : (s.withRoster x).roster = x := rfl
@[simp] theorem withRoster_table (x : List RosterRecord) : (s.withRoster x).table = s.table := rfl
@[simp] theorem withRoster_recon (x : List RosterRecord) : (s.withRoster x).recon = s.recon := rfl
@[simp] theorem withRoster_relay (x : List RosterRecord) : (s.withRoster x).relay = s.relay := rfl
@[simp] theorem withRoster_alert (x : List RosterRecord) : (s.withRoster x).alert = s.alert := rfl
@[simp] theorem withRoster_records (x : List RosterRecord) : (s.withRoster x).records = s.records := rfl
@[simp] theorem withRoster_closeInHand (x : List RosterRecord) : (s.withRoster x).closeInHand = s.closeInHand := rfl
@[simp] theorem withRoster_restartPending (x : List RosterRecord) : (s.withRoster x).restartPending = s.restartPending := rfl
@[simp] theorem withRoster_loader (x : List RosterRecord) : (s.withRoster x).loader = s.loader := rfl
@[simp] theorem withRoster_pending (x : List RosterRecord) : (s.withRoster x).pending = s.pending := rfl

/-! ### withTable -/

@[simp] theorem withTable_meter (x : List Entry) : (s.withTable x).meter = s.meter := rfl
@[simp] theorem withTable_time (x : List Entry) : (s.withTable x).time = s.time := rfl
@[simp] theorem withTable_link (x : List Entry) : (s.withTable x).link = s.link := rfl
@[simp] theorem withTable_monitor (x : List Entry) : (s.withTable x).monitor = s.monitor := rfl
@[simp] theorem withTable_roster (x : List Entry) : (s.withTable x).roster = s.roster := rfl
@[simp] theorem withTable_table (x : List Entry) : (s.withTable x).table = x := rfl
@[simp] theorem withTable_recon (x : List Entry) : (s.withTable x).recon = s.recon := rfl
@[simp] theorem withTable_relay (x : List Entry) : (s.withTable x).relay = s.relay := rfl
@[simp] theorem withTable_alert (x : List Entry) : (s.withTable x).alert = s.alert := rfl
@[simp] theorem withTable_records (x : List Entry) : (s.withTable x).records = s.records := rfl
@[simp] theorem withTable_closeInHand (x : List Entry) : (s.withTable x).closeInHand = s.closeInHand := rfl
@[simp] theorem withTable_restartPending (x : List Entry) : (s.withTable x).restartPending = s.restartPending := rfl
@[simp] theorem withTable_loader (x : List Entry) : (s.withTable x).loader = s.loader := rfl
@[simp] theorem withTable_pending (x : List Entry) : (s.withTable x).pending = s.pending := rfl

/-! ### withRecon -/

@[simp] theorem withRecon_meter (x : Reconciler) : (s.withRecon x).meter = s.meter := rfl
@[simp] theorem withRecon_time (x : Reconciler) : (s.withRecon x).time = s.time := rfl
@[simp] theorem withRecon_link (x : Reconciler) : (s.withRecon x).link = s.link := rfl
@[simp] theorem withRecon_monitor (x : Reconciler) : (s.withRecon x).monitor = s.monitor := rfl
@[simp] theorem withRecon_roster (x : Reconciler) : (s.withRecon x).roster = s.roster := rfl
@[simp] theorem withRecon_table (x : Reconciler) : (s.withRecon x).table = s.table := rfl
@[simp] theorem withRecon_recon (x : Reconciler) : (s.withRecon x).recon = x := rfl
@[simp] theorem withRecon_relay (x : Reconciler) : (s.withRecon x).relay = s.relay := rfl
@[simp] theorem withRecon_alert (x : Reconciler) : (s.withRecon x).alert = s.alert := rfl
@[simp] theorem withRecon_records (x : Reconciler) : (s.withRecon x).records = s.records := rfl
@[simp] theorem withRecon_closeInHand (x : Reconciler) : (s.withRecon x).closeInHand = s.closeInHand := rfl
@[simp] theorem withRecon_restartPending (x : Reconciler) : (s.withRecon x).restartPending = s.restartPending := rfl
@[simp] theorem withRecon_loader (x : Reconciler) : (s.withRecon x).loader = s.loader := rfl
@[simp] theorem withRecon_pending (x : Reconciler) : (s.withRecon x).pending = s.pending := rfl

/-! ### withRelay -/

@[simp] theorem withRelay_meter (x : RelayDriver) : (s.withRelay x).meter = s.meter := rfl
@[simp] theorem withRelay_time (x : RelayDriver) : (s.withRelay x).time = s.time := rfl
@[simp] theorem withRelay_link (x : RelayDriver) : (s.withRelay x).link = s.link := rfl
@[simp] theorem withRelay_monitor (x : RelayDriver) : (s.withRelay x).monitor = s.monitor := rfl
@[simp] theorem withRelay_roster (x : RelayDriver) : (s.withRelay x).roster = s.roster := rfl
@[simp] theorem withRelay_table (x : RelayDriver) : (s.withRelay x).table = s.table := rfl
@[simp] theorem withRelay_recon (x : RelayDriver) : (s.withRelay x).recon = s.recon := rfl
@[simp] theorem withRelay_relay (x : RelayDriver) : (s.withRelay x).relay = x := rfl
@[simp] theorem withRelay_alert (x : RelayDriver) : (s.withRelay x).alert = s.alert := rfl
@[simp] theorem withRelay_records (x : RelayDriver) : (s.withRelay x).records = s.records := rfl
@[simp] theorem withRelay_closeInHand (x : RelayDriver) : (s.withRelay x).closeInHand = s.closeInHand := rfl
@[simp] theorem withRelay_restartPending (x : RelayDriver) : (s.withRelay x).restartPending = s.restartPending := rfl
@[simp] theorem withRelay_loader (x : RelayDriver) : (s.withRelay x).loader = s.loader := rfl
@[simp] theorem withRelay_pending (x : RelayDriver) : (s.withRelay x).pending = s.pending := rfl

/-! ### withAlert -/

@[simp] theorem withAlert_meter (x : AlertUnit) : (s.withAlert x).meter = s.meter := rfl
@[simp] theorem withAlert_time (x : AlertUnit) : (s.withAlert x).time = s.time := rfl
@[simp] theorem withAlert_link (x : AlertUnit) : (s.withAlert x).link = s.link := rfl
@[simp] theorem withAlert_monitor (x : AlertUnit) : (s.withAlert x).monitor = s.monitor := rfl
@[simp] theorem withAlert_roster (x : AlertUnit) : (s.withAlert x).roster = s.roster := rfl
@[simp] theorem withAlert_table (x : AlertUnit) : (s.withAlert x).table = s.table := rfl
@[simp] theorem withAlert_recon (x : AlertUnit) : (s.withAlert x).recon = s.recon := rfl
@[simp] theorem withAlert_relay (x : AlertUnit) : (s.withAlert x).relay = s.relay := rfl
@[simp] theorem withAlert_alert (x : AlertUnit) : (s.withAlert x).alert = x := rfl
@[simp] theorem withAlert_records (x : AlertUnit) : (s.withAlert x).records = s.records := rfl
@[simp] theorem withAlert_closeInHand (x : AlertUnit) : (s.withAlert x).closeInHand = s.closeInHand := rfl
@[simp] theorem withAlert_restartPending (x : AlertUnit) : (s.withAlert x).restartPending = s.restartPending := rfl
@[simp] theorem withAlert_loader (x : AlertUnit) : (s.withAlert x).loader = s.loader := rfl
@[simp] theorem withAlert_pending (x : AlertUnit) : (s.withAlert x).pending = s.pending := rfl

/-! ### withRecords -/

@[simp] theorem withRecords_meter (x : List ExcursionRecord) : (s.withRecords x).meter = s.meter := rfl
@[simp] theorem withRecords_time (x : List ExcursionRecord) : (s.withRecords x).time = s.time := rfl
@[simp] theorem withRecords_link (x : List ExcursionRecord) : (s.withRecords x).link = s.link := rfl
@[simp] theorem withRecords_monitor (x : List ExcursionRecord) : (s.withRecords x).monitor = s.monitor := rfl
@[simp] theorem withRecords_roster (x : List ExcursionRecord) : (s.withRecords x).roster = s.roster := rfl
@[simp] theorem withRecords_table (x : List ExcursionRecord) : (s.withRecords x).table = s.table := rfl
@[simp] theorem withRecords_recon (x : List ExcursionRecord) : (s.withRecords x).recon = s.recon := rfl
@[simp] theorem withRecords_relay (x : List ExcursionRecord) : (s.withRecords x).relay = s.relay := rfl
@[simp] theorem withRecords_alert (x : List ExcursionRecord) : (s.withRecords x).alert = s.alert := rfl
@[simp] theorem withRecords_records (x : List ExcursionRecord) : (s.withRecords x).records = x := rfl
@[simp] theorem withRecords_closeInHand (x : List ExcursionRecord) : (s.withRecords x).closeInHand = s.closeInHand := rfl
@[simp] theorem withRecords_restartPending (x : List ExcursionRecord) : (s.withRecords x).restartPending = s.restartPending := rfl
@[simp] theorem withRecords_loader (x : List ExcursionRecord) : (s.withRecords x).loader = s.loader := rfl
@[simp] theorem withRecords_pending (x : List ExcursionRecord) : (s.withRecords x).pending = s.pending := rfl

/-! ### withCloseInHand -/

@[simp] theorem withCloseInHand_meter (x : Option CloseWork) : (s.withCloseInHand x).meter = s.meter := rfl
@[simp] theorem withCloseInHand_time (x : Option CloseWork) : (s.withCloseInHand x).time = s.time := rfl
@[simp] theorem withCloseInHand_link (x : Option CloseWork) : (s.withCloseInHand x).link = s.link := rfl
@[simp] theorem withCloseInHand_monitor (x : Option CloseWork) : (s.withCloseInHand x).monitor = s.monitor := rfl
@[simp] theorem withCloseInHand_roster (x : Option CloseWork) : (s.withCloseInHand x).roster = s.roster := rfl
@[simp] theorem withCloseInHand_table (x : Option CloseWork) : (s.withCloseInHand x).table = s.table := rfl
@[simp] theorem withCloseInHand_recon (x : Option CloseWork) : (s.withCloseInHand x).recon = s.recon := rfl
@[simp] theorem withCloseInHand_relay (x : Option CloseWork) : (s.withCloseInHand x).relay = s.relay := rfl
@[simp] theorem withCloseInHand_alert (x : Option CloseWork) : (s.withCloseInHand x).alert = s.alert := rfl
@[simp] theorem withCloseInHand_records (x : Option CloseWork) : (s.withCloseInHand x).records = s.records := rfl
@[simp] theorem withCloseInHand_closeInHand (x : Option CloseWork) : (s.withCloseInHand x).closeInHand = x := rfl
@[simp] theorem withCloseInHand_restartPending (x : Option CloseWork) : (s.withCloseInHand x).restartPending = s.restartPending := rfl
@[simp] theorem withCloseInHand_loader (x : Option CloseWork) : (s.withCloseInHand x).loader = s.loader := rfl
@[simp] theorem withCloseInHand_pending (x : Option CloseWork) : (s.withCloseInHand x).pending = s.pending := rfl

/-! ### withRestartPending -/

@[simp] theorem withRestartPending_meter (x : Bool) : (s.withRestartPending x).meter = s.meter := rfl
@[simp] theorem withRestartPending_time (x : Bool) : (s.withRestartPending x).time = s.time := rfl
@[simp] theorem withRestartPending_link (x : Bool) : (s.withRestartPending x).link = s.link := rfl
@[simp] theorem withRestartPending_monitor (x : Bool) : (s.withRestartPending x).monitor = s.monitor := rfl
@[simp] theorem withRestartPending_roster (x : Bool) : (s.withRestartPending x).roster = s.roster := rfl
@[simp] theorem withRestartPending_table (x : Bool) : (s.withRestartPending x).table = s.table := rfl
@[simp] theorem withRestartPending_recon (x : Bool) : (s.withRestartPending x).recon = s.recon := rfl
@[simp] theorem withRestartPending_relay (x : Bool) : (s.withRestartPending x).relay = s.relay := rfl
@[simp] theorem withRestartPending_alert (x : Bool) : (s.withRestartPending x).alert = s.alert := rfl
@[simp] theorem withRestartPending_records (x : Bool) : (s.withRestartPending x).records = s.records := rfl
@[simp] theorem withRestartPending_closeInHand (x : Bool) : (s.withRestartPending x).closeInHand = s.closeInHand := rfl
@[simp] theorem withRestartPending_restartPending (x : Bool) : (s.withRestartPending x).restartPending = x := rfl
@[simp] theorem withRestartPending_loader (x : Bool) : (s.withRestartPending x).loader = s.loader := rfl
@[simp] theorem withRestartPending_pending (x : Bool) : (s.withRestartPending x).pending = s.pending := rfl

/-! ### withLoader -/

@[simp] theorem withLoader_meter (x : Loader) : (s.withLoader x).meter = s.meter := rfl
@[simp] theorem withLoader_time (x : Loader) : (s.withLoader x).time = s.time := rfl
@[simp] theorem withLoader_link (x : Loader) : (s.withLoader x).link = s.link := rfl
@[simp] theorem withLoader_monitor (x : Loader) : (s.withLoader x).monitor = s.monitor := rfl
@[simp] theorem withLoader_roster (x : Loader) : (s.withLoader x).roster = s.roster := rfl
@[simp] theorem withLoader_table (x : Loader) : (s.withLoader x).table = s.table := rfl
@[simp] theorem withLoader_recon (x : Loader) : (s.withLoader x).recon = s.recon := rfl
@[simp] theorem withLoader_relay (x : Loader) : (s.withLoader x).relay = s.relay := rfl
@[simp] theorem withLoader_alert (x : Loader) : (s.withLoader x).alert = s.alert := rfl
@[simp] theorem withLoader_records (x : Loader) : (s.withLoader x).records = s.records := rfl
@[simp] theorem withLoader_closeInHand (x : Loader) : (s.withLoader x).closeInHand = s.closeInHand := rfl
@[simp] theorem withLoader_restartPending (x : Loader) : (s.withLoader x).restartPending = s.restartPending := rfl
@[simp] theorem withLoader_loader (x : Loader) : (s.withLoader x).loader = x := rfl
@[simp] theorem withLoader_pending (x : Loader) : (s.withLoader x).pending = s.pending := rfl

/-! ### withPending -/

@[simp] theorem withPending_meter (x : List Instr) : (s.withPending x).meter = s.meter := rfl
@[simp] theorem withPending_time (x : List Instr) : (s.withPending x).time = s.time := rfl
@[simp] theorem withPending_link (x : List Instr) : (s.withPending x).link = s.link := rfl
@[simp] theorem withPending_monitor (x : List Instr) : (s.withPending x).monitor = s.monitor := rfl
@[simp] theorem withPending_roster (x : List Instr) : (s.withPending x).roster = s.roster := rfl
@[simp] theorem withPending_table (x : List Instr) : (s.withPending x).table = s.table := rfl
@[simp] theorem withPending_recon (x : List Instr) : (s.withPending x).recon = s.recon := rfl
@[simp] theorem withPending_relay (x : List Instr) : (s.withPending x).relay = s.relay := rfl
@[simp] theorem withPending_alert (x : List Instr) : (s.withPending x).alert = s.alert := rfl
@[simp] theorem withPending_records (x : List Instr) : (s.withPending x).records = s.records := rfl
@[simp] theorem withPending_closeInHand (x : List Instr) : (s.withPending x).closeInHand = s.closeInHand := rfl
@[simp] theorem withPending_restartPending (x : List Instr) : (s.withPending x).restartPending = s.restartPending := rfl
@[simp] theorem withPending_loader (x : List Instr) : (s.withPending x).loader = s.loader := rfl
@[simp] theorem withPending_pending (x : List Instr) : (s.withPending x).pending = x := rfl

end Sys2Proof.Machine
end

