-- ==== Sys2Proof/Laws/OpsFrames.lean ====
section
/-! SUPPORT. Frames: the blocks that the shared operations of Machine/Ops.lean leave as they were. -/

namespace Sys2Proof.Machine

/-- A field that no step of a fold changes is left by the whole fold. -/
theorem foldl_keeps {α β γ : Type} (f : α → γ) (g : α → β → α) (h : ∀ s b, f (g s b) = f s) (l : List β) (s : α) :
    f (l.foldl g s) = f s := by
  induction l generalizing s with
  | nil => rfl
  | cons b l ih => simp [ih, h]

variable (s : State)

/-! ### raise -/

@[simp] theorem raise_meter (k : EventKind) : (raise k s).meter = s.meter := by simp [raise]
@[simp] theorem raise_time (k : EventKind) : (raise k s).time = s.time := by simp [raise]
@[simp] theorem raise_link (k : EventKind) : (raise k s).link = s.link := by simp [raise]
@[simp] theorem raise_monitor (k : EventKind) : (raise k s).monitor = s.monitor := by simp [raise]
@[simp] theorem raise_roster (k : EventKind) : (raise k s).roster = s.roster := by simp [raise]
@[simp] theorem raise_table (k : EventKind) : (raise k s).table = s.table := by simp [raise]
@[simp] theorem raise_recon (k : EventKind) : (raise k s).recon = s.recon := by simp [raise]
@[simp] theorem raise_relay (k : EventKind) : (raise k s).relay = s.relay := by simp [raise]
@[simp] theorem raise_records (k : EventKind) : (raise k s).records = s.records := by simp [raise]
@[simp] theorem raise_closeInHand (k : EventKind) : (raise k s).closeInHand = s.closeInHand := by simp [raise]
@[simp] theorem raise_restartPending (k : EventKind) : (raise k s).restartPending = s.restartPending := by simp [raise]
@[simp] theorem raise_loader (k : EventKind) : (raise k s).loader = s.loader := by simp [raise]
@[simp] theorem raise_pending (k : EventKind) : (raise k s).pending = s.pending := by simp [raise]

/-! ### appendRecord -/

@[simp] theorem appendRecord_meter (r : ExcursionRecord) : (appendRecord r s).meter = s.meter := by unfold appendRecord; (repeat' split) <;> simp
@[simp] theorem appendRecord_time (r : ExcursionRecord) : (appendRecord r s).time = s.time := by unfold appendRecord; (repeat' split) <;> simp
@[simp] theorem appendRecord_link (r : ExcursionRecord) : (appendRecord r s).link = s.link := by unfold appendRecord; (repeat' split) <;> simp
@[simp] theorem appendRecord_monitor (r : ExcursionRecord) : (appendRecord r s).monitor = s.monitor := by unfold appendRecord; (repeat' split) <;> simp
@[simp] theorem appendRecord_roster (r : ExcursionRecord) : (appendRecord r s).roster = s.roster := by unfold appendRecord; (repeat' split) <;> simp
@[simp] theorem appendRecord_table (r : ExcursionRecord) : (appendRecord r s).table = s.table := by unfold appendRecord; (repeat' split) <;> simp
@[simp] theorem appendRecord_recon (r : ExcursionRecord) : (appendRecord r s).recon = s.recon := by unfold appendRecord; (repeat' split) <;> simp
@[simp] theorem appendRecord_relay (r : ExcursionRecord) : (appendRecord r s).relay = s.relay := by unfold appendRecord; (repeat' split) <;> simp
@[simp] theorem appendRecord_closeInHand (r : ExcursionRecord) : (appendRecord r s).closeInHand = s.closeInHand := by unfold appendRecord; (repeat' split) <;> simp
@[simp] theorem appendRecord_restartPending (r : ExcursionRecord) : (appendRecord r s).restartPending = s.restartPending := by unfold appendRecord; (repeat' split) <;> simp
@[simp] theorem appendRecord_loader (r : ExcursionRecord) : (appendRecord r s).loader = s.loader := by unfold appendRecord; (repeat' split) <;> simp
@[simp] theorem appendRecord_pending (r : ExcursionRecord) : (appendRecord r s).pending = s.pending := by unfold appendRecord; (repeat' split) <;> simp

/-! ### setRelayOutlet -/

@[simp] theorem setRelayOutlet_meter (n : Nat) (f : RelayOutlet → RelayOutlet) : (setRelayOutlet n f s).meter = s.meter := by simp [setRelayOutlet]
@[simp] theorem setRelayOutlet_time (n : Nat) (f : RelayOutlet → RelayOutlet) : (setRelayOutlet n f s).time = s.time := by simp [setRelayOutlet]
@[simp] theorem setRelayOutlet_link (n : Nat) (f : RelayOutlet → RelayOutlet) : (setRelayOutlet n f s).link = s.link := by simp [setRelayOutlet]
@[simp] theorem setRelayOutlet_monitor (n : Nat) (f : RelayOutlet → RelayOutlet) : (setRelayOutlet n f s).monitor = s.monitor := by simp [setRelayOutlet]
@[simp] theorem setRelayOutlet_roster (n : Nat) (f : RelayOutlet → RelayOutlet) : (setRelayOutlet n f s).roster = s.roster := by simp [setRelayOutlet]
@[simp] theorem setRelayOutlet_table (n : Nat) (f : RelayOutlet → RelayOutlet) : (setRelayOutlet n f s).table = s.table := by simp [setRelayOutlet]
@[simp] theorem setRelayOutlet_recon (n : Nat) (f : RelayOutlet → RelayOutlet) : (setRelayOutlet n f s).recon = s.recon := by simp [setRelayOutlet]
@[simp] theorem setRelayOutlet_alert (n : Nat) (f : RelayOutlet → RelayOutlet) : (setRelayOutlet n f s).alert = s.alert := by simp [setRelayOutlet]
@[simp] theorem setRelayOutlet_records (n : Nat) (f : RelayOutlet → RelayOutlet) : (setRelayOutlet n f s).records = s.records := by simp [setRelayOutlet]
@[simp] theorem setRelayOutlet_closeInHand (n : Nat) (f : RelayOutlet → RelayOutlet) : (setRelayOutlet n f s).closeInHand = s.closeInHand := by simp [setRelayOutlet]
@[simp] theorem setRelayOutlet_restartPending (n : Nat) (f : RelayOutlet → RelayOutlet) : (setRelayOutlet n f s).restartPending = s.restartPending := by simp [setRelayOutlet]
@[simp] theorem setRelayOutlet_loader (n : Nat) (f : RelayOutlet → RelayOutlet) : (setRelayOutlet n f s).loader = s.loader := by simp [setRelayOutlet]
@[simp] theorem setRelayOutlet_pending (n : Nat) (f : RelayOutlet → RelayOutlet) : (setRelayOutlet n f s).pending = s.pending := by simp [setRelayOutlet]

/-! ### setTenant -/

@[simp] theorem setTenant_meter (id : Nat) (f : Tenant → Tenant) : (setTenant id f s).meter = s.meter := by simp [setTenant]
@[simp] theorem setTenant_time (id : Nat) (f : Tenant → Tenant) : (setTenant id f s).time = s.time := by simp [setTenant]
@[simp] theorem setTenant_link (id : Nat) (f : Tenant → Tenant) : (setTenant id f s).link = s.link := by simp [setTenant]
@[simp] theorem setTenant_monitor (id : Nat) (f : Tenant → Tenant) : (setTenant id f s).monitor = s.monitor := by simp [setTenant]
@[simp] theorem setTenant_roster (id : Nat) (f : Tenant → Tenant) : (setTenant id f s).roster = s.roster := by simp [setTenant]
@[simp] theorem setTenant_table (id : Nat) (f : Tenant → Tenant) : (setTenant id f s).table = s.table := by simp [setTenant]
@[simp] theorem setTenant_relay (id : Nat) (f : Tenant → Tenant) : (setTenant id f s).relay = s.relay := by simp [setTenant]
@[simp] theorem setTenant_alert (id : Nat) (f : Tenant → Tenant) : (setTenant id f s).alert = s.alert := by simp [setTenant]
@[simp] theorem setTenant_records (id : Nat) (f : Tenant → Tenant) : (setTenant id f s).records = s.records := by simp [setTenant]
@[simp] theorem setTenant_closeInHand (id : Nat) (f : Tenant → Tenant) : (setTenant id f s).closeInHand = s.closeInHand := by simp [setTenant]
@[simp] theorem setTenant_restartPending (id : Nat) (f : Tenant → Tenant) : (setTenant id f s).restartPending = s.restartPending := by simp [setTenant]
@[simp] theorem setTenant_loader (id : Nat) (f : Tenant → Tenant) : (setTenant id f s).loader = s.loader := by simp [setTenant]
@[simp] theorem setTenant_pending (id : Nat) (f : Tenant → Tenant) : (setTenant id f s).pending = s.pending := by simp [setTenant]

/-! ### coilTake -/

@[simp] theorem coilTake_meter : (coilTake s).meter = s.meter := by unfold coilTake; (repeat' split) <;> simp
@[simp] theorem coilTake_time : (coilTake s).time = s.time := by unfold coilTake; (repeat' split) <;> simp
@[simp] theorem coilTake_link : (coilTake s).link = s.link := by unfold coilTake; (repeat' split) <;> simp
@[simp] theorem coilTake_monitor : (coilTake s).monitor = s.monitor := by unfold coilTake; (repeat' split) <;> simp
@[simp] theorem coilTake_roster : (coilTake s).roster = s.roster := by unfold coilTake; (repeat' split) <;> simp
@[simp] theorem coilTake_table : (coilTake s).table = s.table := by unfold coilTake; (repeat' split) <;> simp
@[simp] theorem coilTake_recon : (coilTake s).recon = s.recon := by unfold coilTake; (repeat' split) <;> simp
@[simp] theorem coilTake_alert : (coilTake s).alert = s.alert := by unfold coilTake; (repeat' split) <;> simp
@[simp] theorem coilTake_records : (coilTake s).records = s.records := by unfold coilTake; (repeat' split) <;> simp
@[simp] theorem coilTake_closeInHand : (coilTake s).closeInHand = s.closeInHand := by unfold coilTake; (repeat' split) <;> simp
@[simp] theorem coilTake_restartPending : (coilTake s).restartPending = s.restartPending := by unfold coilTake; (repeat' split) <;> simp
@[simp] theorem coilTake_loader : (coilTake s).loader = s.loader := by unfold coilTake; (repeat' split) <;> simp
@[simp] theorem coilTake_pending : (coilTake s).pending = s.pending := by unfold coilTake; (repeat' split) <;> simp

/-! ### queueJob -/

@[simp] theorem queueJob_meter (n : Nat) (d : JobDir) : (queueJob n d s).meter = s.meter := by simp [queueJob]
@[simp] theorem queueJob_time (n : Nat) (d : JobDir) : (queueJob n d s).time = s.time := by simp [queueJob]
@[simp] theorem queueJob_link (n : Nat) (d : JobDir) : (queueJob n d s).link = s.link := by simp [queueJob]
@[simp] theorem queueJob_monitor (n : Nat) (d : JobDir) : (queueJob n d s).monitor = s.monitor := by simp [queueJob]
@[simp] theorem queueJob_roster (n : Nat) (d : JobDir) : (queueJob n d s).roster = s.roster := by simp [queueJob]
@[simp] theorem queueJob_table (n : Nat) (d : JobDir) : (queueJob n d s).table = s.table := by simp [queueJob]
@[simp] theorem queueJob_recon (n : Nat) (d : JobDir) : (queueJob n d s).recon = s.recon := by simp [queueJob]
@[simp] theorem queueJob_alert (n : Nat) (d : JobDir) : (queueJob n d s).alert = s.alert := by simp [queueJob]
@[simp] theorem queueJob_records (n : Nat) (d : JobDir) : (queueJob n d s).records = s.records := by simp [queueJob]
@[simp] theorem queueJob_closeInHand (n : Nat) (d : JobDir) : (queueJob n d s).closeInHand = s.closeInHand := by simp [queueJob]
@[simp] theorem queueJob_restartPending (n : Nat) (d : JobDir) : (queueJob n d s).restartPending = s.restartPending := by simp [queueJob]
@[simp] theorem queueJob_loader (n : Nat) (d : JobDir) : (queueJob n d s).loader = s.loader := by simp [queueJob]
@[simp] theorem queueJob_pending (n : Nat) (d : JobDir) : (queueJob n d s).pending = s.pending := by simp [queueJob]

/-! ### turnBack -/

@[simp] theorem turnBack_meter (n : Nat) (b : RelayState) : (turnBack n b s).meter = s.meter := by unfold turnBack; (repeat' split) <;> simp
@[simp] theorem turnBack_time (n : Nat) (b : RelayState) : (turnBack n b s).time = s.time := by unfold turnBack; (repeat' split) <;> simp
@[simp] theorem turnBack_link (n : Nat) (b : RelayState) : (turnBack n b s).link = s.link := by unfold turnBack; (repeat' split) <;> simp
@[simp] theorem turnBack_monitor (n : Nat) (b : RelayState) : (turnBack n b s).monitor = s.monitor := by unfold turnBack; (repeat' split) <;> simp
@[simp] theorem turnBack_roster (n : Nat) (b : RelayState) : (turnBack n b s).roster = s.roster := by unfold turnBack; (repeat' split) <;> simp
@[simp] theorem turnBack_table (n : Nat) (b : RelayState) : (turnBack n b s).table = s.table := by unfold turnBack; (repeat' split) <;> simp
@[simp] theorem turnBack_recon (n : Nat) (b : RelayState) : (turnBack n b s).recon = s.recon := by unfold turnBack; (repeat' split) <;> simp
@[simp] theorem turnBack_alert (n : Nat) (b : RelayState) : (turnBack n b s).alert = s.alert := by unfold turnBack; (repeat' split) <;> simp
@[simp] theorem turnBack_records (n : Nat) (b : RelayState) : (turnBack n b s).records = s.records := by unfold turnBack; (repeat' split) <;> simp
@[simp] theorem turnBack_closeInHand (n : Nat) (b : RelayState) : (turnBack n b s).closeInHand = s.closeInHand := by unfold turnBack; (repeat' split) <;> simp
@[simp] theorem turnBack_restartPending (n : Nat) (b : RelayState) : (turnBack n b s).restartPending = s.restartPending := by unfold turnBack; (repeat' split) <;> simp
@[simp] theorem turnBack_loader (n : Nat) (b : RelayState) : (turnBack n b s).loader = s.loader := by unfold turnBack; (repeat' split) <;> simp
@[simp] theorem turnBack_pending (n : Nat) (b : RelayState) : (turnBack n b s).pending = s.pending := by unfold turnBack; (repeat' split) <;> simp

/-! ### compareDesired -/

@[simp] theorem compareDesired_meter (n : Nat) : (compareDesired n s).meter = s.meter := by unfold compareDesired; (repeat' split) <;> simp
@[simp] theorem compareDesired_time (n : Nat) : (compareDesired n s).time = s.time := by unfold compareDesired; (repeat' split) <;> simp
@[simp] theorem compareDesired_link (n : Nat) : (compareDesired n s).link = s.link := by unfold compareDesired; (repeat' split) <;> simp
@[simp] theorem compareDesired_monitor (n : Nat) : (compareDesired n s).monitor = s.monitor := by unfold compareDesired; (repeat' split) <;> simp
@[simp] theorem compareDesired_roster (n : Nat) : (compareDesired n s).roster = s.roster := by unfold compareDesired; (repeat' split) <;> simp
@[simp] theorem compareDesired_table (n : Nat) : (compareDesired n s).table = s.table := by unfold compareDesired; (repeat' split) <;> simp
@[simp] theorem compareDesired_recon (n : Nat) : (compareDesired n s).recon = s.recon := by unfold compareDesired; (repeat' split) <;> simp
@[simp] theorem compareDesired_alert (n : Nat) : (compareDesired n s).alert = s.alert := by unfold compareDesired; (repeat' split) <;> simp
@[simp] theorem compareDesired_records (n : Nat) : (compareDesired n s).records = s.records := by unfold compareDesired; (repeat' split) <;> simp
@[simp] theorem compareDesired_closeInHand (n : Nat) : (compareDesired n s).closeInHand = s.closeInHand := by unfold compareDesired; (repeat' split) <;> simp
@[simp] theorem compareDesired_restartPending (n : Nat) : (compareDesired n s).restartPending = s.restartPending := by unfold compareDesired; (repeat' split) <;> simp
@[simp] theorem compareDesired_loader (n : Nat) : (compareDesired n s).loader = s.loader := by unfold compareDesired; (repeat' split) <;> simp
@[simp] theorem compareDesired_pending (n : Nat) : (compareDesired n s).pending = s.pending := by unfold compareDesired; (repeat' split) <;> simp

/-! ### changeFlags -/

@[simp] theorem changeFlags_meter (n : Nat) (f : RelayOutlet → RelayOutlet) : (changeFlags n f s).meter = s.meter := by unfold changeFlags; (repeat' split) <;> simp
@[simp] theorem changeFlags_time (n : Nat) (f : RelayOutlet → RelayOutlet) : (changeFlags n f s).time = s.time := by unfold changeFlags; (repeat' split) <;> simp
@[simp] theorem changeFlags_link (n : Nat) (f : RelayOutlet → RelayOutlet) : (changeFlags n f s).link = s.link := by unfold changeFlags; (repeat' split) <;> simp
@[simp] theorem changeFlags_monitor (n : Nat) (f : RelayOutlet → RelayOutlet) : (changeFlags n f s).monitor = s.monitor := by unfold changeFlags; (repeat' split) <;> simp
@[simp] theorem changeFlags_roster (n : Nat) (f : RelayOutlet → RelayOutlet) : (changeFlags n f s).roster = s.roster := by unfold changeFlags; (repeat' split) <;> simp
@[simp] theorem changeFlags_table (n : Nat) (f : RelayOutlet → RelayOutlet) : (changeFlags n f s).table = s.table := by unfold changeFlags; (repeat' split) <;> simp
@[simp] theorem changeFlags_recon (n : Nat) (f : RelayOutlet → RelayOutlet) : (changeFlags n f s).recon = s.recon := by unfold changeFlags; (repeat' split) <;> simp
@[simp] theorem changeFlags_alert (n : Nat) (f : RelayOutlet → RelayOutlet) : (changeFlags n f s).alert = s.alert := by unfold changeFlags; (repeat' split) <;> simp
@[simp] theorem changeFlags_records (n : Nat) (f : RelayOutlet → RelayOutlet) : (changeFlags n f s).records = s.records := by unfold changeFlags; (repeat' split) <;> simp
@[simp] theorem changeFlags_closeInHand (n : Nat) (f : RelayOutlet → RelayOutlet) : (changeFlags n f s).closeInHand = s.closeInHand := by unfold changeFlags; (repeat' split) <;> simp
@[simp] theorem changeFlags_restartPending (n : Nat) (f : RelayOutlet → RelayOutlet) : (changeFlags n f s).restartPending = s.restartPending := by unfold changeFlags; (repeat' split) <;> simp
@[simp] theorem changeFlags_loader (n : Nat) (f : RelayOutlet → RelayOutlet) : (changeFlags n f s).loader = s.loader := by unfold changeFlags; (repeat' split) <;> simp
@[simp] theorem changeFlags_pending (n : Nat) (f : RelayOutlet → RelayOutlet) : (changeFlags n f s).pending = s.pending := by unfold changeFlags; (repeat' split) <;> simp

/-! ### recoverDeparture -/

@[simp] theorem recoverDeparture_meter (id : Nat) : (recoverDeparture id s).meter = s.meter := by unfold recoverDeparture; (repeat' split) <;> simp
@[simp] theorem recoverDeparture_time (id : Nat) : (recoverDeparture id s).time = s.time := by unfold recoverDeparture; (repeat' split) <;> simp
@[simp] theorem recoverDeparture_link (id : Nat) : (recoverDeparture id s).link = s.link := by unfold recoverDeparture; (repeat' split) <;> simp
@[simp] theorem recoverDeparture_monitor (id : Nat) : (recoverDeparture id s).monitor = s.monitor := by unfold recoverDeparture; (repeat' split) <;> simp
@[simp] theorem recoverDeparture_roster (id : Nat) : (recoverDeparture id s).roster = s.roster := by unfold recoverDeparture; (repeat' split) <;> simp
@[simp] theorem recoverDeparture_table (id : Nat) : (recoverDeparture id s).table = s.table := by unfold recoverDeparture; (repeat' split) <;> simp
@[simp] theorem recoverDeparture_relay (id : Nat) : (recoverDeparture id s).relay = s.relay := by unfold recoverDeparture; (repeat' split) <;> simp
@[simp] theorem recoverDeparture_closeInHand (id : Nat) : (recoverDeparture id s).closeInHand = s.closeInHand := by unfold recoverDeparture; (repeat' split) <;> simp
@[simp] theorem recoverDeparture_restartPending (id : Nat) : (recoverDeparture id s).restartPending = s.restartPending := by unfold recoverDeparture; (repeat' split) <;> simp
@[simp] theorem recoverDeparture_loader (id : Nat) : (recoverDeparture id s).loader = s.loader := by unfold recoverDeparture; (repeat' split) <;> simp
@[simp] theorem recoverDeparture_pending (id : Nat) : (recoverDeparture id s).pending = s.pending := by unfold recoverDeparture; (repeat' split) <;> simp

/-! ### completeJob -/

@[simp] theorem completeJob_meter (n : Nat) (r : RelayState) : (completeJob n r s).meter = s.meter := by simp [completeJob]
@[simp] theorem completeJob_time (n : Nat) (r : RelayState) : (completeJob n r s).time = s.time := by simp [completeJob]
@[simp] theorem completeJob_link (n : Nat) (r : RelayState) : (completeJob n r s).link = s.link := by simp [completeJob]
@[simp] theorem completeJob_monitor (n : Nat) (r : RelayState) : (completeJob n r s).monitor = s.monitor := by simp [completeJob]
@[simp] theorem completeJob_roster (n : Nat) (r : RelayState) : (completeJob n r s).roster = s.roster := by simp [completeJob]
@[simp] theorem completeJob_table (n : Nat) (r : RelayState) : (completeJob n r s).table = s.table := by simp [completeJob]
@[simp] theorem completeJob_recon (n : Nat) (r : RelayState) : (completeJob n r s).recon = s.recon := by simp [completeJob]
@[simp] theorem completeJob_alert (n : Nat) (r : RelayState) : (completeJob n r s).alert = s.alert := by simp [completeJob]
@[simp] theorem completeJob_records (n : Nat) (r : RelayState) : (completeJob n r s).records = s.records := by simp [completeJob]
@[simp] theorem completeJob_closeInHand (n : Nat) (r : RelayState) : (completeJob n r s).closeInHand = s.closeInHand := by simp [completeJob]
@[simp] theorem completeJob_restartPending (n : Nat) (r : RelayState) : (completeJob n r s).restartPending = s.restartPending := by simp [completeJob]
@[simp] theorem completeJob_loader (n : Nat) (r : RelayState) : (completeJob n r s).loader = s.loader := by simp [completeJob]
@[simp] theorem completeJob_pending (n : Nat) (r : RelayState) : (completeJob n r s).pending = s.pending := by simp [completeJob]

/-! ### withdraw -/

@[simp] theorem withdraw_meter : (withdraw s).meter = s.meter := by simp [withdraw]
@[simp] theorem withdraw_time : (withdraw s).time = s.time := by simp [withdraw]
@[simp] theorem withdraw_roster : (withdraw s).roster = s.roster := by simp [withdraw]
@[simp] theorem withdraw_table : (withdraw s).table = s.table := by simp [withdraw]
@[simp] theorem withdraw_recon : (withdraw s).recon = s.recon := by simp [withdraw]
@[simp] theorem withdraw_relay : (withdraw s).relay = s.relay := by simp [withdraw]
@[simp] theorem withdraw_alert : (withdraw s).alert = s.alert := by simp [withdraw]
@[simp] theorem withdraw_records : (withdraw s).records = s.records := by simp [withdraw]
@[simp] theorem withdraw_closeInHand : (withdraw s).closeInHand = s.closeInHand := by simp [withdraw]
@[simp] theorem withdraw_restartPending : (withdraw s).restartPending = s.restartPending := by simp [withdraw]
@[simp] theorem withdraw_loader : (withdraw s).loader = s.loader := by simp [withdraw]
@[simp] theorem withdraw_pending : (withdraw s).pending = s.pending := by simp [withdraw]

/-! ### setLinkState -/

@[simp] theorem setLinkState_meter (l : LinkState) : (setLinkState l s).meter = s.meter := by simp [setLinkState]
@[simp] theorem setLinkState_time (l : LinkState) : (setLinkState l s).time = s.time := by simp [setLinkState]
@[simp] theorem setLinkState_roster (l : LinkState) : (setLinkState l s).roster = s.roster := by simp [setLinkState]
@[simp] theorem setLinkState_table (l : LinkState) : (setLinkState l s).table = s.table := by simp [setLinkState]
@[simp] theorem setLinkState_recon (l : LinkState) : (setLinkState l s).recon = s.recon := by simp [setLinkState]
@[simp] theorem setLinkState_relay (l : LinkState) : (setLinkState l s).relay = s.relay := by simp [setLinkState]
@[simp] theorem setLinkState_alert (l : LinkState) : (setLinkState l s).alert = s.alert := by simp [setLinkState]
@[simp] theorem setLinkState_records (l : LinkState) : (setLinkState l s).records = s.records := by simp [setLinkState]
@[simp] theorem setLinkState_closeInHand (l : LinkState) : (setLinkState l s).closeInHand = s.closeInHand := by simp [setLinkState]
@[simp] theorem setLinkState_restartPending (l : LinkState) : (setLinkState l s).restartPending = s.restartPending := by simp [setLinkState]
@[simp] theorem setLinkState_loader (l : LinkState) : (setLinkState l s).loader = s.loader := by simp [setLinkState]
@[simp] theorem setLinkState_pending (l : LinkState) : (setLinkState l s).pending = s.pending := by simp [setLinkState]

/-! ### setRate -/

@[simp] theorem setRate_meter (r : Rate) : (setRate r s).meter = s.meter := by simp [setRate]
@[simp] theorem setRate_time (r : Rate) : (setRate r s).time = s.time := by simp [setRate]
@[simp] theorem setRate_roster (r : Rate) : (setRate r s).roster = s.roster := by simp [setRate]
@[simp] theorem setRate_table (r : Rate) : (setRate r s).table = s.table := by simp [setRate]
@[simp] theorem setRate_recon (r : Rate) : (setRate r s).recon = s.recon := by simp [setRate]
@[simp] theorem setRate_relay (r : Rate) : (setRate r s).relay = s.relay := by simp [setRate]
@[simp] theorem setRate_alert (r : Rate) : (setRate r s).alert = s.alert := by simp [setRate]
@[simp] theorem setRate_records (r : Rate) : (setRate r s).records = s.records := by simp [setRate]
@[simp] theorem setRate_closeInHand (r : Rate) : (setRate r s).closeInHand = s.closeInHand := by simp [setRate]
@[simp] theorem setRate_restartPending (r : Rate) : (setRate r s).restartPending = s.restartPending := by simp [setRate]
@[simp] theorem setRate_loader (r : Rate) : (setRate r s).loader = s.loader := by simp [setRate]
@[simp] theorem setRate_pending (r : Rate) : (setRate r s).pending = s.pending := by simp [setRate]

/-! ### enterSearch -/

@[simp] theorem enterSearch_meter : (enterSearch s).meter = s.meter := by simp [enterSearch]
@[simp] theorem enterSearch_time : (enterSearch s).time = s.time := by simp [enterSearch]
@[simp] theorem enterSearch_roster : (enterSearch s).roster = s.roster := by simp [enterSearch]
@[simp] theorem enterSearch_table : (enterSearch s).table = s.table := by simp [enterSearch]
@[simp] theorem enterSearch_recon : (enterSearch s).recon = s.recon := by simp [enterSearch]
@[simp] theorem enterSearch_relay : (enterSearch s).relay = s.relay := by simp [enterSearch]
@[simp] theorem enterSearch_alert : (enterSearch s).alert = s.alert := by simp [enterSearch]
@[simp] theorem enterSearch_records : (enterSearch s).records = s.records := by simp [enterSearch]
@[simp] theorem enterSearch_closeInHand : (enterSearch s).closeInHand = s.closeInHand := by simp [enterSearch]
@[simp] theorem enterSearch_restartPending : (enterSearch s).restartPending = s.restartPending := by simp [enterSearch]
@[simp] theorem enterSearch_loader : (enterSearch s).loader = s.loader := by simp [enterSearch]
@[simp] theorem enterSearch_pending : (enterSearch s).pending = s.pending := by simp [enterSearch]

/-! ### enterAlone -/

@[simp] theorem enterAlone_meter : (enterAlone s).meter = s.meter := by simp [enterAlone]
@[simp] theorem enterAlone_time : (enterAlone s).time = s.time := by simp [enterAlone]
@[simp] theorem enterAlone_roster : (enterAlone s).roster = s.roster := by simp [enterAlone]
@[simp] theorem enterAlone_table : (enterAlone s).table = s.table := by simp [enterAlone]
@[simp] theorem enterAlone_recon : (enterAlone s).recon = s.recon := by simp [enterAlone]
@[simp] theorem enterAlone_relay : (enterAlone s).relay = s.relay := by simp [enterAlone]
@[simp] theorem enterAlone_alert : (enterAlone s).alert = s.alert := by simp [enterAlone]
@[simp] theorem enterAlone_records : (enterAlone s).records = s.records := by simp [enterAlone]
@[simp] theorem enterAlone_closeInHand : (enterAlone s).closeInHand = s.closeInHand := by simp [enterAlone]
@[simp] theorem enterAlone_restartPending : (enterAlone s).restartPending = s.restartPending := by simp [enterAlone]
@[simp] theorem enterAlone_loader : (enterAlone s).loader = s.loader := by simp [enterAlone]
@[simp] theorem enterAlone_pending : (enterAlone s).pending = s.pending := by simp [enterAlone]

/-! ### placeCheck -/

@[simp] theorem placeCheck_meter (k : CheckKind) : (placeCheck k s).meter = s.meter := by simp [placeCheck]
@[simp] theorem placeCheck_time (k : CheckKind) : (placeCheck k s).time = s.time := by simp [placeCheck]
@[simp] theorem placeCheck_link (k : CheckKind) : (placeCheck k s).link = s.link := by simp [placeCheck]
@[simp] theorem placeCheck_roster (k : CheckKind) : (placeCheck k s).roster = s.roster := by simp [placeCheck]
@[simp] theorem placeCheck_table (k : CheckKind) : (placeCheck k s).table = s.table := by simp [placeCheck]
@[simp] theorem placeCheck_recon (k : CheckKind) : (placeCheck k s).recon = s.recon := by simp [placeCheck]
@[simp] theorem placeCheck_relay (k : CheckKind) : (placeCheck k s).relay = s.relay := by simp [placeCheck]
@[simp] theorem placeCheck_alert (k : CheckKind) : (placeCheck k s).alert = s.alert := by simp [placeCheck]
@[simp] theorem placeCheck_records (k : CheckKind) : (placeCheck k s).records = s.records := by simp [placeCheck]
@[simp] theorem placeCheck_closeInHand (k : CheckKind) : (placeCheck k s).closeInHand = s.closeInHand := by simp [placeCheck]
@[simp] theorem placeCheck_restartPending (k : CheckKind) : (placeCheck k s).restartPending = s.restartPending := by simp [placeCheck]
@[simp] theorem placeCheck_loader (k : CheckKind) : (placeCheck k s).loader = s.loader := by simp [placeCheck]
@[simp] theorem placeCheck_pending (k : CheckKind) : (placeCheck k s).pending = s.pending := by simp [placeCheck]

/-! ### enterMuted -/

@[simp] theorem enterMuted_meter : (enterMuted s).meter = s.meter := by simp [enterMuted]
@[simp] theorem enterMuted_time : (enterMuted s).time = s.time := by simp [enterMuted]
@[simp] theorem enterMuted_roster : (enterMuted s).roster = s.roster := by simp [enterMuted]
@[simp] theorem enterMuted_table : (enterMuted s).table = s.table := by simp [enterMuted]
@[simp] theorem enterMuted_recon : (enterMuted s).recon = s.recon := by simp [enterMuted]
@[simp] theorem enterMuted_relay : (enterMuted s).relay = s.relay := by simp [enterMuted]
@[simp] theorem enterMuted_records : (enterMuted s).records = s.records := by simp [enterMuted]
@[simp] theorem enterMuted_closeInHand : (enterMuted s).closeInHand = s.closeInHand := by simp [enterMuted]
@[simp] theorem enterMuted_restartPending : (enterMuted s).restartPending = s.restartPending := by simp [enterMuted]
@[simp] theorem enterMuted_loader : (enterMuted s).loader = s.loader := by simp [enterMuted]
@[simp] theorem enterMuted_pending : (enterMuted s).pending = s.pending := by simp [enterMuted]

/-! ### enterDuplicate -/

@[simp] theorem enterDuplicate_meter : (enterDuplicate s).meter = s.meter := by simp [enterDuplicate]
@[simp] theorem enterDuplicate_time : (enterDuplicate s).time = s.time := by simp [enterDuplicate]
@[simp] theorem enterDuplicate_roster : (enterDuplicate s).roster = s.roster := by simp [enterDuplicate]
@[simp] theorem enterDuplicate_table : (enterDuplicate s).table = s.table := by simp [enterDuplicate]
@[simp] theorem enterDuplicate_recon : (enterDuplicate s).recon = s.recon := by simp [enterDuplicate]
@[simp] theorem enterDuplicate_relay : (enterDuplicate s).relay = s.relay := by simp [enterDuplicate]
@[simp] theorem enterDuplicate_records : (enterDuplicate s).records = s.records := by simp [enterDuplicate]
@[simp] theorem enterDuplicate_closeInHand : (enterDuplicate s).closeInHand = s.closeInHand := by simp [enterDuplicate]
@[simp] theorem enterDuplicate_restartPending : (enterDuplicate s).restartPending = s.restartPending := by simp [enterDuplicate]
@[simp] theorem enterDuplicate_loader : (enterDuplicate s).loader = s.loader := by simp [enterDuplicate]
@[simp] theorem enterDuplicate_pending : (enterDuplicate s).pending = s.pending := by simp [enterDuplicate]

/-! ### testAlone -/

@[simp] theorem testAlone_meter : (testAlone s).meter = s.meter := by unfold testAlone; (repeat' split) <;> simp
@[simp] theorem testAlone_time : (testAlone s).time = s.time := by unfold testAlone; (repeat' split) <;> simp
@[simp] theorem testAlone_roster : (testAlone s).roster = s.roster := by unfold testAlone; (repeat' split) <;> simp
@[simp] theorem testAlone_table : (testAlone s).table = s.table := by unfold testAlone; (repeat' split) <;> simp
@[simp] theorem testAlone_recon : (testAlone s).recon = s.recon := by unfold testAlone; (repeat' split) <;> simp
@[simp] theorem testAlone_relay : (testAlone s).relay = s.relay := by unfold testAlone; (repeat' split) <;> simp
@[simp] theorem testAlone_records : (testAlone s).records = s.records := by unfold testAlone; (repeat' split) <;> simp
@[simp] theorem testAlone_closeInHand : (testAlone s).closeInHand = s.closeInHand := by unfold testAlone; (repeat' split) <;> simp
@[simp] theorem testAlone_restartPending : (testAlone s).restartPending = s.restartPending := by unfold testAlone; (repeat' split) <;> simp
@[simp] theorem testAlone_loader : (testAlone s).loader = s.loader := by unfold testAlone; (repeat' split) <;> simp
@[simp] theorem testAlone_pending : (testAlone s).pending = s.pending := by unfold testAlone; (repeat' split) <;> simp

/-! ### reportCharError -/

@[simp] theorem reportCharError_meter : (reportCharError s).meter = s.meter := by
  unfold reportCharError
  simp only
  split <;> simp
@[simp] theorem reportCharError_time : (reportCharError s).time = s.time := by
  unfold reportCharError
  simp only
  split <;> simp
@[simp] theorem reportCharError_roster : (reportCharError s).roster = s.roster := by
  unfold reportCharError
  simp only
  split <;> simp
@[simp] theorem reportCharError_table : (reportCharError s).table = s.table := by
  unfold reportCharError
  simp only
  split <;> simp
@[simp] theorem reportCharError_recon : (reportCharError s).recon = s.recon := by
  unfold reportCharError
  simp only
  split <;> simp
@[simp] theorem reportCharError_relay : (reportCharError s).relay = s.relay := by
  unfold reportCharError
  simp only
  split <;> simp
@[simp] theorem reportCharError_alert : (reportCharError s).alert = s.alert := by
  unfold reportCharError
  simp only
  split <;> simp
@[simp] theorem reportCharError_records : (reportCharError s).records = s.records := by
  unfold reportCharError
  simp only
  split <;> simp
@[simp] theorem reportCharError_closeInHand : (reportCharError s).closeInHand = s.closeInHand := by
  unfold reportCharError
  simp only
  split <;> simp
@[simp] theorem reportCharError_restartPending : (reportCharError s).restartPending = s.restartPending := by
  unfold reportCharError
  simp only
  split <;> simp
@[simp] theorem reportCharError_loader : (reportCharError s).loader = s.loader := by
  unfold reportCharError
  simp only
  split <;> simp
@[simp] theorem reportCharError_pending : (reportCharError s).pending = s.pending := by
  unfold reportCharError
  simp only
  split <;> simp

end Sys2Proof.Machine
end

