-- ==== Sys2Proof/Laws/RelayFrames.lean ====
section
/-! SUPPORT. Frames: the blocks that the Relay Driver's events leave as they were. -/

namespace Sys2Proof.Machine

variable (s : State)

/-! ### pulseEnds -/

@[simp] theorem pulseEnds_meter : (pulseEnds s).meter = s.meter := by unfold pulseEnds; (repeat' split) <;> simp
@[simp] theorem pulseEnds_time : (pulseEnds s).time = s.time := by unfold pulseEnds; (repeat' split) <;> simp
@[simp] theorem pulseEnds_link : (pulseEnds s).link = s.link := by unfold pulseEnds; (repeat' split) <;> simp
@[simp] theorem pulseEnds_monitor : (pulseEnds s).monitor = s.monitor := by unfold pulseEnds; (repeat' split) <;> simp
@[simp] theorem pulseEnds_roster : (pulseEnds s).roster = s.roster := by unfold pulseEnds; (repeat' split) <;> simp
@[simp] theorem pulseEnds_table : (pulseEnds s).table = s.table := by unfold pulseEnds; (repeat' split) <;> simp
@[simp] theorem pulseEnds_recon : (pulseEnds s).recon = s.recon := by unfold pulseEnds; (repeat' split) <;> simp
@[simp] theorem pulseEnds_alert : (pulseEnds s).alert = s.alert := by unfold pulseEnds; (repeat' split) <;> simp
@[simp] theorem pulseEnds_records : (pulseEnds s).records = s.records := by unfold pulseEnds; (repeat' split) <;> simp
@[simp] theorem pulseEnds_closeInHand : (pulseEnds s).closeInHand = s.closeInHand := by unfold pulseEnds; (repeat' split) <;> simp
@[simp] theorem pulseEnds_restartPending : (pulseEnds s).restartPending = s.restartPending := by unfold pulseEnds; (repeat' split) <;> simp
@[simp] theorem pulseEnds_loader : (pulseEnds s).loader = s.loader := by unfold pulseEnds; (repeat' split) <;> simp
@[simp] theorem pulseEnds_pending : (pulseEnds s).pending = s.pending := by unfold pulseEnds; (repeat' split) <;> simp

/-! ### settleEnds -/

@[simp] theorem settleEnds_meter : (settleEnds s).meter = s.meter := by unfold settleEnds; (repeat' split) <;> simp
@[simp] theorem settleEnds_time : (settleEnds s).time = s.time := by unfold settleEnds; (repeat' split) <;> simp
@[simp] theorem settleEnds_link : (settleEnds s).link = s.link := by unfold settleEnds; (repeat' split) <;> simp
@[simp] theorem settleEnds_monitor : (settleEnds s).monitor = s.monitor := by unfold settleEnds; (repeat' split) <;> simp
@[simp] theorem settleEnds_roster : (settleEnds s).roster = s.roster := by unfold settleEnds; (repeat' split) <;> simp
@[simp] theorem settleEnds_table : (settleEnds s).table = s.table := by unfold settleEnds; (repeat' split) <;> simp
@[simp] theorem settleEnds_recon : (settleEnds s).recon = s.recon := by unfold settleEnds; (repeat' split) <;> simp
@[simp] theorem settleEnds_alert : (settleEnds s).alert = s.alert := by unfold settleEnds; (repeat' split) <;> simp
@[simp] theorem settleEnds_records : (settleEnds s).records = s.records := by unfold settleEnds; (repeat' split) <;> simp
@[simp] theorem settleEnds_closeInHand : (settleEnds s).closeInHand = s.closeInHand := by unfold settleEnds; (repeat' split) <;> simp
@[simp] theorem settleEnds_restartPending : (settleEnds s).restartPending = s.restartPending := by unfold settleEnds; (repeat' split) <;> simp
@[simp] theorem settleEnds_loader : (settleEnds s).loader = s.loader := by unfold settleEnds; (repeat' split) <;> simp
@[simp] theorem settleEnds_pending : (settleEnds s).pending = s.pending := by unfold settleEnds; (repeat' split) <;> simp

/-! ### takeVerifySample -/

@[simp] theorem takeVerifySample_meter (x : Nat → Option Nat) : (takeVerifySample x s).meter = s.meter := by unfold takeVerifySample; (repeat' split) <;> simp
@[simp] theorem takeVerifySample_time (x : Nat → Option Nat) : (takeVerifySample x s).time = s.time := by unfold takeVerifySample; (repeat' split) <;> simp
@[simp] theorem takeVerifySample_link (x : Nat → Option Nat) : (takeVerifySample x s).link = s.link := by unfold takeVerifySample; (repeat' split) <;> simp
@[simp] theorem takeVerifySample_monitor (x : Nat → Option Nat) : (takeVerifySample x s).monitor = s.monitor := by unfold takeVerifySample; (repeat' split) <;> simp
@[simp] theorem takeVerifySample_roster (x : Nat → Option Nat) : (takeVerifySample x s).roster = s.roster := by unfold takeVerifySample; (repeat' split) <;> simp
@[simp] theorem takeVerifySample_table (x : Nat → Option Nat) : (takeVerifySample x s).table = s.table := by unfold takeVerifySample; (repeat' split) <;> simp
@[simp] theorem takeVerifySample_recon (x : Nat → Option Nat) : (takeVerifySample x s).recon = s.recon := by unfold takeVerifySample; (repeat' split) <;> simp
@[simp] theorem takeVerifySample_alert (x : Nat → Option Nat) : (takeVerifySample x s).alert = s.alert := by unfold takeVerifySample; (repeat' split) <;> simp
@[simp] theorem takeVerifySample_records (x : Nat → Option Nat) : (takeVerifySample x s).records = s.records := by unfold takeVerifySample; (repeat' split) <;> simp
@[simp] theorem takeVerifySample_closeInHand (x : Nat → Option Nat) : (takeVerifySample x s).closeInHand = s.closeInHand := by unfold takeVerifySample; (repeat' split) <;> simp
@[simp] theorem takeVerifySample_restartPending (x : Nat → Option Nat) : (takeVerifySample x s).restartPending = s.restartPending := by unfold takeVerifySample; (repeat' split) <;> simp
@[simp] theorem takeVerifySample_loader (x : Nat → Option Nat) : (takeVerifySample x s).loader = s.loader := by unfold takeVerifySample; (repeat' split) <;> simp
@[simp] theorem takeVerifySample_pending (x : Nat → Option Nat) : (takeVerifySample x s).pending = s.pending := by unfold takeVerifySample; (repeat' split) <;> simp

/-! ### stuckResult -/

@[simp] theorem stuckResult_meter (n : Nat) : (stuckResult n s).meter = s.meter := by
  simp only [stuckResult]
  split <;> simp
@[simp] theorem stuckResult_time (n : Nat) : (stuckResult n s).time = s.time := by
  simp only [stuckResult]
  split <;> simp
@[simp] theorem stuckResult_link (n : Nat) : (stuckResult n s).link = s.link := by
  simp only [stuckResult]
  split <;> simp
@[simp] theorem stuckResult_monitor (n : Nat) : (stuckResult n s).monitor = s.monitor := by
  simp only [stuckResult]
  split <;> simp
@[simp] theorem stuckResult_roster (n : Nat) : (stuckResult n s).roster = s.roster := by
  simp only [stuckResult]
  split <;> simp
@[simp] theorem stuckResult_table (n : Nat) : (stuckResult n s).table = s.table := by
  simp only [stuckResult]
  split <;> simp
@[simp] theorem stuckResult_restartPending (n : Nat) : (stuckResult n s).restartPending = s.restartPending := by
  simp only [stuckResult]
  split <;> simp
@[simp] theorem stuckResult_loader (n : Nat) : (stuckResult n s).loader = s.loader := by
  simp only [stuckResult]
  split <;> simp
@[simp] theorem stuckResult_pending (n : Nat) : (stuckResult n s).pending = s.pending := by
  simp only [stuckResult]
  split <;> simp

/-! ### verifyOpen -/

@[simp] theorem verifyOpen_meter : (verifyOpen s).meter = s.meter := by unfold verifyOpen; (repeat' split) <;> simp
@[simp] theorem verifyOpen_time : (verifyOpen s).time = s.time := by unfold verifyOpen; (repeat' split) <;> simp
@[simp] theorem verifyOpen_link : (verifyOpen s).link = s.link := by unfold verifyOpen; (repeat' split) <;> simp
@[simp] theorem verifyOpen_monitor : (verifyOpen s).monitor = s.monitor := by unfold verifyOpen; (repeat' split) <;> simp
@[simp] theorem verifyOpen_roster : (verifyOpen s).roster = s.roster := by unfold verifyOpen; (repeat' split) <;> simp
@[simp] theorem verifyOpen_table : (verifyOpen s).table = s.table := by unfold verifyOpen; (repeat' split) <;> simp
@[simp] theorem verifyOpen_restartPending : (verifyOpen s).restartPending = s.restartPending := by unfold verifyOpen; (repeat' split) <;> simp
@[simp] theorem verifyOpen_loader : (verifyOpen s).loader = s.loader := by unfold verifyOpen; (repeat' split) <;> simp
@[simp] theorem verifyOpen_pending : (verifyOpen s).pending = s.pending := by unfold verifyOpen; (repeat' split) <;> simp

/-! ### lockOutlet -/

@[simp] theorem lockOutlet_meter (n : Nat) : (lockOutlet n s).meter = s.meter := by
  simp only [lockOutlet]
  split <;> simp
@[simp] theorem lockOutlet_time (n : Nat) : (lockOutlet n s).time = s.time := by
  simp only [lockOutlet]
  split <;> simp
@[simp] theorem lockOutlet_link (n : Nat) : (lockOutlet n s).link = s.link := by
  simp only [lockOutlet]
  split <;> simp
@[simp] theorem lockOutlet_monitor (n : Nat) : (lockOutlet n s).monitor = s.monitor := by
  simp only [lockOutlet]
  split <;> simp
@[simp] theorem lockOutlet_roster (n : Nat) : (lockOutlet n s).roster = s.roster := by
  simp only [lockOutlet]
  split <;> simp
@[simp] theorem lockOutlet_table (n : Nat) : (lockOutlet n s).table = s.table := by
  simp only [lockOutlet]
  split <;> simp
@[simp] theorem lockOutlet_restartPending (n : Nat) : (lockOutlet n s).restartPending = s.restartPending := by
  simp only [lockOutlet]
  split <;> simp
@[simp] theorem lockOutlet_loader (n : Nat) : (lockOutlet n s).loader = s.loader := by
  simp only [lockOutlet]
  split <;> simp
@[simp] theorem lockOutlet_pending (n : Nat) : (lockOutlet n s).pending = s.pending := by
  simp only [lockOutlet]
  split <;> simp

/-! ### unlockOutlet -/

@[simp] theorem unlockOutlet_meter (n : Nat) : (unlockOutlet n s).meter = s.meter := by simp [unlockOutlet]
@[simp] theorem unlockOutlet_time (n : Nat) : (unlockOutlet n s).time = s.time := by simp [unlockOutlet]
@[simp] theorem unlockOutlet_link (n : Nat) : (unlockOutlet n s).link = s.link := by simp [unlockOutlet]
@[simp] theorem unlockOutlet_monitor (n : Nat) : (unlockOutlet n s).monitor = s.monitor := by simp [unlockOutlet]
@[simp] theorem unlockOutlet_roster (n : Nat) : (unlockOutlet n s).roster = s.roster := by simp [unlockOutlet]
@[simp] theorem unlockOutlet_table (n : Nat) : (unlockOutlet n s).table = s.table := by simp [unlockOutlet]
@[simp] theorem unlockOutlet_recon (n : Nat) : (unlockOutlet n s).recon = s.recon := by simp [unlockOutlet]
@[simp] theorem unlockOutlet_alert (n : Nat) : (unlockOutlet n s).alert = s.alert := by simp [unlockOutlet]
@[simp] theorem unlockOutlet_records (n : Nat) : (unlockOutlet n s).records = s.records := by simp [unlockOutlet]
@[simp] theorem unlockOutlet_closeInHand (n : Nat) : (unlockOutlet n s).closeInHand = s.closeInHand := by simp [unlockOutlet]
@[simp] theorem unlockOutlet_restartPending (n : Nat) : (unlockOutlet n s).restartPending = s.restartPending := by simp [unlockOutlet]
@[simp] theorem unlockOutlet_loader (n : Nat) : (unlockOutlet n s).loader = s.loader := by simp [unlockOutlet]
@[simp] theorem unlockOutlet_pending (n : Nat) : (unlockOutlet n s).pending = s.pending := by simp [unlockOutlet]

/-! ### clearStuck -/

@[simp] theorem clearStuck_meter (n : Nat) : (clearStuck n s).meter = s.meter := by simp [clearStuck]
@[simp] theorem clearStuck_time (n : Nat) : (clearStuck n s).time = s.time := by simp [clearStuck]
@[simp] theorem clearStuck_link (n : Nat) : (clearStuck n s).link = s.link := by simp [clearStuck]
@[simp] theorem clearStuck_monitor (n : Nat) : (clearStuck n s).monitor = s.monitor := by simp [clearStuck]
@[simp] theorem clearStuck_roster (n : Nat) : (clearStuck n s).roster = s.roster := by simp [clearStuck]
@[simp] theorem clearStuck_table (n : Nat) : (clearStuck n s).table = s.table := by simp [clearStuck]
@[simp] theorem clearStuck_recon (n : Nat) : (clearStuck n s).recon = s.recon := by simp [clearStuck]
@[simp] theorem clearStuck_alert (n : Nat) : (clearStuck n s).alert = s.alert := by simp [clearStuck]
@[simp] theorem clearStuck_records (n : Nat) : (clearStuck n s).records = s.records := by simp [clearStuck]
@[simp] theorem clearStuck_closeInHand (n : Nat) : (clearStuck n s).closeInHand = s.closeInHand := by simp [clearStuck]
@[simp] theorem clearStuck_restartPending (n : Nat) : (clearStuck n s).restartPending = s.restartPending := by simp [clearStuck]
@[simp] theorem clearStuck_loader (n : Nat) : (clearStuck n s).loader = s.loader := by simp [clearStuck]
@[simp] theorem clearStuck_pending (n : Nat) : (clearStuck n s).pending = s.pending := by simp [clearStuck]

end Sys2Proof.Machine
end

