-- ==== Sys2Proof/Laws/RosterFrames.lean ====
section
/-! SUPPORT. Frames: the blocks that the Station Roster and the Contribution Table leave as they were. -/

namespace Sys2Proof.Machine

variable (s : State)

/-! ### setRosterRecord -/

@[simp] theorem setRosterRecord_meter (n : Nat) (r : RosterRecord) : (setRosterRecord n r s).meter = s.meter := by simp [setRosterRecord]
@[simp] theorem setRosterRecord_time (n : Nat) (r : RosterRecord) : (setRosterRecord n r s).time = s.time := by simp [setRosterRecord]
@[simp] theorem setRosterRecord_link (n : Nat) (r : RosterRecord) : (setRosterRecord n r s).link = s.link := by simp [setRosterRecord]
@[simp] theorem setRosterRecord_monitor (n : Nat) (r : RosterRecord) : (setRosterRecord n r s).monitor = s.monitor := by simp [setRosterRecord]
@[simp] theorem setRosterRecord_table (n : Nat) (r : RosterRecord) : (setRosterRecord n r s).table = s.table := by simp [setRosterRecord]
@[simp] theorem setRosterRecord_recon (n : Nat) (r : RosterRecord) : (setRosterRecord n r s).recon = s.recon := by simp [setRosterRecord]
@[simp] theorem setRosterRecord_relay (n : Nat) (r : RosterRecord) : (setRosterRecord n r s).relay = s.relay := by simp [setRosterRecord]
@[simp] theorem setRosterRecord_alert (n : Nat) (r : RosterRecord) : (setRosterRecord n r s).alert = s.alert := by simp [setRosterRecord]
@[simp] theorem setRosterRecord_records (n : Nat) (r : RosterRecord) : (setRosterRecord n r s).records = s.records := by simp [setRosterRecord]
@[simp] theorem setRosterRecord_closeInHand (n : Nat) (r : RosterRecord) : (setRosterRecord n r s).closeInHand = s.closeInHand := by simp [setRosterRecord]
@[simp] theorem setRosterRecord_restartPending (n : Nat) (r : RosterRecord) : (setRosterRecord n r s).restartPending = s.restartPending := by simp [setRosterRecord]
@[simp] theorem setRosterRecord_loader (n : Nat) (r : RosterRecord) : (setRosterRecord n r s).loader = s.loader := by simp [setRosterRecord]
@[simp] theorem setRosterRecord_pending (n : Nat) (r : RosterRecord) : (setRosterRecord n r s).pending = s.pending := by simp [setRosterRecord]

/-! ### becomeLate -/

@[simp] theorem becomeLate_meter (n : Nat) : (becomeLate n s).meter = s.meter := by simp [becomeLate]
@[simp] theorem becomeLate_time (n : Nat) : (becomeLate n s).time = s.time := by simp [becomeLate]
@[simp] theorem becomeLate_link (n : Nat) : (becomeLate n s).link = s.link := by simp [becomeLate]
@[simp] theorem becomeLate_monitor (n : Nat) : (becomeLate n s).monitor = s.monitor := by simp [becomeLate]
@[simp] theorem becomeLate_table (n : Nat) : (becomeLate n s).table = s.table := by simp [becomeLate]
@[simp] theorem becomeLate_recon (n : Nat) : (becomeLate n s).recon = s.recon := by simp [becomeLate]
@[simp] theorem becomeLate_relay (n : Nat) : (becomeLate n s).relay = s.relay := by simp [becomeLate]
@[simp] theorem becomeLate_alert (n : Nat) : (becomeLate n s).alert = s.alert := by simp [becomeLate]
@[simp] theorem becomeLate_records (n : Nat) : (becomeLate n s).records = s.records := by simp [becomeLate]
@[simp] theorem becomeLate_closeInHand (n : Nat) : (becomeLate n s).closeInHand = s.closeInHand := by simp [becomeLate]
@[simp] theorem becomeLate_restartPending (n : Nat) : (becomeLate n s).restartPending = s.restartPending := by simp [becomeLate]
@[simp] theorem becomeLate_loader (n : Nat) : (becomeLate n s).loader = s.loader := by simp [becomeLate]
@[simp] theorem becomeLate_pending (n : Nat) : (becomeLate n s).pending = s.pending := by simp [becomeLate]

/-! ### clearOverflow -/

@[simp] theorem clearOverflow_meter (n : Nat) : (clearOverflow n s).meter = s.meter := by simp [clearOverflow]
@[simp] theorem clearOverflow_time (n : Nat) : (clearOverflow n s).time = s.time := by simp [clearOverflow]
@[simp] theorem clearOverflow_link (n : Nat) : (clearOverflow n s).link = s.link := by simp [clearOverflow]
@[simp] theorem clearOverflow_monitor (n : Nat) : (clearOverflow n s).monitor = s.monitor := by simp [clearOverflow]
@[simp] theorem clearOverflow_roster (n : Nat) : (clearOverflow n s).roster = s.roster := by simp [clearOverflow]
@[simp] theorem clearOverflow_table (n : Nat) : (clearOverflow n s).table = s.table := by simp [clearOverflow]
@[simp] theorem clearOverflow_relay (n : Nat) : (clearOverflow n s).relay = s.relay := by simp [clearOverflow]
@[simp] theorem clearOverflow_alert (n : Nat) : (clearOverflow n s).alert = s.alert := by simp [clearOverflow]
@[simp] theorem clearOverflow_records (n : Nat) : (clearOverflow n s).records = s.records := by simp [clearOverflow]
@[simp] theorem clearOverflow_closeInHand (n : Nat) : (clearOverflow n s).closeInHand = s.closeInHand := by simp [clearOverflow]
@[simp] theorem clearOverflow_restartPending (n : Nat) : (clearOverflow n s).restartPending = s.restartPending := by simp [clearOverflow]
@[simp] theorem clearOverflow_loader (n : Nat) : (clearOverflow n s).loader = s.loader := by simp [clearOverflow]
@[simp] theorem clearOverflow_pending (n : Nat) : (clearOverflow n s).pending = s.pending := by simp [clearOverflow]

/-! ### expireStation -/

@[simp] theorem expireStation_meter (n : Nat) : (expireStation n s).meter = s.meter := by simp [expireStation]
@[simp] theorem expireStation_time (n : Nat) : (expireStation n s).time = s.time := by simp [expireStation]
@[simp] theorem expireStation_relay (n : Nat) : (expireStation n s).relay = s.relay := by simp [expireStation]
@[simp] theorem expireStation_records (n : Nat) : (expireStation n s).records = s.records := by simp [expireStation]
@[simp] theorem expireStation_closeInHand (n : Nat) : (expireStation n s).closeInHand = s.closeInHand := by simp [expireStation]
@[simp] theorem expireStation_restartPending (n : Nat) : (expireStation n s).restartPending = s.restartPending := by simp [expireStation]
@[simp] theorem expireStation_loader (n : Nat) : (expireStation n s).loader = s.loader := by simp [expireStation]
@[simp] theorem expireStation_pending (n : Nat) : (expireStation n s).pending = s.pending := by simp [expireStation]

/-! ### settleRoster -/

@[simp] theorem settleRoster_meter : (settleRoster s).meter = s.meter := by
  simp only [settleRoster]
  rw [foldl_keeps State.meter _ (by intro s b; split <;> simp), foldl_keeps State.meter _ (by intro s b; split <;> simp)]
@[simp] theorem settleRoster_time : (settleRoster s).time = s.time := by
  simp only [settleRoster]
  rw [foldl_keeps State.time _ (by intro s b; split <;> simp), foldl_keeps State.time _ (by intro s b; split <;> simp)]
@[simp] theorem settleRoster_relay : (settleRoster s).relay = s.relay := by
  simp only [settleRoster]
  rw [foldl_keeps State.relay _ (by intro s b; split <;> simp), foldl_keeps State.relay _ (by intro s b; split <;> simp)]
@[simp] theorem settleRoster_records : (settleRoster s).records = s.records := by
  simp only [settleRoster]
  rw [foldl_keeps State.records _ (by intro s b; split <;> simp), foldl_keeps State.records _ (by intro s b; split <;> simp)]
@[simp] theorem settleRoster_closeInHand : (settleRoster s).closeInHand = s.closeInHand := by
  simp only [settleRoster]
  rw [foldl_keeps State.closeInHand _ (by intro s b; split <;> simp), foldl_keeps State.closeInHand _ (by intro s b; split <;> simp)]
@[simp] theorem settleRoster_restartPending : (settleRoster s).restartPending = s.restartPending := by
  simp only [settleRoster]
  rw [foldl_keeps State.restartPending _ (by intro s b; split <;> simp), foldl_keeps State.restartPending _ (by intro s b; split <;> simp)]
@[simp] theorem settleRoster_loader : (settleRoster s).loader = s.loader := by
  simp only [settleRoster]
  rw [foldl_keeps State.loader _ (by intro s b; split <;> simp), foldl_keeps State.loader _ (by intro s b; split <;> simp)]
@[simp] theorem settleRoster_pending : (settleRoster s).pending = s.pending := by
  simp only [settleRoster]
  rw [foldl_keeps State.pending _ (by intro s b; split <;> simp), foldl_keeps State.pending _ (by intro s b; split <;> simp)]

/-! ### addEntry -/

@[simp] theorem addEntry_meter (e : Entry) : (addEntry e s).meter = s.meter := by simp [addEntry]
@[simp] theorem addEntry_time (e : Entry) : (addEntry e s).time = s.time := by simp [addEntry]
@[simp] theorem addEntry_link (e : Entry) : (addEntry e s).link = s.link := by simp [addEntry]
@[simp] theorem addEntry_monitor (e : Entry) : (addEntry e s).monitor = s.monitor := by simp [addEntry]
@[simp] theorem addEntry_roster (e : Entry) : (addEntry e s).roster = s.roster := by simp [addEntry]
@[simp] theorem addEntry_recon (e : Entry) : (addEntry e s).recon = s.recon := by simp [addEntry]
@[simp] theorem addEntry_relay (e : Entry) : (addEntry e s).relay = s.relay := by simp [addEntry]
@[simp] theorem addEntry_alert (e : Entry) : (addEntry e s).alert = s.alert := by simp [addEntry]
@[simp] theorem addEntry_records (e : Entry) : (addEntry e s).records = s.records := by simp [addEntry]
@[simp] theorem addEntry_closeInHand (e : Entry) : (addEntry e s).closeInHand = s.closeInHand := by simp [addEntry]
@[simp] theorem addEntry_restartPending (e : Entry) : (addEntry e s).restartPending = s.restartPending := by simp [addEntry]
@[simp] theorem addEntry_loader (e : Entry) : (addEntry e s).loader = s.loader := by simp [addEntry]
@[simp] theorem addEntry_pending (e : Entry) : (addEntry e s).pending = s.pending := by simp [addEntry]

/-! ### removeEntry -/

@[simp] theorem removeEntry_meter (src id : Nat) : (removeEntry src id s).meter = s.meter := by simp [removeEntry]
@[simp] theorem removeEntry_time (src id : Nat) : (removeEntry src id s).time = s.time := by simp [removeEntry]
@[simp] theorem removeEntry_link (src id : Nat) : (removeEntry src id s).link = s.link := by simp [removeEntry]
@[simp] theorem removeEntry_monitor (src id : Nat) : (removeEntry src id s).monitor = s.monitor := by simp [removeEntry]
@[simp] theorem removeEntry_roster (src id : Nat) : (removeEntry src id s).roster = s.roster := by simp [removeEntry]
@[simp] theorem removeEntry_recon (src id : Nat) : (removeEntry src id s).recon = s.recon := by simp [removeEntry]
@[simp] theorem removeEntry_relay (src id : Nat) : (removeEntry src id s).relay = s.relay := by simp [removeEntry]
@[simp] theorem removeEntry_alert (src id : Nat) : (removeEntry src id s).alert = s.alert := by simp [removeEntry]
@[simp] theorem removeEntry_records (src id : Nat) : (removeEntry src id s).records = s.records := by simp [removeEntry]
@[simp] theorem removeEntry_closeInHand (src id : Nat) : (removeEntry src id s).closeInHand = s.closeInHand := by simp [removeEntry]
@[simp] theorem removeEntry_restartPending (src id : Nat) : (removeEntry src id s).restartPending = s.restartPending := by simp [removeEntry]
@[simp] theorem removeEntry_loader (src id : Nat) : (removeEntry src id s).loader = s.loader := by simp [removeEntry]
@[simp] theorem removeEntry_pending (src id : Nat) : (removeEntry src id s).pending = s.pending := by simp [removeEntry]

/-! ### setOverflowBit -/

@[simp] theorem setOverflowBit_meter (n id : Nat) : (setOverflowBit n id s).meter = s.meter := by simp [setOverflowBit]
@[simp] theorem setOverflowBit_time (n id : Nat) : (setOverflowBit n id s).time = s.time := by simp [setOverflowBit]
@[simp] theorem setOverflowBit_link (n id : Nat) : (setOverflowBit n id s).link = s.link := by simp [setOverflowBit]
@[simp] theorem setOverflowBit_monitor (n id : Nat) : (setOverflowBit n id s).monitor = s.monitor := by simp [setOverflowBit]
@[simp] theorem setOverflowBit_roster (n id : Nat) : (setOverflowBit n id s).roster = s.roster := by simp [setOverflowBit]
@[simp] theorem setOverflowBit_table (n id : Nat) : (setOverflowBit n id s).table = s.table := by simp [setOverflowBit]
@[simp] theorem setOverflowBit_relay (n id : Nat) : (setOverflowBit n id s).relay = s.relay := by simp [setOverflowBit]
@[simp] theorem setOverflowBit_alert (n id : Nat) : (setOverflowBit n id s).alert = s.alert := by simp [setOverflowBit]
@[simp] theorem setOverflowBit_records (n id : Nat) : (setOverflowBit n id s).records = s.records := by simp [setOverflowBit]
@[simp] theorem setOverflowBit_closeInHand (n id : Nat) : (setOverflowBit n id s).closeInHand = s.closeInHand := by simp [setOverflowBit]
@[simp] theorem setOverflowBit_restartPending (n id : Nat) : (setOverflowBit n id s).restartPending = s.restartPending := by simp [setOverflowBit]
@[simp] theorem setOverflowBit_loader (n id : Nat) : (setOverflowBit n id s).loader = s.loader := by simp [setOverflowBit]
@[simp] theorem setOverflowBit_pending (n id : Nat) : (setOverflowBit n id s).pending = s.pending := by simp [setOverflowBit]

/-! ### clearOverflowBit -/

@[simp] theorem clearOverflowBit_meter (n id : Nat) : (clearOverflowBit n id s).meter = s.meter := by simp [clearOverflowBit]
@[simp] theorem clearOverflowBit_time (n id : Nat) : (clearOverflowBit n id s).time = s.time := by simp [clearOverflowBit]
@[simp] theorem clearOverflowBit_link (n id : Nat) : (clearOverflowBit n id s).link = s.link := by simp [clearOverflowBit]
@[simp] theorem clearOverflowBit_monitor (n id : Nat) : (clearOverflowBit n id s).monitor = s.monitor := by simp [clearOverflowBit]
@[simp] theorem clearOverflowBit_roster (n id : Nat) : (clearOverflowBit n id s).roster = s.roster := by simp [clearOverflowBit]
@[simp] theorem clearOverflowBit_table (n id : Nat) : (clearOverflowBit n id s).table = s.table := by simp [clearOverflowBit]
@[simp] theorem clearOverflowBit_relay (n id : Nat) : (clearOverflowBit n id s).relay = s.relay := by simp [clearOverflowBit]
@[simp] theorem clearOverflowBit_alert (n id : Nat) : (clearOverflowBit n id s).alert = s.alert := by simp [clearOverflowBit]
@[simp] theorem clearOverflowBit_records (n id : Nat) : (clearOverflowBit n id s).records = s.records := by simp [clearOverflowBit]
@[simp] theorem clearOverflowBit_closeInHand (n id : Nat) : (clearOverflowBit n id s).closeInHand = s.closeInHand := by simp [clearOverflowBit]
@[simp] theorem clearOverflowBit_restartPending (n id : Nat) : (clearOverflowBit n id s).restartPending = s.restartPending := by simp [clearOverflowBit]
@[simp] theorem clearOverflowBit_loader (n id : Nat) : (clearOverflowBit n id s).loader = s.loader := by simp [clearOverflowBit]
@[simp] theorem clearOverflowBit_pending (n id : Nat) : (clearOverflowBit n id s).pending = s.pending := by simp [clearOverflowBit]

/-! ### updateEntry -/

@[simp] theorem updateEntry_meter (src : Nat) (r : ReportEntry) : (updateEntry src r s).meter = s.meter := by simp [updateEntry]
@[simp] theorem updateEntry_time (src : Nat) (r : ReportEntry) : (updateEntry src r s).time = s.time := by simp [updateEntry]
@[simp] theorem updateEntry_link (src : Nat) (r : ReportEntry) : (updateEntry src r s).link = s.link := by simp [updateEntry]
@[simp] theorem updateEntry_monitor (src : Nat) (r : ReportEntry) : (updateEntry src r s).monitor = s.monitor := by simp [updateEntry]
@[simp] theorem updateEntry_roster (src : Nat) (r : ReportEntry) : (updateEntry src r s).roster = s.roster := by simp [updateEntry]
@[simp] theorem updateEntry_relay (src : Nat) (r : ReportEntry) : (updateEntry src r s).relay = s.relay := by simp [updateEntry]
@[simp] theorem updateEntry_alert (src : Nat) (r : ReportEntry) : (updateEntry src r s).alert = s.alert := by simp [updateEntry]
@[simp] theorem updateEntry_records (src : Nat) (r : ReportEntry) : (updateEntry src r s).records = s.records := by simp [updateEntry]
@[simp] theorem updateEntry_closeInHand (src : Nat) (r : ReportEntry) : (updateEntry src r s).closeInHand = s.closeInHand := by simp [updateEntry]
@[simp] theorem updateEntry_restartPending (src : Nat) (r : ReportEntry) : (updateEntry src r s).restartPending = s.restartPending := by simp [updateEntry]
@[simp] theorem updateEntry_loader (src : Nat) (r : ReportEntry) : (updateEntry src r s).loader = s.loader := by simp [updateEntry]
@[simp] theorem updateEntry_pending (src : Nat) (r : ReportEntry) : (updateEntry src r s).pending = s.pending := by simp [updateEntry]

/-! ### createEntry -/

@[simp] theorem createEntry_meter (src : Nat) (r : ReportEntry) (t : Tenant) : (createEntry src r t s).meter = s.meter := by
  simp only [createEntry]
  split <;> simp
@[simp] theorem createEntry_time (src : Nat) (r : ReportEntry) (t : Tenant) : (createEntry src r t s).time = s.time := by
  simp only [createEntry]
  split <;> simp
@[simp] theorem createEntry_link (src : Nat) (r : ReportEntry) (t : Tenant) : (createEntry src r t s).link = s.link := by
  simp only [createEntry]
  split <;> simp
@[simp] theorem createEntry_monitor (src : Nat) (r : ReportEntry) (t : Tenant) : (createEntry src r t s).monitor = s.monitor := by
  simp only [createEntry]
  split <;> simp
@[simp] theorem createEntry_roster (src : Nat) (r : ReportEntry) (t : Tenant) : (createEntry src r t s).roster = s.roster := by
  simp only [createEntry]
  split <;> simp
@[simp] theorem createEntry_relay (src : Nat) (r : ReportEntry) (t : Tenant) : (createEntry src r t s).relay = s.relay := by
  simp only [createEntry]
  split <;> simp
@[simp] theorem createEntry_records (src : Nat) (r : ReportEntry) (t : Tenant) : (createEntry src r t s).records = s.records := by
  simp only [createEntry]
  split <;> simp
@[simp] theorem createEntry_closeInHand (src : Nat) (r : ReportEntry) (t : Tenant) : (createEntry src r t s).closeInHand = s.closeInHand := by
  simp only [createEntry]
  split <;> simp
@[simp] theorem createEntry_restartPending (src : Nat) (r : ReportEntry) (t : Tenant) : (createEntry src r t s).restartPending = s.restartPending := by
  simp only [createEntry]
  split <;> simp
@[simp] theorem createEntry_loader (src : Nat) (r : ReportEntry) (t : Tenant) : (createEntry src r t s).loader = s.loader := by
  simp only [createEntry]
  split <;> simp
@[simp] theorem createEntry_pending (src : Nat) (r : ReportEntry) (t : Tenant) : (createEntry src r t s).pending = s.pending := by
  simp only [createEntry]
  split <;> simp

/-! ### applyToFullTable -/

@[simp] theorem applyToFullTable_meter (src : Nat) (r : ReportEntry) (t : Tenant) : (applyToFullTable src r t s).meter = s.meter := by unfold applyToFullTable; (repeat' split) <;> simp
@[simp] theorem applyToFullTable_time (src : Nat) (r : ReportEntry) (t : Tenant) : (applyToFullTable src r t s).time = s.time := by unfold applyToFullTable; (repeat' split) <;> simp
@[simp] theorem applyToFullTable_link (src : Nat) (r : ReportEntry) (t : Tenant) : (applyToFullTable src r t s).link = s.link := by unfold applyToFullTable; (repeat' split) <;> simp
@[simp] theorem applyToFullTable_monitor (src : Nat) (r : ReportEntry) (t : Tenant) : (applyToFullTable src r t s).monitor = s.monitor := by unfold applyToFullTable; (repeat' split) <;> simp
@[simp] theorem applyToFullTable_roster (src : Nat) (r : ReportEntry) (t : Tenant) : (applyToFullTable src r t s).roster = s.roster := by unfold applyToFullTable; (repeat' split) <;> simp
@[simp] theorem applyToFullTable_relay (src : Nat) (r : ReportEntry) (t : Tenant) : (applyToFullTable src r t s).relay = s.relay := by unfold applyToFullTable; (repeat' split) <;> simp
@[simp] theorem applyToFullTable_records (src : Nat) (r : ReportEntry) (t : Tenant) : (applyToFullTable src r t s).records = s.records := by unfold applyToFullTable; (repeat' split) <;> simp
@[simp] theorem applyToFullTable_closeInHand (src : Nat) (r : ReportEntry) (t : Tenant) : (applyToFullTable src r t s).closeInHand = s.closeInHand := by unfold applyToFullTable; (repeat' split) <;> simp
@[simp] theorem applyToFullTable_restartPending (src : Nat) (r : ReportEntry) (t : Tenant) : (applyToFullTable src r t s).restartPending = s.restartPending := by unfold applyToFullTable; (repeat' split) <;> simp
@[simp] theorem applyToFullTable_loader (src : Nat) (r : ReportEntry) (t : Tenant) : (applyToFullTable src r t s).loader = s.loader := by unfold applyToFullTable; (repeat' split) <;> simp
@[simp] theorem applyToFullTable_pending (src : Nat) (r : ReportEntry) (t : Tenant) : (applyToFullTable src r t s).pending = s.pending := by unfold applyToFullTable; (repeat' split) <;> simp

/-! ### applyEntry -/

@[simp] theorem applyEntry_meter (src : Nat) (r : ReportEntry) : (applyEntry src s r).meter = s.meter := by unfold applyEntry; (repeat' split) <;> simp
@[simp] theorem applyEntry_time (src : Nat) (r : ReportEntry) : (applyEntry src s r).time = s.time := by unfold applyEntry; (repeat' split) <;> simp
@[simp] theorem applyEntry_link (src : Nat) (r : ReportEntry) : (applyEntry src s r).link = s.link := by unfold applyEntry; (repeat' split) <;> simp
@[simp] theorem applyEntry_monitor (src : Nat) (r : ReportEntry) : (applyEntry src s r).monitor = s.monitor := by unfold applyEntry; (repeat' split) <;> simp
@[simp] theorem applyEntry_roster (src : Nat) (r : ReportEntry) : (applyEntry src s r).roster = s.roster := by unfold applyEntry; (repeat' split) <;> simp
@[simp] theorem applyEntry_relay (src : Nat) (r : ReportEntry) : (applyEntry src s r).relay = s.relay := by unfold applyEntry; (repeat' split) <;> simp
@[simp] theorem applyEntry_records (src : Nat) (r : ReportEntry) : (applyEntry src s r).records = s.records := by unfold applyEntry; (repeat' split) <;> simp
@[simp] theorem applyEntry_closeInHand (src : Nat) (r : ReportEntry) : (applyEntry src s r).closeInHand = s.closeInHand := by unfold applyEntry; (repeat' split) <;> simp
@[simp] theorem applyEntry_restartPending (src : Nat) (r : ReportEntry) : (applyEntry src s r).restartPending = s.restartPending := by unfold applyEntry; (repeat' split) <;> simp
@[simp] theorem applyEntry_loader (src : Nat) (r : ReportEntry) : (applyEntry src s r).loader = s.loader := by unfold applyEntry; (repeat' split) <;> simp
@[simp] theorem applyEntry_pending (src : Nat) (r : ReportEntry) : (applyEntry src s r).pending = s.pending := by unfold applyEntry; (repeat' split) <;> simp

/-! ### omitTenant -/

@[simp] theorem omitTenant_meter (src id : Nat) : (omitTenant src s id).meter = s.meter := by simp [omitTenant]
@[simp] theorem omitTenant_time (src id : Nat) : (omitTenant src s id).time = s.time := by simp [omitTenant]
@[simp] theorem omitTenant_link (src id : Nat) : (omitTenant src s id).link = s.link := by simp [omitTenant]
@[simp] theorem omitTenant_monitor (src id : Nat) : (omitTenant src s id).monitor = s.monitor := by simp [omitTenant]
@[simp] theorem omitTenant_roster (src id : Nat) : (omitTenant src s id).roster = s.roster := by simp [omitTenant]
@[simp] theorem omitTenant_relay (src id : Nat) : (omitTenant src s id).relay = s.relay := by simp [omitTenant]
@[simp] theorem omitTenant_alert (src id : Nat) : (omitTenant src s id).alert = s.alert := by simp [omitTenant]
@[simp] theorem omitTenant_records (src id : Nat) : (omitTenant src s id).records = s.records := by simp [omitTenant]
@[simp] theorem omitTenant_closeInHand (src id : Nat) : (omitTenant src s id).closeInHand = s.closeInHand := by simp [omitTenant]
@[simp] theorem omitTenant_restartPending (src id : Nat) : (omitTenant src s id).restartPending = s.restartPending := by simp [omitTenant]
@[simp] theorem omitTenant_loader (src id : Nat) : (omitTenant src s id).loader = s.loader := by simp [omitTenant]
@[simp] theorem omitTenant_pending (src id : Nat) : (omitTenant src s id).pending = s.pending := by simp [omitTenant]

/-! ### takeReport -/

@[simp] theorem takeReport_meter (src ticks : Nat) (es : List ReportEntry) : (takeReport src ticks es s).meter = s.meter := by
  simp only [takeReport]
  split
  · rw [setLinkState_meter, foldl_keeps State.meter _ (by simp), foldl_keeps State.meter _ (by simp)]; simp
  · rw [foldl_keeps State.meter _ (by simp), foldl_keeps State.meter _ (by simp)]; simp
@[simp] theorem takeReport_time (src ticks : Nat) (es : List ReportEntry) : (takeReport src ticks es s).time = s.time := by
  simp only [takeReport]
  split
  · rw [setLinkState_time, foldl_keeps State.time _ (by simp), foldl_keeps State.time _ (by simp)]; simp
  · rw [foldl_keeps State.time _ (by simp), foldl_keeps State.time _ (by simp)]; simp
@[simp] theorem takeReport_relay (src ticks : Nat) (es : List ReportEntry) : (takeReport src ticks es s).relay = s.relay := by
  simp only [takeReport]
  split
  · rw [setLinkState_relay, foldl_keeps State.relay _ (by simp), foldl_keeps State.relay _ (by simp)]; simp
  · rw [foldl_keeps State.relay _ (by simp), foldl_keeps State.relay _ (by simp)]; simp
@[simp] theorem takeReport_records (src ticks : Nat) (es : List ReportEntry) : (takeReport src ticks es s).records = s.records := by
  simp only [takeReport]
  split
  · rw [setLinkState_records, foldl_keeps State.records _ (by simp), foldl_keeps State.records _ (by simp)]; simp
  · rw [foldl_keeps State.records _ (by simp), foldl_keeps State.records _ (by simp)]; simp
@[simp] theorem takeReport_closeInHand (src ticks : Nat) (es : List ReportEntry) : (takeReport src ticks es s).closeInHand = s.closeInHand := by
  simp only [takeReport]
  split
  · rw [setLinkState_closeInHand, foldl_keeps State.closeInHand _ (by simp), foldl_keeps State.closeInHand _ (by simp)]; simp
  · rw [foldl_keeps State.closeInHand _ (by simp), foldl_keeps State.closeInHand _ (by simp)]; simp
@[simp] theorem takeReport_restartPending (src ticks : Nat) (es : List ReportEntry) : (takeReport src ticks es s).restartPending = s.restartPending := by
  simp only [takeReport]
  split
  · rw [setLinkState_restartPending, foldl_keeps State.restartPending _ (by simp), foldl_keeps State.restartPending _ (by simp)]; simp
  · rw [foldl_keeps State.restartPending _ (by simp), foldl_keeps State.restartPending _ (by simp)]; simp
@[simp] theorem takeReport_loader (src ticks : Nat) (es : List ReportEntry) : (takeReport src ticks es s).loader = s.loader := by
  simp only [takeReport]
  split
  · rw [setLinkState_loader, foldl_keeps State.loader _ (by simp), foldl_keeps State.loader _ (by simp)]; simp
  · rw [foldl_keeps State.loader _ (by simp), foldl_keeps State.loader _ (by simp)]; simp
@[simp] theorem takeReport_pending (src ticks : Nat) (es : List ReportEntry) : (takeReport src ticks es s).pending = s.pending := by
  simp only [takeReport]
  split
  · rw [setLinkState_pending, foldl_keeps State.pending _ (by simp), foldl_keeps State.pending _ (by simp)]; simp
  · rw [foldl_keeps State.pending _ (by simp), foldl_keeps State.pending _ (by simp)]; simp

end Sys2Proof.Machine
end

