-- ==== Sys2Proof/Laws/ReconcileFrames.lean ====
section
/-! SUPPORT. Frames: the blocks that the period close leave as they were. -/

namespace Sys2Proof.Machine

variable (s : State)

/-! ### closeMeter -/

@[simp] theorem closeMeter_link : (closeMeter s).link = s.link := by simp [closeMeter]
@[simp] theorem closeMeter_monitor : (closeMeter s).monitor = s.monitor := by simp [closeMeter]
@[simp] theorem closeMeter_roster : (closeMeter s).roster = s.roster := by simp [closeMeter]
@[simp] theorem closeMeter_table : (closeMeter s).table = s.table := by simp [closeMeter]
@[simp] theorem closeMeter_recon : (closeMeter s).recon = s.recon := by simp [closeMeter]
@[simp] theorem closeMeter_relay : (closeMeter s).relay = s.relay := by simp [closeMeter]
@[simp] theorem closeMeter_alert : (closeMeter s).alert = s.alert := by simp [closeMeter]
@[simp] theorem closeMeter_records : (closeMeter s).records = s.records := by simp [closeMeter]
@[simp] theorem closeMeter_closeInHand : (closeMeter s).closeInHand = s.closeInHand := by simp [closeMeter]
@[simp] theorem closeMeter_restartPending : (closeMeter s).restartPending = s.restartPending := by simp [closeMeter]
@[simp] theorem closeMeter_loader : (closeMeter s).loader = s.loader := by simp [closeMeter]
@[simp] theorem closeMeter_pending : (closeMeter s).pending = s.pending := by simp [closeMeter]

/-! ### shedOutlet -/

@[simp] theorem shedOutlet_meter (n : Nat) : (shedOutlet s n).meter = s.meter := by simp [shedOutlet]
@[simp] theorem shedOutlet_time (n : Nat) : (shedOutlet s n).time = s.time := by simp [shedOutlet]
@[simp] theorem shedOutlet_link (n : Nat) : (shedOutlet s n).link = s.link := by simp [shedOutlet]
@[simp] theorem shedOutlet_monitor (n : Nat) : (shedOutlet s n).monitor = s.monitor := by simp [shedOutlet]
@[simp] theorem shedOutlet_roster (n : Nat) : (shedOutlet s n).roster = s.roster := by simp [shedOutlet]
@[simp] theorem shedOutlet_table (n : Nat) : (shedOutlet s n).table = s.table := by simp [shedOutlet]
@[simp] theorem shedOutlet_recon (n : Nat) : (shedOutlet s n).recon = s.recon := by simp [shedOutlet]
@[simp] theorem shedOutlet_alert (n : Nat) : (shedOutlet s n).alert = s.alert := by simp [shedOutlet]
@[simp] theorem shedOutlet_records (n : Nat) : (shedOutlet s n).records = s.records := by simp [shedOutlet]
@[simp] theorem shedOutlet_closeInHand (n : Nat) : (shedOutlet s n).closeInHand = s.closeInHand := by simp [shedOutlet]
@[simp] theorem shedOutlet_restartPending (n : Nat) : (shedOutlet s n).restartPending = s.restartPending := by simp [shedOutlet]
@[simp] theorem shedOutlet_loader (n : Nat) : (shedOutlet s n).loader = s.loader := by simp [shedOutlet]
@[simp] theorem shedOutlet_pending (n : Nat) : (shedOutlet s n).pending = s.pending := by simp [shedOutlet]

/-! ### shedRound -/

@[simp] theorem shedRound_meter (id : Nat) : (shedRound id s).meter = s.meter := by
  simp only [shedRound]
  (repeat' split) <;> simp [foldl_keeps State.meter shedOutlet (by simp)]
@[simp] theorem shedRound_time (id : Nat) : (shedRound id s).time = s.time := by
  simp only [shedRound]
  (repeat' split) <;> simp [foldl_keeps State.time shedOutlet (by simp)]
@[simp] theorem shedRound_link (id : Nat) : (shedRound id s).link = s.link := by
  simp only [shedRound]
  (repeat' split) <;> simp [foldl_keeps State.link shedOutlet (by simp)]
@[simp] theorem shedRound_monitor (id : Nat) : (shedRound id s).monitor = s.monitor := by
  simp only [shedRound]
  (repeat' split) <;> simp [foldl_keeps State.monitor shedOutlet (by simp)]
@[simp] theorem shedRound_roster (id : Nat) : (shedRound id s).roster = s.roster := by
  simp only [shedRound]
  (repeat' split) <;> simp [foldl_keeps State.roster shedOutlet (by simp)]
@[simp] theorem shedRound_table (id : Nat) : (shedRound id s).table = s.table := by
  simp only [shedRound]
  (repeat' split) <;> simp [foldl_keeps State.table shedOutlet (by simp)]
@[simp] theorem shedRound_recon (id : Nat) : (shedRound id s).recon = s.recon := by
  simp only [shedRound]
  (repeat' split) <;> simp [foldl_keeps State.recon shedOutlet (by simp)]
@[simp] theorem shedRound_closeInHand (id : Nat) : (shedRound id s).closeInHand = s.closeInHand := by
  simp only [shedRound]
  (repeat' split) <;> simp [foldl_keeps State.closeInHand shedOutlet (by simp)]
@[simp] theorem shedRound_restartPending (id : Nat) : (shedRound id s).restartPending = s.restartPending := by
  simp only [shedRound]
  (repeat' split) <;> simp [foldl_keeps State.restartPending shedOutlet (by simp)]
@[simp] theorem shedRound_loader (id : Nat) : (shedRound id s).loader = s.loader := by
  simp only [shedRound]
  (repeat' split) <;> simp [foldl_keeps State.loader shedOutlet (by simp)]
@[simp] theorem shedRound_pending (id : Nat) : (shedRound id s).pending = s.pending := by
  simp only [shedRound]
  (repeat' split) <;> simp [foldl_keeps State.pending shedOutlet (by simp)]

/-! ### restoreOutlet -/

@[simp] theorem restoreOutlet_meter (n : Nat) : (restoreOutlet n s).meter = s.meter := by simp [restoreOutlet]
@[simp] theorem restoreOutlet_time (n : Nat) : (restoreOutlet n s).time = s.time := by simp [restoreOutlet]
@[simp] theorem restoreOutlet_link (n : Nat) : (restoreOutlet n s).link = s.link := by simp [restoreOutlet]
@[simp] theorem restoreOutlet_monitor (n : Nat) : (restoreOutlet n s).monitor = s.monitor := by simp [restoreOutlet]
@[simp] theorem restoreOutlet_roster (n : Nat) : (restoreOutlet n s).roster = s.roster := by simp [restoreOutlet]
@[simp] theorem restoreOutlet_table (n : Nat) : (restoreOutlet n s).table = s.table := by simp [restoreOutlet]
@[simp] theorem restoreOutlet_recon (n : Nat) : (restoreOutlet n s).recon = s.recon := by simp [restoreOutlet]
@[simp] theorem restoreOutlet_alert (n : Nat) : (restoreOutlet n s).alert = s.alert := by simp [restoreOutlet]
@[simp] theorem restoreOutlet_records (n : Nat) : (restoreOutlet n s).records = s.records := by simp [restoreOutlet]
@[simp] theorem restoreOutlet_closeInHand (n : Nat) : (restoreOutlet n s).closeInHand = s.closeInHand := by simp [restoreOutlet]
@[simp] theorem restoreOutlet_restartPending (n : Nat) : (restoreOutlet n s).restartPending = s.restartPending := by simp [restoreOutlet]
@[simp] theorem restoreOutlet_loader (n : Nat) : (restoreOutlet n s).loader = s.loader := by simp [restoreOutlet]
@[simp] theorem restoreOutlet_pending (n : Nat) : (restoreOutlet n s).pending = s.pending := by simp [restoreOutlet]

/-! ### restoreStep -/

@[simp] theorem restoreStep_meter (id : Nat) : (restoreStep id s).meter = s.meter := by unfold restoreStep; (repeat' split) <;> simp
@[simp] theorem restoreStep_time (id : Nat) : (restoreStep id s).time = s.time := by unfold restoreStep; (repeat' split) <;> simp
@[simp] theorem restoreStep_link (id : Nat) : (restoreStep id s).link = s.link := by unfold restoreStep; (repeat' split) <;> simp
@[simp] theorem restoreStep_monitor (id : Nat) : (restoreStep id s).monitor = s.monitor := by unfold restoreStep; (repeat' split) <;> simp
@[simp] theorem restoreStep_roster (id : Nat) : (restoreStep id s).roster = s.roster := by unfold restoreStep; (repeat' split) <;> simp
@[simp] theorem restoreStep_table (id : Nat) : (restoreStep id s).table = s.table := by unfold restoreStep; (repeat' split) <;> simp
@[simp] theorem restoreStep_recon (id : Nat) : (restoreStep id s).recon = s.recon := by unfold restoreStep; (repeat' split) <;> simp
@[simp] theorem restoreStep_closeInHand (id : Nat) : (restoreStep id s).closeInHand = s.closeInHand := by unfold restoreStep; (repeat' split) <;> simp
@[simp] theorem restoreStep_restartPending (id : Nat) : (restoreStep id s).restartPending = s.restartPending := by unfold restoreStep; (repeat' split) <;> simp
@[simp] theorem restoreStep_loader (id : Nat) : (restoreStep id s).loader = s.loader := by unfold restoreStep; (repeat' split) <;> simp
@[simp] theorem restoreStep_pending (id : Nat) : (restoreStep id s).pending = s.pending := by unfold restoreStep; (repeat' split) <;> simp

/-! ### beginExcursion -/

@[simp] theorem beginExcursion_meter (t : Tenant) : (beginExcursion t s).meter = s.meter := by simp [beginExcursion]
@[simp] theorem beginExcursion_time (t : Tenant) : (beginExcursion t s).time = s.time := by simp [beginExcursion]
@[simp] theorem beginExcursion_link (t : Tenant) : (beginExcursion t s).link = s.link := by simp [beginExcursion]
@[simp] theorem beginExcursion_monitor (t : Tenant) : (beginExcursion t s).monitor = s.monitor := by simp [beginExcursion]
@[simp] theorem beginExcursion_roster (t : Tenant) : (beginExcursion t s).roster = s.roster := by simp [beginExcursion]
@[simp] theorem beginExcursion_table (t : Tenant) : (beginExcursion t s).table = s.table := by simp [beginExcursion]
@[simp] theorem beginExcursion_recon (t : Tenant) : (beginExcursion t s).recon = s.recon := by simp [beginExcursion]
@[simp] theorem beginExcursion_relay (t : Tenant) : (beginExcursion t s).relay = s.relay := by simp [beginExcursion]
@[simp] theorem beginExcursion_closeInHand (t : Tenant) : (beginExcursion t s).closeInHand = s.closeInHand := by simp [beginExcursion]
@[simp] theorem beginExcursion_restartPending (t : Tenant) : (beginExcursion t s).restartPending = s.restartPending := by simp [beginExcursion]
@[simp] theorem beginExcursion_loader (t : Tenant) : (beginExcursion t s).loader = s.loader := by simp [beginExcursion]
@[simp] theorem beginExcursion_pending (t : Tenant) : (beginExcursion t s).pending = s.pending := by simp [beginExcursion]

/-! ### endExcursion -/

@[simp] theorem endExcursion_meter (t : Tenant) : (endExcursion t s).meter = s.meter := by simp [endExcursion]
@[simp] theorem endExcursion_time (t : Tenant) : (endExcursion t s).time = s.time := by simp [endExcursion]
@[simp] theorem endExcursion_link (t : Tenant) : (endExcursion t s).link = s.link := by simp [endExcursion]
@[simp] theorem endExcursion_monitor (t : Tenant) : (endExcursion t s).monitor = s.monitor := by simp [endExcursion]
@[simp] theorem endExcursion_roster (t : Tenant) : (endExcursion t s).roster = s.roster := by simp [endExcursion]
@[simp] theorem endExcursion_table (t : Tenant) : (endExcursion t s).table = s.table := by simp [endExcursion]
@[simp] theorem endExcursion_relay (t : Tenant) : (endExcursion t s).relay = s.relay := by simp [endExcursion]
@[simp] theorem endExcursion_closeInHand (t : Tenant) : (endExcursion t s).closeInHand = s.closeInHand := by simp [endExcursion]
@[simp] theorem endExcursion_restartPending (t : Tenant) : (endExcursion t s).restartPending = s.restartPending := by simp [endExcursion]
@[simp] theorem endExcursion_loader (t : Tenant) : (endExcursion t s).loader = s.loader := by simp [endExcursion]
@[simp] theorem endExcursion_pending (t : Tenant) : (endExcursion t s).pending = s.pending := by simp [endExcursion]

/-! ### enterCurtail -/

@[simp] theorem enterCurtail_meter (id n : Nat) : (enterCurtail id n s).meter = s.meter := by simp [enterCurtail]
@[simp] theorem enterCurtail_time (id n : Nat) : (enterCurtail id n s).time = s.time := by simp [enterCurtail]
@[simp] theorem enterCurtail_link (id n : Nat) : (enterCurtail id n s).link = s.link := by simp [enterCurtail]
@[simp] theorem enterCurtail_monitor (id n : Nat) : (enterCurtail id n s).monitor = s.monitor := by simp [enterCurtail]
@[simp] theorem enterCurtail_roster (id n : Nat) : (enterCurtail id n s).roster = s.roster := by simp [enterCurtail]
@[simp] theorem enterCurtail_table (id n : Nat) : (enterCurtail id n s).table = s.table := by simp [enterCurtail]
@[simp] theorem enterCurtail_relay (id n : Nat) : (enterCurtail id n s).relay = s.relay := by simp [enterCurtail]
@[simp] theorem enterCurtail_records (id n : Nat) : (enterCurtail id n s).records = s.records := by simp [enterCurtail]
@[simp] theorem enterCurtail_closeInHand (id n : Nat) : (enterCurtail id n s).closeInHand = s.closeInHand := by simp [enterCurtail]
@[simp] theorem enterCurtail_restartPending (id n : Nat) : (enterCurtail id n s).restartPending = s.restartPending := by simp [enterCurtail]
@[simp] theorem enterCurtail_loader (id n : Nat) : (enterCurtail id n s).loader = s.loader := by simp [enterCurtail]
@[simp] theorem enterCurtail_pending (id n : Nat) : (enterCurtail id n s).pending = s.pending := by simp [enterCurtail]

/-! ### runRound -/

@[simp] theorem runRound_meter (id : Nat) : (runRound id s).meter = s.meter := by simp [runRound]
@[simp] theorem runRound_time (id : Nat) : (runRound id s).time = s.time := by simp [runRound]
@[simp] theorem runRound_link (id : Nat) : (runRound id s).link = s.link := by simp [runRound]
@[simp] theorem runRound_monitor (id : Nat) : (runRound id s).monitor = s.monitor := by simp [runRound]
@[simp] theorem runRound_roster (id : Nat) : (runRound id s).roster = s.roster := by simp [runRound]
@[simp] theorem runRound_table (id : Nat) : (runRound id s).table = s.table := by simp [runRound]
@[simp] theorem runRound_closeInHand (id : Nat) : (runRound id s).closeInHand = s.closeInHand := by simp [runRound]
@[simp] theorem runRound_restartPending (id : Nat) : (runRound id s).restartPending = s.restartPending := by simp [runRound]
@[simp] theorem runRound_loader (id : Nat) : (runRound id s).loader = s.loader := by simp [runRound]
@[simp] theorem runRound_pending (id : Nat) : (runRound id s).pending = s.pending := by simp [runRound]

/-! ### attemptRestore -/

@[simp] theorem attemptRestore_meter (id : Nat) : (attemptRestore id s).meter = s.meter := by simp [attemptRestore]
@[simp] theorem attemptRestore_time (id : Nat) : (attemptRestore id s).time = s.time := by simp [attemptRestore]
@[simp] theorem attemptRestore_link (id : Nat) : (attemptRestore id s).link = s.link := by simp [attemptRestore]
@[simp] theorem attemptRestore_monitor (id : Nat) : (attemptRestore id s).monitor = s.monitor := by simp [attemptRestore]
@[simp] theorem attemptRestore_roster (id : Nat) : (attemptRestore id s).roster = s.roster := by simp [attemptRestore]
@[simp] theorem attemptRestore_table (id : Nat) : (attemptRestore id s).table = s.table := by simp [attemptRestore]
@[simp] theorem attemptRestore_closeInHand (id : Nat) : (attemptRestore id s).closeInHand = s.closeInHand := by simp [attemptRestore]
@[simp] theorem attemptRestore_restartPending (id : Nat) : (attemptRestore id s).restartPending = s.restartPending := by simp [attemptRestore]
@[simp] theorem attemptRestore_loader (id : Nat) : (attemptRestore id s).loader = s.loader := by simp [attemptRestore]
@[simp] theorem attemptRestore_pending (id : Nat) : (attemptRestore id s).pending = s.pending := by simp [attemptRestore]

/-! ### applyStanding -/

@[simp] theorem applyStanding_meter (c : StandingCase) (t : Tenant) : (applyStanding c t s).meter = s.meter := by unfold applyStanding; (repeat' split) <;> simp
@[simp] theorem applyStanding_time (c : StandingCase) (t : Tenant) : (applyStanding c t s).time = s.time := by unfold applyStanding; (repeat' split) <;> simp
@[simp] theorem applyStanding_link (c : StandingCase) (t : Tenant) : (applyStanding c t s).link = s.link := by unfold applyStanding; (repeat' split) <;> simp
@[simp] theorem applyStanding_monitor (c : StandingCase) (t : Tenant) : (applyStanding c t s).monitor = s.monitor := by unfold applyStanding; (repeat' split) <;> simp
@[simp] theorem applyStanding_roster (c : StandingCase) (t : Tenant) : (applyStanding c t s).roster = s.roster := by unfold applyStanding; (repeat' split) <;> simp
@[simp] theorem applyStanding_table (c : StandingCase) (t : Tenant) : (applyStanding c t s).table = s.table := by unfold applyStanding; (repeat' split) <;> simp
@[simp] theorem applyStanding_closeInHand (c : StandingCase) (t : Tenant) : (applyStanding c t s).closeInHand = s.closeInHand := by unfold applyStanding; (repeat' split) <;> simp
@[simp] theorem applyStanding_restartPending (c : StandingCase) (t : Tenant) : (applyStanding c t s).restartPending = s.restartPending := by unfold applyStanding; (repeat' split) <;> simp
@[simp] theorem applyStanding_loader (c : StandingCase) (t : Tenant) : (applyStanding c t s).loader = s.loader := by unfold applyStanding; (repeat' split) <;> simp
@[simp] theorem applyStanding_pending (c : StandingCase) (t : Tenant) : (applyStanding c t s).pending = s.pending := by unfold applyStanding; (repeat' split) <;> simp

/-! ### tenantFigures -/

@[simp] theorem tenantFigures_meter (id : Nat) : (tenantFigures id s).meter = s.meter := by
  simp only [tenantFigures]
  (repeat' split) <;> simp
@[simp] theorem tenantFigures_time (id : Nat) : (tenantFigures id s).time = s.time := by
  simp only [tenantFigures]
  (repeat' split) <;> simp
@[simp] theorem tenantFigures_link (id : Nat) : (tenantFigures id s).link = s.link := by
  simp only [tenantFigures]
  (repeat' split) <;> simp
@[simp] theorem tenantFigures_monitor (id : Nat) : (tenantFigures id s).monitor = s.monitor := by
  simp only [tenantFigures]
  (repeat' split) <;> simp
@[simp] theorem tenantFigures_roster (id : Nat) : (tenantFigures id s).roster = s.roster := by
  simp only [tenantFigures]
  (repeat' split) <;> simp
@[simp] theorem tenantFigures_table (id : Nat) : (tenantFigures id s).table = s.table := by
  simp only [tenantFigures]
  (repeat' split) <;> simp
@[simp] theorem tenantFigures_relay (id : Nat) : (tenantFigures id s).relay = s.relay := by
  simp only [tenantFigures]
  (repeat' split) <;> simp
@[simp] theorem tenantFigures_closeInHand (id : Nat) : (tenantFigures id s).closeInHand = s.closeInHand := by
  simp only [tenantFigures]
  (repeat' split) <;> simp
@[simp] theorem tenantFigures_restartPending (id : Nat) : (tenantFigures id s).restartPending = s.restartPending := by
  simp only [tenantFigures]
  (repeat' split) <;> simp
@[simp] theorem tenantFigures_loader (id : Nat) : (tenantFigures id s).loader = s.loader := by
  simp only [tenantFigures]
  (repeat' split) <;> simp
@[simp] theorem tenantFigures_pending (id : Nat) : (tenantFigures id s).pending = s.pending := by
  simp only [tenantFigures]
  (repeat' split) <;> simp

/-! ### tenantStanding -/

@[simp] theorem tenantStanding_meter (id : Nat) : (tenantStanding id s).meter = s.meter := by
  simp only [tenantStanding]
  (repeat' split) <;> simp
@[simp] theorem tenantStanding_time (id : Nat) : (tenantStanding id s).time = s.time := by
  simp only [tenantStanding]
  (repeat' split) <;> simp
@[simp] theorem tenantStanding_link (id : Nat) : (tenantStanding id s).link = s.link := by
  simp only [tenantStanding]
  (repeat' split) <;> simp
@[simp] theorem tenantStanding_monitor (id : Nat) : (tenantStanding id s).monitor = s.monitor := by
  simp only [tenantStanding]
  (repeat' split) <;> simp
@[simp] theorem tenantStanding_roster (id : Nat) : (tenantStanding id s).roster = s.roster := by
  simp only [tenantStanding]
  (repeat' split) <;> simp
@[simp] theorem tenantStanding_table (id : Nat) : (tenantStanding id s).table = s.table := by
  simp only [tenantStanding]
  (repeat' split) <;> simp
@[simp] theorem tenantStanding_closeInHand (id : Nat) : (tenantStanding id s).closeInHand = s.closeInHand := by
  simp only [tenantStanding]
  (repeat' split) <;> simp
@[simp] theorem tenantStanding_restartPending (id : Nat) : (tenantStanding id s).restartPending = s.restartPending := by
  simp only [tenantStanding]
  (repeat' split) <;> simp
@[simp] theorem tenantStanding_loader (id : Nat) : (tenantStanding id s).loader = s.loader := by
  simp only [tenantStanding]
  (repeat' split) <;> simp
@[simp] theorem tenantStanding_pending (id : Nat) : (tenantStanding id s).pending = s.pending := by
  simp only [tenantStanding]
  (repeat' split) <;> simp

/-! ### tenantDeparture -/

@[simp] theorem tenantDeparture_meter (id : Nat) : (tenantDeparture id s).meter = s.meter := by unfold tenantDeparture; (repeat' split) <;> simp
@[simp] theorem tenantDeparture_time (id : Nat) : (tenantDeparture id s).time = s.time := by unfold tenantDeparture; (repeat' split) <;> simp
@[simp] theorem tenantDeparture_link (id : Nat) : (tenantDeparture id s).link = s.link := by unfold tenantDeparture; (repeat' split) <;> simp
@[simp] theorem tenantDeparture_monitor (id : Nat) : (tenantDeparture id s).monitor = s.monitor := by unfold tenantDeparture; (repeat' split) <;> simp
@[simp] theorem tenantDeparture_roster (id : Nat) : (tenantDeparture id s).roster = s.roster := by unfold tenantDeparture; (repeat' split) <;> simp
@[simp] theorem tenantDeparture_table (id : Nat) : (tenantDeparture id s).table = s.table := by unfold tenantDeparture; (repeat' split) <;> simp
@[simp] theorem tenantDeparture_relay (id : Nat) : (tenantDeparture id s).relay = s.relay := by unfold tenantDeparture; (repeat' split) <;> simp
@[simp] theorem tenantDeparture_closeInHand (id : Nat) : (tenantDeparture id s).closeInHand = s.closeInHand := by unfold tenantDeparture; (repeat' split) <;> simp
@[simp] theorem tenantDeparture_restartPending (id : Nat) : (tenantDeparture id s).restartPending = s.restartPending := by unfold tenantDeparture; (repeat' split) <;> simp
@[simp] theorem tenantDeparture_loader (id : Nat) : (tenantDeparture id s).loader = s.loader := by unfold tenantDeparture; (repeat' split) <;> simp
@[simp] theorem tenantDeparture_pending (id : Nat) : (tenantDeparture id s).pending = s.pending := by unfold tenantDeparture; (repeat' split) <;> simp

/-! ### evaluateTenant -/

@[simp] theorem evaluateTenant_meter (id : Nat) : (evaluateTenant id s).meter = s.meter := by unfold evaluateTenant; (repeat' split) <;> simp
@[simp] theorem evaluateTenant_time (id : Nat) : (evaluateTenant id s).time = s.time := by unfold evaluateTenant; (repeat' split) <;> simp
@[simp] theorem evaluateTenant_link (id : Nat) : (evaluateTenant id s).link = s.link := by unfold evaluateTenant; (repeat' split) <;> simp
@[simp] theorem evaluateTenant_monitor (id : Nat) : (evaluateTenant id s).monitor = s.monitor := by unfold evaluateTenant; (repeat' split) <;> simp
@[simp] theorem evaluateTenant_roster (id : Nat) : (evaluateTenant id s).roster = s.roster := by unfold evaluateTenant; (repeat' split) <;> simp
@[simp] theorem evaluateTenant_table (id : Nat) : (evaluateTenant id s).table = s.table := by unfold evaluateTenant; (repeat' split) <;> simp
@[simp] theorem evaluateTenant_closeInHand (id : Nat) : (evaluateTenant id s).closeInHand = s.closeInHand := by unfold evaluateTenant; (repeat' split) <;> simp
@[simp] theorem evaluateTenant_restartPending (id : Nat) : (evaluateTenant id s).restartPending = s.restartPending := by unfold evaluateTenant; (repeat' split) <;> simp
@[simp] theorem evaluateTenant_loader (id : Nat) : (evaluateTenant id s).loader = s.loader := by unfold evaluateTenant; (repeat' split) <;> simp
@[simp] theorem evaluateTenant_pending (id : Nat) : (evaluateTenant id s).pending = s.pending := by unfold evaluateTenant; (repeat' split) <;> simp

/-! ### closeTenant -/

@[simp] theorem closeTenant_meter (id : Nat) : (closeTenant s id).meter = s.meter := by simp [closeTenant]
@[simp] theorem closeTenant_time (id : Nat) : (closeTenant s id).time = s.time := by simp [closeTenant]
@[simp] theorem closeTenant_link (id : Nat) : (closeTenant s id).link = s.link := by simp [closeTenant]
@[simp] theorem closeTenant_monitor (id : Nat) : (closeTenant s id).monitor = s.monitor := by simp [closeTenant]
@[simp] theorem closeTenant_roster (id : Nat) : (closeTenant s id).roster = s.roster := by simp [closeTenant]
@[simp] theorem closeTenant_table (id : Nat) : (closeTenant s id).table = s.table := by simp [closeTenant]
@[simp] theorem closeTenant_closeInHand (id : Nat) : (closeTenant s id).closeInHand = s.closeInHand := by simp [closeTenant]
@[simp] theorem closeTenant_restartPending (id : Nat) : (closeTenant s id).restartPending = s.restartPending := by simp [closeTenant]
@[simp] theorem closeTenant_loader (id : Nat) : (closeTenant s id).loader = s.loader := by simp [closeTenant]
@[simp] theorem closeTenant_pending (id : Nat) : (closeTenant s id).pending = s.pending := by simp [closeTenant]

/-! ### endWarmupClose -/

@[simp] theorem endWarmupClose_meter : (endWarmupClose s).meter = s.meter := by unfold endWarmupClose; (repeat' split) <;> simp
@[simp] theorem endWarmupClose_time : (endWarmupClose s).time = s.time := by unfold endWarmupClose; (repeat' split) <;> simp
@[simp] theorem endWarmupClose_link : (endWarmupClose s).link = s.link := by unfold endWarmupClose; (repeat' split) <;> simp
@[simp] theorem endWarmupClose_monitor : (endWarmupClose s).monitor = s.monitor := by unfold endWarmupClose; (repeat' split) <;> simp
@[simp] theorem endWarmupClose_roster : (endWarmupClose s).roster = s.roster := by unfold endWarmupClose; (repeat' split) <;> simp
@[simp] theorem endWarmupClose_table : (endWarmupClose s).table = s.table := by unfold endWarmupClose; (repeat' split) <;> simp
@[simp] theorem endWarmupClose_relay : (endWarmupClose s).relay = s.relay := by unfold endWarmupClose; (repeat' split) <;> simp
@[simp] theorem endWarmupClose_alert : (endWarmupClose s).alert = s.alert := by unfold endWarmupClose; (repeat' split) <;> simp
@[simp] theorem endWarmupClose_records : (endWarmupClose s).records = s.records := by unfold endWarmupClose; (repeat' split) <;> simp
@[simp] theorem endWarmupClose_closeInHand : (endWarmupClose s).closeInHand = s.closeInHand := by unfold endWarmupClose; (repeat' split) <;> simp
@[simp] theorem endWarmupClose_restartPending : (endWarmupClose s).restartPending = s.restartPending := by unfold endWarmupClose; (repeat' split) <;> simp
@[simp] theorem endWarmupClose_loader : (endWarmupClose s).loader = s.loader := by unfold endWarmupClose; (repeat' split) <;> simp
@[simp] theorem endWarmupClose_pending : (endWarmupClose s).pending = s.pending := by unfold endWarmupClose; (repeat' split) <;> simp

/-! ### publishReport -/

@[simp] theorem publishReport_meter : (publishReport s).meter = s.meter := by
  simp only [publishReport]
  split <;> simp
@[simp] theorem publishReport_time : (publishReport s).time = s.time := by
  simp only [publishReport]
  split <;> simp
@[simp] theorem publishReport_monitor : (publishReport s).monitor = s.monitor := by
  simp only [publishReport]
  split <;> simp
@[simp] theorem publishReport_roster : (publishReport s).roster = s.roster := by
  simp only [publishReport]
  split <;> simp
@[simp] theorem publishReport_table : (publishReport s).table = s.table := by
  simp only [publishReport]
  split <;> simp
@[simp] theorem publishReport_recon : (publishReport s).recon = s.recon := by
  simp only [publishReport]
  split <;> simp
@[simp] theorem publishReport_relay : (publishReport s).relay = s.relay := by
  simp only [publishReport]
  split <;> simp
@[simp] theorem publishReport_records : (publishReport s).records = s.records := by
  simp only [publishReport]
  split <;> simp
@[simp] theorem publishReport_closeInHand : (publishReport s).closeInHand = s.closeInHand := by
  simp only [publishReport]
  split <;> simp
@[simp] theorem publishReport_restartPending : (publishReport s).restartPending = s.restartPending := by
  simp only [publishReport]
  split <;> simp
@[simp] theorem publishReport_loader : (publishReport s).loader = s.loader := by
  simp only [publishReport]
  split <;> simp
@[simp] theorem publishReport_pending : (publishReport s).pending = s.pending := by
  simp only [publishReport]
  split <;> simp

/-! ### closeMonitor -/

@[simp] theorem closeMonitor_meter : (closeMonitor s).meter = s.meter := by
  simp only [closeMonitor]
  (repeat' split) <;> simp
@[simp] theorem closeMonitor_time : (closeMonitor s).time = s.time := by
  simp only [closeMonitor]
  (repeat' split) <;> simp
@[simp] theorem closeMonitor_link : (closeMonitor s).link = s.link := by
  simp only [closeMonitor]
  (repeat' split) <;> simp
@[simp] theorem closeMonitor_roster : (closeMonitor s).roster = s.roster := by
  simp only [closeMonitor]
  (repeat' split) <;> simp
@[simp] theorem closeMonitor_table : (closeMonitor s).table = s.table := by
  simp only [closeMonitor]
  (repeat' split) <;> simp
@[simp] theorem closeMonitor_recon : (closeMonitor s).recon = s.recon := by
  simp only [closeMonitor]
  (repeat' split) <;> simp
@[simp] theorem closeMonitor_relay : (closeMonitor s).relay = s.relay := by
  simp only [closeMonitor]
  (repeat' split) <;> simp
@[simp] theorem closeMonitor_alert : (closeMonitor s).alert = s.alert := by
  simp only [closeMonitor]
  (repeat' split) <;> simp
@[simp] theorem closeMonitor_records : (closeMonitor s).records = s.records := by
  simp only [closeMonitor]
  (repeat' split) <;> simp
@[simp] theorem closeMonitor_closeInHand : (closeMonitor s).closeInHand = s.closeInHand := by
  simp only [closeMonitor]
  (repeat' split) <;> simp
@[simp] theorem closeMonitor_restartPending : (closeMonitor s).restartPending = s.restartPending := by
  simp only [closeMonitor]
  (repeat' split) <;> simp
@[simp] theorem closeMonitor_loader : (closeMonitor s).loader = s.loader := by
  simp only [closeMonitor]
  (repeat' split) <;> simp
@[simp] theorem closeMonitor_pending : (closeMonitor s).pending = s.pending := by
  simp only [closeMonitor]
  (repeat' split) <;> simp

/-! ### beginClose -/

@[simp] theorem beginClose_link : (beginClose s).link = s.link := by simp [beginClose]
@[simp] theorem beginClose_roster : (beginClose s).roster = s.roster := by simp [beginClose]
@[simp] theorem beginClose_table : (beginClose s).table = s.table := by simp [beginClose]
@[simp] theorem beginClose_recon : (beginClose s).recon = s.recon := by simp [beginClose]
@[simp] theorem beginClose_relay : (beginClose s).relay = s.relay := by simp [beginClose]
@[simp] theorem beginClose_alert : (beginClose s).alert = s.alert := by simp [beginClose]
@[simp] theorem beginClose_records : (beginClose s).records = s.records := by simp [beginClose]
@[simp] theorem beginClose_restartPending : (beginClose s).restartPending = s.restartPending := by simp [beginClose]
@[simp] theorem beginClose_loader : (beginClose s).loader = s.loader := by simp [beginClose]
@[simp] theorem beginClose_pending : (beginClose s).pending = s.pending := by simp [beginClose]

@[simp] theorem beginClose_closeInHand :
    (beginClose s).closeInHand = some ⟨.figures, s.recon.tenants.map Tenant.id⟩ := rfl

/-! ### endClose -/

@[simp] theorem endClose_meter : (endClose s).meter = s.meter := by simp [endClose]
@[simp] theorem endClose_time : (endClose s).time = s.time := by simp [endClose]
@[simp] theorem endClose_monitor : (endClose s).monitor = s.monitor := by simp [endClose]
@[simp] theorem endClose_roster : (endClose s).roster = s.roster := by simp [endClose]
@[simp] theorem endClose_table : (endClose s).table = s.table := by simp [endClose]
@[simp] theorem endClose_relay : (endClose s).relay = s.relay := by simp [endClose]
@[simp] theorem endClose_records : (endClose s).records = s.records := by simp [endClose]
@[simp] theorem endClose_restartPending : (endClose s).restartPending = s.restartPending := by simp [endClose]
@[simp] theorem endClose_loader : (endClose s).loader = s.loader := by simp [endClose]
@[simp] theorem endClose_pending : (endClose s).pending = s.pending := by simp [endClose]

@[simp] theorem endClose_closeInHand : (endClose s).closeInHand = none := rfl

/-! ### workOn -/

@[simp] theorem workOn_meter : (workOn s).meter = s.meter := by unfold workOn; (repeat' split) <;> simp
@[simp] theorem workOn_time : (workOn s).time = s.time := by unfold workOn; (repeat' split) <;> simp
@[simp] theorem workOn_monitor : (workOn s).monitor = s.monitor := by unfold workOn; (repeat' split) <;> simp
@[simp] theorem workOn_roster : (workOn s).roster = s.roster := by unfold workOn; (repeat' split) <;> simp
@[simp] theorem workOn_table : (workOn s).table = s.table := by unfold workOn; (repeat' split) <;> simp
@[simp] theorem workOn_restartPending : (workOn s).restartPending = s.restartPending := by unfold workOn; (repeat' split) <;> simp
@[simp] theorem workOn_loader : (workOn s).loader = s.loader := by unfold workOn; (repeat' split) <;> simp
@[simp] theorem workOn_pending : (workOn s).pending = s.pending := by unfold workOn; (repeat' split) <;> simp

/-! ### finishTenant -/

@[simp] theorem finishTenant_meter (w : CloseStage) (id : Nat) : (finishTenant w id s).meter = s.meter := by unfold finishTenant; (repeat' split) <;> simp
@[simp] theorem finishTenant_time (w : CloseStage) (id : Nat) : (finishTenant w id s).time = s.time := by unfold finishTenant; (repeat' split) <;> simp
@[simp] theorem finishTenant_link (w : CloseStage) (id : Nat) : (finishTenant w id s).link = s.link := by unfold finishTenant; (repeat' split) <;> simp
@[simp] theorem finishTenant_monitor (w : CloseStage) (id : Nat) : (finishTenant w id s).monitor = s.monitor := by unfold finishTenant; (repeat' split) <;> simp
@[simp] theorem finishTenant_roster (w : CloseStage) (id : Nat) : (finishTenant w id s).roster = s.roster := by unfold finishTenant; (repeat' split) <;> simp
@[simp] theorem finishTenant_table (w : CloseStage) (id : Nat) : (finishTenant w id s).table = s.table := by unfold finishTenant; (repeat' split) <;> simp
@[simp] theorem finishTenant_closeInHand (w : CloseStage) (id : Nat) : (finishTenant w id s).closeInHand = s.closeInHand := by unfold finishTenant; (repeat' split) <;> simp
@[simp] theorem finishTenant_restartPending (w : CloseStage) (id : Nat) : (finishTenant w id s).restartPending = s.restartPending := by unfold finishTenant; (repeat' split) <;> simp
@[simp] theorem finishTenant_loader (w : CloseStage) (id : Nat) : (finishTenant w id s).loader = s.loader := by unfold finishTenant; (repeat' split) <;> simp
@[simp] theorem finishTenant_pending (w : CloseStage) (id : Nat) : (finishTenant w id s).pending = s.pending := by unfold finishTenant; (repeat' split) <;> simp

/-! ### finishClose -/

@[simp] theorem finishClose_meter : (finishClose s).meter = s.meter := by
  unfold finishClose
  split <;> simp [foldl_keeps State.meter closeTenant (by simp)]
@[simp] theorem finishClose_time : (finishClose s).time = s.time := by
  unfold finishClose
  split <;> simp [foldl_keeps State.time closeTenant (by simp)]
@[simp] theorem finishClose_monitor : (finishClose s).monitor = s.monitor := by
  unfold finishClose
  split <;> simp [foldl_keeps State.monitor closeTenant (by simp)]
@[simp] theorem finishClose_roster : (finishClose s).roster = s.roster := by
  unfold finishClose
  split <;> simp [foldl_keeps State.roster closeTenant (by simp)]
@[simp] theorem finishClose_table : (finishClose s).table = s.table := by
  unfold finishClose
  split <;> simp [foldl_keeps State.table closeTenant (by simp)]
@[simp] theorem finishClose_restartPending : (finishClose s).restartPending = s.restartPending := by
  unfold finishClose
  split <;> simp [foldl_keeps State.restartPending closeTenant (by simp)]
@[simp] theorem finishClose_loader : (finishClose s).loader = s.loader := by
  unfold finishClose
  split <;> simp [foldl_keeps State.loader closeTenant (by simp)]
@[simp] theorem finishClose_pending : (finishClose s).pending = s.pending := by
  unfold finishClose
  split <;> simp [foldl_keeps State.pending closeTenant (by simp)]

@[simp] theorem finishClose_closeInHand : (finishClose s).closeInHand = none := by
  unfold finishClose; split <;> simp [*]

/-! ### closePeriod -/

@[simp] theorem closePeriod_roster : (closePeriod s).roster = s.roster := by simp [closePeriod]
@[simp] theorem closePeriod_table : (closePeriod s).table = s.table := by simp [closePeriod]
@[simp] theorem closePeriod_restartPending : (closePeriod s).restartPending = s.restartPending := by simp [closePeriod]
@[simp] theorem closePeriod_loader : (closePeriod s).loader = s.loader := by simp [closePeriod]
@[simp] theorem closePeriod_pending : (closePeriod s).pending = s.pending := by simp [closePeriod]

@[simp] theorem closePeriod_closeInHand : (closePeriod s).closeInHand = none := by simp [closePeriod]

end Sys2Proof.Machine
end

