-- ==== Sys2Proof/Laws/GatewayFrames.lean ====
section
/-! SUPPORT. Frames: the blocks that the gateway commands leave as they were. -/

namespace Sys2Proof.Machine

variable (s : State)

/-! ### respond -/

@[simp] theorem respond_meter (c : Byte) (r : Result) (d : List Byte) : (respond c r d s).meter = s.meter := by unfold respond; (repeat' split) <;> simp
@[simp] theorem respond_time (c : Byte) (r : Result) (d : List Byte) : (respond c r d s).time = s.time := by unfold respond; (repeat' split) <;> simp
@[simp] theorem respond_monitor (c : Byte) (r : Result) (d : List Byte) : (respond c r d s).monitor = s.monitor := by unfold respond; (repeat' split) <;> simp
@[simp] theorem respond_roster (c : Byte) (r : Result) (d : List Byte) : (respond c r d s).roster = s.roster := by unfold respond; (repeat' split) <;> simp
@[simp] theorem respond_table (c : Byte) (r : Result) (d : List Byte) : (respond c r d s).table = s.table := by unfold respond; (repeat' split) <;> simp
@[simp] theorem respond_recon (c : Byte) (r : Result) (d : List Byte) : (respond c r d s).recon = s.recon := by unfold respond; (repeat' split) <;> simp
@[simp] theorem respond_relay (c : Byte) (r : Result) (d : List Byte) : (respond c r d s).relay = s.relay := by unfold respond; (repeat' split) <;> simp
@[simp] theorem respond_alert (c : Byte) (r : Result) (d : List Byte) : (respond c r d s).alert = s.alert := by unfold respond; (repeat' split) <;> simp
@[simp] theorem respond_records (c : Byte) (r : Result) (d : List Byte) : (respond c r d s).records = s.records := by unfold respond; (repeat' split) <;> simp
@[simp] theorem respond_closeInHand (c : Byte) (r : Result) (d : List Byte) : (respond c r d s).closeInHand = s.closeInHand := by unfold respond; (repeat' split) <;> simp
@[simp] theorem respond_restartPending (c : Byte) (r : Result) (d : List Byte) : (respond c r d s).restartPending = s.restartPending := by unfold respond; (repeat' split) <;> simp
@[simp] theorem respond_loader (c : Byte) (r : Result) (d : List Byte) : (respond c r d s).loader = s.loader := by unfold respond; (repeat' split) <;> simp
@[simp] theorem respond_pending (c : Byte) (r : Result) (d : List Byte) : (respond c r d s).pending = s.pending := by unfold respond; (repeat' split) <;> simp

/-! ### queryStatusEffect -/

@[simp] theorem queryStatusEffect_meter (a : List Byte) : (queryStatusEffect a s).meter = s.meter := by unfold queryStatusEffect; (repeat' split) <;> simp
@[simp] theorem queryStatusEffect_time (a : List Byte) : (queryStatusEffect a s).time = s.time := by unfold queryStatusEffect; (repeat' split) <;> simp
@[simp] theorem queryStatusEffect_monitor (a : List Byte) : (queryStatusEffect a s).monitor = s.monitor := by unfold queryStatusEffect; (repeat' split) <;> simp
@[simp] theorem queryStatusEffect_roster (a : List Byte) : (queryStatusEffect a s).roster = s.roster := by unfold queryStatusEffect; (repeat' split) <;> simp
@[simp] theorem queryStatusEffect_table (a : List Byte) : (queryStatusEffect a s).table = s.table := by unfold queryStatusEffect; (repeat' split) <;> simp
@[simp] theorem queryStatusEffect_restartPending (a : List Byte) : (queryStatusEffect a s).restartPending = s.restartPending := by unfold queryStatusEffect; (repeat' split) <;> simp
@[simp] theorem queryStatusEffect_loader (a : List Byte) : (queryStatusEffect a s).loader = s.loader := by unfold queryStatusEffect; (repeat' split) <;> simp
@[simp] theorem queryStatusEffect_pending (a : List Byte) : (queryStatusEffect a s).pending = s.pending := by unfold queryStatusEffect; (repeat' split) <;> simp

/-! ### queryOutletEffect -/

@[simp] theorem queryOutletEffect_meter (a : List Byte) : (queryOutletEffect a s).meter = s.meter := by unfold queryOutletEffect; (repeat' split) <;> simp
@[simp] theorem queryOutletEffect_time (a : List Byte) : (queryOutletEffect a s).time = s.time := by unfold queryOutletEffect; (repeat' split) <;> simp
@[simp] theorem queryOutletEffect_monitor (a : List Byte) : (queryOutletEffect a s).monitor = s.monitor := by unfold queryOutletEffect; (repeat' split) <;> simp
@[simp] theorem queryOutletEffect_roster (a : List Byte) : (queryOutletEffect a s).roster = s.roster := by unfold queryOutletEffect; (repeat' split) <;> simp
@[simp] theorem queryOutletEffect_table (a : List Byte) : (queryOutletEffect a s).table = s.table := by unfold queryOutletEffect; (repeat' split) <;> simp
@[simp] theorem queryOutletEffect_restartPending (a : List Byte) : (queryOutletEffect a s).restartPending = s.restartPending := by unfold queryOutletEffect; (repeat' split) <;> simp
@[simp] theorem queryOutletEffect_loader (a : List Byte) : (queryOutletEffect a s).loader = s.loader := by unfold queryOutletEffect; (repeat' split) <;> simp
@[simp] theorem queryOutletEffect_pending (a : List Byte) : (queryOutletEffect a s).pending = s.pending := by unfold queryOutletEffect; (repeat' split) <;> simp

/-! ### lockOffEffect -/

@[simp] theorem lockOffEffect_meter (a : List Byte) : (lockOffEffect a s).meter = s.meter := by unfold lockOffEffect; (repeat' split) <;> simp
@[simp] theorem lockOffEffect_time (a : List Byte) : (lockOffEffect a s).time = s.time := by unfold lockOffEffect; (repeat' split) <;> simp
@[simp] theorem lockOffEffect_monitor (a : List Byte) : (lockOffEffect a s).monitor = s.monitor := by unfold lockOffEffect; (repeat' split) <;> simp
@[simp] theorem lockOffEffect_roster (a : List Byte) : (lockOffEffect a s).roster = s.roster := by unfold lockOffEffect; (repeat' split) <;> simp
@[simp] theorem lockOffEffect_table (a : List Byte) : (lockOffEffect a s).table = s.table := by unfold lockOffEffect; (repeat' split) <;> simp
@[simp] theorem lockOffEffect_restartPending (a : List Byte) : (lockOffEffect a s).restartPending = s.restartPending := by unfold lockOffEffect; (repeat' split) <;> simp
@[simp] theorem lockOffEffect_loader (a : List Byte) : (lockOffEffect a s).loader = s.loader := by unfold lockOffEffect; (repeat' split) <;> simp
@[simp] theorem lockOffEffect_pending (a : List Byte) : (lockOffEffect a s).pending = s.pending := by unfold lockOffEffect; (repeat' split) <;> simp

/-! ### unlockEffect -/

@[simp] theorem unlockEffect_meter (a : List Byte) : (unlockEffect a s).meter = s.meter := by unfold unlockEffect; (repeat' split) <;> simp
@[simp] theorem unlockEffect_time (a : List Byte) : (unlockEffect a s).time = s.time := by unfold unlockEffect; (repeat' split) <;> simp
@[simp] theorem unlockEffect_monitor (a : List Byte) : (unlockEffect a s).monitor = s.monitor := by unfold unlockEffect; (repeat' split) <;> simp
@[simp] theorem unlockEffect_roster (a : List Byte) : (unlockEffect a s).roster = s.roster := by unfold unlockEffect; (repeat' split) <;> simp
@[simp] theorem unlockEffect_table (a : List Byte) : (unlockEffect a s).table = s.table := by unfold unlockEffect; (repeat' split) <;> simp
@[simp] theorem unlockEffect_restartPending (a : List Byte) : (unlockEffect a s).restartPending = s.restartPending := by unfold unlockEffect; (repeat' split) <;> simp
@[simp] theorem unlockEffect_loader (a : List Byte) : (unlockEffect a s).loader = s.loader := by unfold unlockEffect; (repeat' split) <;> simp
@[simp] theorem unlockEffect_pending (a : List Byte) : (unlockEffect a s).pending = s.pending := by unfold unlockEffect; (repeat' split) <;> simp

/-! ### clearFaultEffect -/

@[simp] theorem clearFaultEffect_meter (a : List Byte) : (clearFaultEffect a s).meter = s.meter := by unfold clearFaultEffect; (repeat' split) <;> simp
@[simp] theorem clearFaultEffect_time (a : List Byte) : (clearFaultEffect a s).time = s.time := by unfold clearFaultEffect; (repeat' split) <;> simp
@[simp] theorem clearFaultEffect_monitor (a : List Byte) : (clearFaultEffect a s).monitor = s.monitor := by unfold clearFaultEffect; (repeat' split) <;> simp
@[simp] theorem clearFaultEffect_roster (a : List Byte) : (clearFaultEffect a s).roster = s.roster := by unfold clearFaultEffect; (repeat' split) <;> simp
@[simp] theorem clearFaultEffect_table (a : List Byte) : (clearFaultEffect a s).table = s.table := by unfold clearFaultEffect; (repeat' split) <;> simp
@[simp] theorem clearFaultEffect_restartPending (a : List Byte) : (clearFaultEffect a s).restartPending = s.restartPending := by unfold clearFaultEffect; (repeat' split) <;> simp
@[simp] theorem clearFaultEffect_loader (a : List Byte) : (clearFaultEffect a s).loader = s.loader := by unfold clearFaultEffect; (repeat' split) <;> simp
@[simp] theorem clearFaultEffect_pending (a : List Byte) : (clearFaultEffect a s).pending = s.pending := by unfold clearFaultEffect; (repeat' split) <;> simp

/-! ### ackEventsEffect -/

@[simp] theorem ackEventsEffect_meter (a : List Byte) : (ackEventsEffect a s).meter = s.meter := by unfold ackEventsEffect; (repeat' split) <;> simp
@[simp] theorem ackEventsEffect_time (a : List Byte) : (ackEventsEffect a s).time = s.time := by unfold ackEventsEffect; (repeat' split) <;> simp
@[simp] theorem ackEventsEffect_monitor (a : List Byte) : (ackEventsEffect a s).monitor = s.monitor := by unfold ackEventsEffect; (repeat' split) <;> simp
@[simp] theorem ackEventsEffect_roster (a : List Byte) : (ackEventsEffect a s).roster = s.roster := by unfold ackEventsEffect; (repeat' split) <;> simp
@[simp] theorem ackEventsEffect_table (a : List Byte) : (ackEventsEffect a s).table = s.table := by unfold ackEventsEffect; (repeat' split) <;> simp
@[simp] theorem ackEventsEffect_recon (a : List Byte) : (ackEventsEffect a s).recon = s.recon := by unfold ackEventsEffect; (repeat' split) <;> simp
@[simp] theorem ackEventsEffect_relay (a : List Byte) : (ackEventsEffect a s).relay = s.relay := by unfold ackEventsEffect; (repeat' split) <;> simp
@[simp] theorem ackEventsEffect_records (a : List Byte) : (ackEventsEffect a s).records = s.records := by unfold ackEventsEffect; (repeat' split) <;> simp
@[simp] theorem ackEventsEffect_closeInHand (a : List Byte) : (ackEventsEffect a s).closeInHand = s.closeInHand := by unfold ackEventsEffect; (repeat' split) <;> simp
@[simp] theorem ackEventsEffect_restartPending (a : List Byte) : (ackEventsEffect a s).restartPending = s.restartPending := by unfold ackEventsEffect; (repeat' split) <;> simp
@[simp] theorem ackEventsEffect_loader (a : List Byte) : (ackEventsEffect a s).loader = s.loader := by unfold ackEventsEffect; (repeat' split) <;> simp
@[simp] theorem ackEventsEffect_pending (a : List Byte) : (ackEventsEffect a s).pending = s.pending := by unfold ackEventsEffect; (repeat' split) <;> simp

/-! ### startGap -/

@[simp] theorem startGap_meter : (startGap s).meter = s.meter := by simp [startGap]
@[simp] theorem startGap_time : (startGap s).time = s.time := by simp [startGap]
@[simp] theorem startGap_link : (startGap s).link = s.link := by simp [startGap]
@[simp] theorem startGap_monitor : (startGap s).monitor = s.monitor := by simp [startGap]
@[simp] theorem startGap_roster : (startGap s).roster = s.roster := by simp [startGap]
@[simp] theorem startGap_table : (startGap s).table = s.table := by simp [startGap]
@[simp] theorem startGap_recon : (startGap s).recon = s.recon := by simp [startGap]
@[simp] theorem startGap_relay : (startGap s).relay = s.relay := by simp [startGap]
@[simp] theorem startGap_records : (startGap s).records = s.records := by simp [startGap]
@[simp] theorem startGap_closeInHand : (startGap s).closeInHand = s.closeInHand := by simp [startGap]
@[simp] theorem startGap_restartPending : (startGap s).restartPending = s.restartPending := by simp [startGap]
@[simp] theorem startGap_loader : (startGap s).loader = s.loader := by simp [startGap]
@[simp] theorem startGap_pending : (startGap s).pending = s.pending := by simp [startGap]

/-! ### endAlertEffect -/

@[simp] theorem endAlertEffect_meter (a : List Byte) : (endAlertEffect a s).meter = s.meter := by unfold endAlertEffect; (repeat' split) <;> simp
@[simp] theorem endAlertEffect_time (a : List Byte) : (endAlertEffect a s).time = s.time := by unfold endAlertEffect; (repeat' split) <;> simp
@[simp] theorem endAlertEffect_monitor (a : List Byte) : (endAlertEffect a s).monitor = s.monitor := by unfold endAlertEffect; (repeat' split) <;> simp
@[simp] theorem endAlertEffect_roster (a : List Byte) : (endAlertEffect a s).roster = s.roster := by unfold endAlertEffect; (repeat' split) <;> simp
@[simp] theorem endAlertEffect_table (a : List Byte) : (endAlertEffect a s).table = s.table := by unfold endAlertEffect; (repeat' split) <;> simp
@[simp] theorem endAlertEffect_recon (a : List Byte) : (endAlertEffect a s).recon = s.recon := by unfold endAlertEffect; (repeat' split) <;> simp
@[simp] theorem endAlertEffect_relay (a : List Byte) : (endAlertEffect a s).relay = s.relay := by unfold endAlertEffect; (repeat' split) <;> simp
@[simp] theorem endAlertEffect_records (a : List Byte) : (endAlertEffect a s).records = s.records := by unfold endAlertEffect; (repeat' split) <;> simp
@[simp] theorem endAlertEffect_closeInHand (a : List Byte) : (endAlertEffect a s).closeInHand = s.closeInHand := by unfold endAlertEffect; (repeat' split) <;> simp
@[simp] theorem endAlertEffect_restartPending (a : List Byte) : (endAlertEffect a s).restartPending = s.restartPending := by unfold endAlertEffect; (repeat' split) <;> simp
@[simp] theorem endAlertEffect_loader (a : List Byte) : (endAlertEffect a s).loader = s.loader := by unfold endAlertEffect; (repeat' split) <;> simp
@[simp] theorem endAlertEffect_pending (a : List Byte) : (endAlertEffect a s).pending = s.pending := by unfold endAlertEffect; (repeat' split) <;> simp

/-! ### fetchRecordEffect -/

@[simp] theorem fetchRecordEffect_meter (a : List Byte) : (fetchRecordEffect a s).meter = s.meter := by unfold fetchRecordEffect; (repeat' split) <;> simp
@[simp] theorem fetchRecordEffect_time (a : List Byte) : (fetchRecordEffect a s).time = s.time := by unfold fetchRecordEffect; (repeat' split) <;> simp
@[simp] theorem fetchRecordEffect_monitor (a : List Byte) : (fetchRecordEffect a s).monitor = s.monitor := by unfold fetchRecordEffect; (repeat' split) <;> simp
@[simp] theorem fetchRecordEffect_roster (a : List Byte) : (fetchRecordEffect a s).roster = s.roster := by unfold fetchRecordEffect; (repeat' split) <;> simp
@[simp] theorem fetchRecordEffect_table (a : List Byte) : (fetchRecordEffect a s).table = s.table := by unfold fetchRecordEffect; (repeat' split) <;> simp
@[simp] theorem fetchRecordEffect_recon (a : List Byte) : (fetchRecordEffect a s).recon = s.recon := by unfold fetchRecordEffect; (repeat' split) <;> simp
@[simp] theorem fetchRecordEffect_relay (a : List Byte) : (fetchRecordEffect a s).relay = s.relay := by unfold fetchRecordEffect; (repeat' split) <;> simp
@[simp] theorem fetchRecordEffect_alert (a : List Byte) : (fetchRecordEffect a s).alert = s.alert := by unfold fetchRecordEffect; (repeat' split) <;> simp
@[simp] theorem fetchRecordEffect_closeInHand (a : List Byte) : (fetchRecordEffect a s).closeInHand = s.closeInHand := by unfold fetchRecordEffect; (repeat' split) <;> simp
@[simp] theorem fetchRecordEffect_restartPending (a : List Byte) : (fetchRecordEffect a s).restartPending = s.restartPending := by unfold fetchRecordEffect; (repeat' split) <;> simp
@[simp] theorem fetchRecordEffect_loader (a : List Byte) : (fetchRecordEffect a s).loader = s.loader := by unfold fetchRecordEffect; (repeat' split) <;> simp
@[simp] theorem fetchRecordEffect_pending (a : List Byte) : (fetchRecordEffect a s).pending = s.pending := by unfold fetchRecordEffect; (repeat' split) <;> simp

/-! ### restartEffect -/

@[simp] theorem restartEffect_meter (a : List Byte) : (restartEffect a s).meter = s.meter := by unfold restartEffect; (repeat' split) <;> simp
@[simp] theorem restartEffect_time (a : List Byte) : (restartEffect a s).time = s.time := by unfold restartEffect; (repeat' split) <;> simp
@[simp] theorem restartEffect_monitor (a : List Byte) : (restartEffect a s).monitor = s.monitor := by unfold restartEffect; (repeat' split) <;> simp
@[simp] theorem restartEffect_roster (a : List Byte) : (restartEffect a s).roster = s.roster := by unfold restartEffect; (repeat' split) <;> simp
@[simp] theorem restartEffect_table (a : List Byte) : (restartEffect a s).table = s.table := by unfold restartEffect; (repeat' split) <;> simp
@[simp] theorem restartEffect_recon (a : List Byte) : (restartEffect a s).recon = s.recon := by unfold restartEffect; (repeat' split) <;> simp
@[simp] theorem restartEffect_relay (a : List Byte) : (restartEffect a s).relay = s.relay := by unfold restartEffect; (repeat' split) <;> simp
@[simp] theorem restartEffect_alert (a : List Byte) : (restartEffect a s).alert = s.alert := by unfold restartEffect; (repeat' split) <;> simp
@[simp] theorem restartEffect_records (a : List Byte) : (restartEffect a s).records = s.records := by unfold restartEffect; (repeat' split) <;> simp
@[simp] theorem restartEffect_closeInHand (a : List Byte) : (restartEffect a s).closeInHand = s.closeInHand := by unfold restartEffect; (repeat' split) <;> simp
@[simp] theorem restartEffect_loader (a : List Byte) : (restartEffect a s).loader = s.loader := by unfold restartEffect; (repeat' split) <;> simp
@[simp] theorem restartEffect_pending (a : List Byte) : (restartEffect a s).pending = s.pending := by unfold restartEffect; (repeat' split) <;> simp

/-! ### commandEffect -/

@[simp] theorem commandEffect_meter (c : Byte) (a : List Byte) : (commandEffect c a s).meter = s.meter := by unfold commandEffect; (repeat' split) <;> simp
@[simp] theorem commandEffect_time (c : Byte) (a : List Byte) : (commandEffect c a s).time = s.time := by unfold commandEffect; (repeat' split) <;> simp
@[simp] theorem commandEffect_monitor (c : Byte) (a : List Byte) : (commandEffect c a s).monitor = s.monitor := by unfold commandEffect; (repeat' split) <;> simp
@[simp] theorem commandEffect_roster (c : Byte) (a : List Byte) : (commandEffect c a s).roster = s.roster := by unfold commandEffect; (repeat' split) <;> simp
@[simp] theorem commandEffect_table (c : Byte) (a : List Byte) : (commandEffect c a s).table = s.table := by unfold commandEffect; (repeat' split) <;> simp
@[simp] theorem commandEffect_loader (c : Byte) (a : List Byte) : (commandEffect c a s).loader = s.loader := by unfold commandEffect; (repeat' split) <;> simp
@[simp] theorem commandEffect_pending (c : Byte) (a : List Byte) : (commandEffect c a s).pending = s.pending := by unfold commandEffect; (repeat' split) <;> simp

/-! ### endGap -/

@[simp] theorem endGap_meter : (endGap s).meter = s.meter := by simp [endGap]
@[simp] theorem endGap_time : (endGap s).time = s.time := by simp [endGap]
@[simp] theorem endGap_link : (endGap s).link = s.link := by simp [endGap]
@[simp] theorem endGap_monitor : (endGap s).monitor = s.monitor := by simp [endGap]
@[simp] theorem endGap_roster : (endGap s).roster = s.roster := by simp [endGap]
@[simp] theorem endGap_table : (endGap s).table = s.table := by simp [endGap]
@[simp] theorem endGap_recon : (endGap s).recon = s.recon := by simp [endGap]
@[simp] theorem endGap_relay : (endGap s).relay = s.relay := by simp [endGap]
@[simp] theorem endGap_records : (endGap s).records = s.records := by simp [endGap]
@[simp] theorem endGap_closeInHand : (endGap s).closeInHand = s.closeInHand := by simp [endGap]
@[simp] theorem endGap_restartPending : (endGap s).restartPending = s.restartPending := by simp [endGap]
@[simp] theorem endGap_loader : (endGap s).loader = s.loader := by simp [endGap]
@[simp] theorem endGap_pending : (endGap s).pending = s.pending := by simp [endGap]

end Sys2Proof.Machine
end

