-- ==== Sys2Proof/Laws/Ops.lean ====
section
/-! SUPPORT. For each shared operation, once, all it can do: events and records, outlets and tenants, the coil, the
link state, the answer to a command. Later proofs cite these lemmas instead of unfolding the operations. -/

namespace Sys2Proof.Machine

/-! ## Events and records -/

/-- An event sets its latch and no other, and takes the drive afresh (R147, R150). -/
theorem raise_eq (k : EventKind) (s : State) :
    raise k s = { s with alert := { s.alert with
      latches := s.alert.latches ||| k.bit
      low := s.alert.gap.isNone && (decide ((s.alert.latches ||| k.bit) &&& ~~~s.alert.mask ≠ 0) ||
        (s.alert.latches ||| k.bit).getLsbD 15) } } := rfl

/-- The latches after an event (R147). -/
@[simp] theorem raise_latches (k : EventKind) (s : State) :
    (raise k s).alert.latches = s.alert.latches ||| k.bit := rfl

/-- An event leaves the mask (R149). -/
@[simp] theorem raise_mask (k : EventKind) (s : State) : (raise k s).alert.mask = s.alert.mask := rfl

/-- An event leaves the end-alert gap (R147). -/
@[simp] theorem raise_gap (k : EventKind) (s : State) : (raise k s).alert.gap = s.alert.gap := rfl

/-- The number of an event kind is below 16. -/
theorem EventKind.number_lt (k : EventKind) : k.number < 16 := by cases k <;> decide

/-- Two event kinds with one number are one kind. -/
theorem EventKind.number_inj {j k : EventKind} (h : j.number = k.number) : j = k := by
  cases j <;> cases k <;> first | rfl | simp [EventKind.number] at h

/-- A latch after an event: the kind's own is set, every other is as it was (R147). -/
@[simp] theorem latched_raise (k j : EventKind) (s : State) :
    latched (raise k s) j = (latched s j || decide (j = k)) := by
  have h := EventKind.number_lt j
  simp only [latched, raise_latches, EventKind.bit, BitVec.getLsbD_or, BitVec.getLsbD_twoPow]
  congr 1
  by_cases e : j = k
  · subst e; simp [h]
  · have : k.number ≠ j.number := fun x => e (EventKind.number_inj x).symm
    simp [e, this]

/-- A record appended to a queue with room joins at the tail (R156). -/
theorem appendRecord_room (r : ExcursionRecord) (s : State) (h : s.records.length < 16) :
    appendRecord r s = { s with records := s.records ++ [r] } := by
  simp [appendRecord, Config.recordLimit, h, State.withRecords]

/-- A record appended to a full queue is discarded with RECORD_LOST (R156). -/
theorem appendRecord_full (r : ExcursionRecord) (s : State) (h : 16 ≤ s.records.length) :
    appendRecord r s = raise .recordLost s := by
  have : ¬ s.records.length < Config.recordLimit := by simp only [Config.recordLimit]; omega
  simp [appendRecord, this]

/-! ## The close in hand -/

/-- With no close in hand there is nothing to finish. -/
@[simp] theorem finishClose_none (s : State) (h : s.closeInHand = none) : finishClose s = s := by
  simp [finishClose, h]

/-- A close in hand with no tenant left has its end left (R55, R81, R82). -/
theorem finishClose_nil (s : State) (x : CloseStage) (h : s.closeInHand = some ⟨x, []⟩) :
    finishClose s = endClose s := by simp [finishClose, h]

/-- A close in hand takes the rest of the tenant it has come to, the tenants after it, and its end (R77, R110). -/
theorem finishClose_cons (s : State) (x : CloseStage) (id : Nat) (rest : List Nat)
    (h : s.closeInHand = some ⟨x, id :: rest⟩) :
    finishClose s = endClose (rest.foldl closeTenant (finishTenant x id s)) := by simp [finishClose, h]

/-- The whole close: the counts, every tenant in table order, and the report (R8, R77, R110). -/
theorem closePeriod_eq (s : State) (h : s.closeInHand = none) :
    closePeriod s = endClose ((s.recon.tenants.map Tenant.id).foldl closeTenant (beginClose s)) := by
  simp only [closePeriod, finishClose_none s h]
  cases h2 : s.recon.tenants.map Tenant.id with
  | nil => simp [finishClose, h2]
  | cons id rest => simp [finishClose, h2, finishTenant]

/-! ## Outlets and tenants -/

/-- The switching records after a change of outlet `n`: only its own record, and only where the outlet has one. -/
theorem relayOutlet_setRelayOutlet (n m : Nat) (f : RelayOutlet → RelayOutlet) (s : State) (hn : 1 ≤ n) (hm : 1 ≤ m) :
    relayOutlet (setRelayOutlet n f s) m =
      if m = n ∧ n ≤ s.relay.outlets.length then f (relayOutlet s n) else relayOutlet s m := by
  simp only [relayOutlet, setRelayOutlet, withRelay_relay, List.getD_eq_getElem?_getD, List.getElem?_modify]
  by_cases h : m = n
  · subst h
    by_cases h2 : m ≤ s.relay.outlets.length
    · have : m - 1 < s.relay.outlets.length := by omega
      simp [h2, this]
    · have : ¬ m - 1 < s.relay.outlets.length := by omega
      simp [h2, this]
  · have : n - 1 ≠ m - 1 := by omega
    simp [h, this]

/-- The record of a tenant after a change of tenant `id`. -/
theorem findTenant_setTenant (id i : Nat) (f : Tenant → Tenant) (s : State) (hf : ∀ t, (f t).id = t.id) :
    findTenant (setTenant id f s) i = (findTenant s i).map fun t => if t.id = id then f t else t := by
  simp only [findTenant, setTenant, withRecon_recon, List.find?_map]
  congr 2
  funext t
  simp only [Function.comp]
  split <;> simp [hf]

/-! ## The coil -/

/-- A coil that is held, or a restart that is pending, or an empty queue: nothing is taken (R135, R144). -/
theorem coilTake_rest (s : State) (h : s.restartPending = true ∨ s.relay.coil ≠ none ∨ s.relay.queue = []) :
    coilTake s = s := by
  unfold coilTake
  split
  · rename_i h1 h2 h3; simp [h1, h2, h3] at h
  · rfl

/-- A free coil takes the head of the queue, whose outlet is then OPENING or CLOSING (R135). -/
theorem coilTake_head (s : State) (j : Job) (rest : List Job) (h1 : s.restartPending = false)
    (h2 : s.relay.coil = none) (h3 : s.relay.queue = j :: rest) :
    coilTake s = setRelayOutlet j.outlet (fun r => { r with relay := j.dir.working })
      (s.withRelay { s.relay with queue := rest, coil := some ⟨j, .pulse⟩ }) := by
  unfold coilTake; simp [h1, h2, h3]

/-! ## The link state -/

/-- A change of the link state: what the new state does not permit is withdrawn, and all else stays (R36). -/
theorem setLinkState_link (l : LinkState) (s : State) :
    (setLinkState l s).link =
      { (if s.link.sending.any (fun k => !permits l k) then abandonFrame s.link else s.link) with
        slot := if permits l .response then s.link.slot else none
        send := if permits l .report then s.link.send else none } := by
  by_cases h : s.link.sending.any (fun k => !permits l k) = true <;> simp [setLinkState, withdraw, h, abandonFrame]

/-- The Link Monitor after a change of the link state (R36). -/
theorem setLinkState_monitor (l : LinkState) (s : State) :
    (setLinkState l s).monitor =
      { s.monitor with link := l, check := if permits l .lineCheck then s.monitor.check else none } := rfl

/-! ## The answer to a command -/

/-- The answer fills the slot where responses are permitted, and nothing else changes (R33, R161). -/
theorem respond_permitted (c : Byte) (r : Result) (d : List Byte) (s : State)
    (h : permits s.monitor.link .response = true) :
    respond c r d s = s.withLink { s.link with slot := some ⟨c, r, d, 0⟩ } := by simp [respond, h]

/-- Where responses are not permitted the answer leaves nothing (R161). -/
theorem respond_dropped (c : Byte) (r : Result) (d : List Byte) (s : State)
    (h : permits s.monitor.link .response = false) : respond c r d s = s := by simp [respond, h]

/-- A command is executed with an EMPTY slot in a link state that takes commands, while no restart is pending (R160,
R161). -/
theorem receiveCommand_taken (arg : List Byte) (f : State → State) (s : State) (h1 : arg.length ≤ 2)
    (h2 : takesCommands s.monitor.link = true) (h3 : s.restartPending = false) (h4 : s.link.slot = none) :
    receiveCommand arg f s = f s := by simp [receiveCommand, h1, h2, h3, h4]

/-- With a FULL slot it is discarded with COMMAND_OVERRUN (R160). -/
theorem receiveCommand_overrun (arg : List Byte) (f : State → State) (s : State) (h1 : arg.length ≤ 2)
    (h2 : takesCommands s.monitor.link = true) (h3 : s.restartPending = false) (h4 : s.link.slot ≠ none) :
    receiveCommand arg f s = raise .commandOverrun s := by
  have : s.link.slot.isSome = true := by rwa [Option.isSome_iff_ne_none]
  simp [receiveCommand, h1, h2, h3, this]

/-- Elsewhere it is ignored (R159, R160, R161). -/
theorem receiveCommand_ignored (arg : List Byte) (f : State → State) (s : State)
    (h : 2 < arg.length ∨ takesCommands s.monitor.link = false ∨ s.restartPending = true) :
    receiveCommand arg f s = s := by simp [receiveCommand, h]

end Sys2Proof.Machine
end

