-- ==== Sys2Proof/Laws/CloseInHand.lean ====
section
/-! SUPPORT. No operation of a close reads what is still in hand of it: each may be taken before or after that field is
replaced. -/

namespace Sys2Proof.Machine

variable (x : Option CloseWork) (s : State)

theorem ite_inHand (c : Prop) [Decidable c] (u : State) :
    (if c then s.withCloseInHand x else u.withCloseInHand x) = (if c then s else u).withCloseInHand x := by
  split <;> rfl

@[simp] theorem raise_inHand (k : EventKind) : raise k (s.withCloseInHand x) = (raise k s).withCloseInHand x := rfl

@[simp] theorem setTenant_inHand (id : Nat) (f : Tenant → Tenant) :
    setTenant id f (s.withCloseInHand x) = (setTenant id f s).withCloseInHand x := rfl

@[simp] theorem setRelayOutlet_inHand (n : Nat) (f : RelayOutlet → RelayOutlet) :
    setRelayOutlet n f (s.withCloseInHand x) = (setRelayOutlet n f s).withCloseInHand x := rfl

@[simp] theorem withRelay_inHand (r : RelayDriver) :
    (s.withCloseInHand x).withRelay r = (s.withRelay r).withCloseInHand x := rfl

@[simp] theorem findTenant_inHand (id : Nat) : findTenant (s.withCloseInHand x) id = findTenant s id := rfl
@[simp] theorem relayOutlet_inHand (n : Nat) : relayOutlet (s.withCloseInHand x) n = relayOutlet s n := rfl
@[simp] theorem meterOutlet_inHand (n : Nat) : meterOutlet (s.withCloseInHand x) n = meterOutlet s n := rfl
@[simp] theorem shedOutlets_inHand (id : Nat) : shedOutlets (s.withCloseInHand x) id = shedOutlets s id := rfl
@[simp] theorem closeFigures_inHand (t : Tenant) : closeFigures (s.withCloseInHand x) t = closeFigures s t := rfl
@[simp] theorem tenantCase_inHand (t : Tenant) : tenantCase (s.withCloseInHand x) t = tenantCase s t := rfl
@[simp] theorem shedTaken_inHand (id n : Nat) : shedTaken (s.withCloseInHand x) id n = shedTaken s id n := rfl
@[simp] theorem powerOf_inHand (l : List Nat) : powerOf (s.withCloseInHand x) l = powerOf s l := rfl
@[simp] theorem powerAtShed_inHand (n : Nat) : powerAtShed (s.withCloseInHand x) n = powerAtShed s n := rfl
@[simp] theorem restoreCandidates_inHand (id : Nat) :
    restoreCandidates (s.withCloseInHand x) id = restoreCandidates s id := rfl
@[simp] theorem restoreAllowed_inHand (t : Tenant) (p : Nat) :
    restoreAllowed (s.withCloseInHand x) t p = restoreAllowed s t p := rfl
@[simp] theorem makeRecord_inHand (k : RecordKind) (t : Tenant) (n : Nat) (l : List Nat) :
    makeRecord (s.withCloseInHand x) k t n l = makeRecord s k t n l := rfl

@[simp] theorem appendRecord_inHand (r : ExcursionRecord) :
    appendRecord r (s.withCloseInHand x) = (appendRecord r s).withCloseInHand x := by
  by_cases h : s.records.length < Config.recordLimit
  · simp [appendRecord, h]; rfl
  · simp [appendRecord, h]

@[simp] theorem coilTake_inHand : coilTake (s.withCloseInHand x) = (coilTake s).withCloseInHand x := by
  unfold coilTake; simp only [withCloseInHand_restartPending, withCloseInHand_relay]; split <;> simp_all

@[simp] theorem queueJob_inHand (n : Nat) (d : JobDir) :
    queueJob n d (s.withCloseInHand x) = (queueJob n d s).withCloseInHand x := by
  simp [queueJob]

@[simp] theorem turnBack_inHand (n : Nat) (b : RelayState) :
    turnBack n b (s.withCloseInHand x) = (turnBack n b s).withCloseInHand x := by
  unfold turnBack; simp only [withCloseInHand_relay]; split
  · rfl
  · split <;> rfl

@[simp] theorem compareDesired_inHand (n : Nat) :
    compareDesired n (s.withCloseInHand x) = (compareDesired n s).withCloseInHand x := by
  unfold compareDesired; simp only [relayOutlet_inHand]; split <;> simp

@[simp] theorem changeFlags_inHand (n : Nat) (f : RelayOutlet → RelayOutlet) :
    changeFlags n f (s.withCloseInHand x) = (changeFlags n f s).withCloseInHand x := by
  by_cases h : (f (relayOutlet s n)).heldOff = (relayOutlet s n).heldOff <;> simp [changeFlags, h]

@[simp] theorem shedOutlet_inHand (n : Nat) :
    shedOutlet (s.withCloseInHand x) n = (shedOutlet s n).withCloseInHand x := by simp [shedOutlet]

@[simp] theorem foldl_shedOutlet_inHand (l : List Nat) :
    l.foldl shedOutlet (s.withCloseInHand x) = (l.foldl shedOutlet s).withCloseInHand x := by
  induction l generalizing s with
  | nil => rfl
  | cons n l ih => simp [ih]

@[simp] theorem shedRound_inHand (id : Nat) :
    shedRound id (s.withCloseInHand x) = (shedRound id s).withCloseInHand x := by
  unfold shedRound
  cases h : findTenant s id with
  | none => simp [h]
  | some t => simp only [findTenant_inHand, h]; split_ifs <;> simp_all

@[simp] theorem restoreOutlet_inHand (n : Nat) :
    restoreOutlet n (s.withCloseInHand x) = (restoreOutlet n s).withCloseInHand x := by simp [restoreOutlet]

@[simp] theorem restoreStep_inHand (id : Nat) :
    restoreStep id (s.withCloseInHand x) = (restoreStep id s).withCloseInHand x := by
  unfold restoreStep; simp only [findTenant_inHand, restoreCandidates_inHand]
  split
  · rename_i t n _ _ _
    by_cases h : restoreAllowed s t (powerAtShed s n) = true <;> simp [h]
  · rfl

@[simp] theorem beginExcursion_inHand (t : Tenant) :
    beginExcursion t (s.withCloseInHand x) = (beginExcursion t s).withCloseInHand x := by simp [beginExcursion]

@[simp] theorem endExcursion_inHand (t : Tenant) :
    endExcursion t (s.withCloseInHand x) = (endExcursion t s).withCloseInHand x := by simp [endExcursion]

@[simp] theorem enterCurtail_inHand (id n : Nat) :
    enterCurtail id n (s.withCloseInHand x) = (enterCurtail id n s).withCloseInHand x := by simp [enterCurtail]

@[simp] theorem runRound_inHand (id : Nat) :
    runRound id (s.withCloseInHand x) = (runRound id s).withCloseInHand x := by simp [runRound]

@[simp] theorem attemptRestore_inHand (id : Nat) :
    attemptRestore id (s.withCloseInHand x) = (attemptRestore id s).withCloseInHand x := by simp [attemptRestore]

@[simp] theorem applyStanding_inHand (c : StandingCase) (t : Tenant) :
    applyStanding c t (s.withCloseInHand x) = (applyStanding c t s).withCloseInHand x := by
  cases c <;> simp [applyStanding]

@[simp] theorem attemptsRestore_inHand (id : Nat) :
    attemptsRestore id (s.withCloseInHand x) = attemptsRestore id s := rfl

@[simp] theorem tenantFigures_inHand (id : Nat) :
    tenantFigures id (s.withCloseInHand x) = (tenantFigures id s).withCloseInHand x := by
  cases ht : findTenant s id with
  | none => simp [tenantFigures, ht]
  | some t =>
    simp only [tenantFigures, findTenant_inHand, ht]
    rw [closeFigures_inHand, setTenant_inHand, tenantCase_inHand]
    split
    · rfl
    · simp only [raise_inHand]
      rw [ite_inHand, beginExcursion_inHand, ite_inHand]

@[simp] theorem tenantStanding_inHand (id : Nat) :
    tenantStanding id (s.withCloseInHand x) = (tenantStanding id s).withCloseInHand x := by
  unfold tenantStanding; simp only [findTenant_inHand, tenantCase_inHand]
  split
  · rfl
  · split <;> simp

@[simp] theorem tenantDeparture_inHand (id : Nat) :
    tenantDeparture id (s.withCloseInHand x) = (tenantDeparture id s).withCloseInHand x := by
  unfold tenantDeparture; simp only [findTenant_inHand, shedOutlets_inHand]
  split
  · rfl
  · by_cases h : shedOutlets s id = [] <;> simp [h]

@[simp] theorem evaluateTenant_inHand (id : Nat) :
    evaluateTenant id (s.withCloseInHand x) = (evaluateTenant id s).withCloseInHand x := by
  unfold evaluateTenant; split <;> simp_all

@[simp] theorem closeTenant_inHand (id : Nat) :
    closeTenant (s.withCloseInHand x) id = (closeTenant s id).withCloseInHand x := by simp [closeTenant]

@[simp] theorem foldl_closeTenant_inHand (l : List Nat) :
    l.foldl closeTenant (s.withCloseInHand x) = (l.foldl closeTenant s).withCloseInHand x := by
  induction l generalizing s with
  | nil => rfl
  | cons n l ih => simp [ih]

theorem publishReport_inHand : publishReport (s.withCloseInHand x) = (publishReport s).withCloseInHand x := by
  cases h : s.link.readyNew <;> cases h2 : s.monitor.link <;> simp [publishReport, h, h2] <;> rfl

theorem endWarmupClose_inHand : endWarmupClose (s.withCloseInHand x) = (endWarmupClose s).withCloseInHand x := by
  unfold endWarmupClose; rw [show closePhase (s.withCloseInHand x) = closePhase s from rfl]; split <;> rfl

@[simp] theorem endClose_inHand : endClose (s.withCloseInHand x) = endClose s := by
  simp only [endClose, endWarmupClose_inHand]
  rw [publishReport_inHand]; rfl

end Sys2Proof.Machine
end

