-- ==== Sys2Proof/Laws/LinkFrames.lean ====
section
/-! SUPPORT. Frames: the blocks that the Link Transceiver and the Link Monitor leave as they were. -/

namespace Sys2Proof.Machine

variable (s : State)

/-! ### adoptRate -/

@[simp] theorem adoptRate_meter : (adoptRate s).meter = s.meter := by simp [adoptRate]
@[simp] theorem adoptRate_time : (adoptRate s).time = s.time := by simp [adoptRate]
@[simp] theorem adoptRate_roster : (adoptRate s).roster = s.roster := by simp [adoptRate]
@[simp] theorem adoptRate_table : (adoptRate s).table = s.table := by simp [adoptRate]
@[simp] theorem adoptRate_recon : (adoptRate s).recon = s.recon := by simp [adoptRate]
@[simp] theorem adoptRate_relay : (adoptRate s).relay = s.relay := by simp [adoptRate]
@[simp] theorem adoptRate_alert : (adoptRate s).alert = s.alert := by simp [adoptRate]
@[simp] theorem adoptRate_records : (adoptRate s).records = s.records := by simp [adoptRate]
@[simp] theorem adoptRate_closeInHand : (adoptRate s).closeInHand = s.closeInHand := by simp [adoptRate]
@[simp] theorem adoptRate_restartPending : (adoptRate s).restartPending = s.restartPending := by simp [adoptRate]
@[simp] theorem adoptRate_loader : (adoptRate s).loader = s.loader := by simp [adoptRate]
@[simp] theorem adoptRate_pending : (adoptRate s).pending = s.pending := by simp [adoptRate]

/-! ### deliverReport -/

@[simp] theorem deliverReport_meter (n : Nat) (p : List Byte) : (deliverReport n p s).meter = s.meter := by unfold deliverReport; (repeat' split) <;> simp
@[simp] theorem deliverReport_time (n : Nat) (p : List Byte) : (deliverReport n p s).time = s.time := by unfold deliverReport; (repeat' split) <;> simp
@[simp] theorem deliverReport_relay (n : Nat) (p : List Byte) : (deliverReport n p s).relay = s.relay := by unfold deliverReport; (repeat' split) <;> simp
@[simp] theorem deliverReport_records (n : Nat) (p : List Byte) : (deliverReport n p s).records = s.records := by unfold deliverReport; (repeat' split) <;> simp
@[simp] theorem deliverReport_closeInHand (n : Nat) (p : List Byte) : (deliverReport n p s).closeInHand = s.closeInHand := by unfold deliverReport; (repeat' split) <;> simp
@[simp] theorem deliverReport_restartPending (n : Nat) (p : List Byte) : (deliverReport n p s).restartPending = s.restartPending := by unfold deliverReport; (repeat' split) <;> simp
@[simp] theorem deliverReport_loader (n : Nat) (p : List Byte) : (deliverReport n p s).loader = s.loader := by unfold deliverReport; (repeat' split) <;> simp
@[simp] theorem deliverReport_pending (n : Nat) (p : List Byte) : (deliverReport n p s).pending = s.pending := by unfold deliverReport; (repeat' split) <;> simp

/-! ### receiveEffect -/

@[simp] theorem receiveEffect_meter (c : Byte) (a : List Byte) : (receiveCommand a (commandEffect c a) s).meter = s.meter := by
  unfold receiveCommand
  (repeat' split) <;> simp
@[simp] theorem receiveEffect_time (c : Byte) (a : List Byte) : (receiveCommand a (commandEffect c a) s).time = s.time := by
  unfold receiveCommand
  (repeat' split) <;> simp
@[simp] theorem receiveEffect_monitor (c : Byte) (a : List Byte) : (receiveCommand a (commandEffect c a) s).monitor = s.monitor := by
  unfold receiveCommand
  (repeat' split) <;> simp
@[simp] theorem receiveEffect_roster (c : Byte) (a : List Byte) : (receiveCommand a (commandEffect c a) s).roster = s.roster := by
  unfold receiveCommand
  (repeat' split) <;> simp
@[simp] theorem receiveEffect_table (c : Byte) (a : List Byte) : (receiveCommand a (commandEffect c a) s).table = s.table := by
  unfold receiveCommand
  (repeat' split) <;> simp
@[simp] theorem receiveEffect_loader (c : Byte) (a : List Byte) : (receiveCommand a (commandEffect c a) s).loader = s.loader := by
  unfold receiveCommand
  (repeat' split) <;> simp
@[simp] theorem receiveEffect_pending (c : Byte) (a : List Byte) : (receiveCommand a (commandEffect c a) s).pending = s.pending := by
  unfold receiveCommand
  (repeat' split) <;> simp

/-! ### deliverCommand -/

@[simp] theorem deliverCommand_meter (n : Nat) (p : List Byte) : (deliverCommand n p s).meter = s.meter := by unfold deliverCommand; (repeat' split) <;> simp
@[simp] theorem deliverCommand_time (n : Nat) (p : List Byte) : (deliverCommand n p s).time = s.time := by unfold deliverCommand; (repeat' split) <;> simp
@[simp] theorem deliverCommand_monitor (n : Nat) (p : List Byte) : (deliverCommand n p s).monitor = s.monitor := by unfold deliverCommand; (repeat' split) <;> simp
@[simp] theorem deliverCommand_roster (n : Nat) (p : List Byte) : (deliverCommand n p s).roster = s.roster := by unfold deliverCommand; (repeat' split) <;> simp
@[simp] theorem deliverCommand_table (n : Nat) (p : List Byte) : (deliverCommand n p s).table = s.table := by unfold deliverCommand; (repeat' split) <;> simp
@[simp] theorem deliverCommand_loader (n : Nat) (p : List Byte) : (deliverCommand n p s).loader = s.loader := by unfold deliverCommand; (repeat' split) <;> simp
@[simp] theorem deliverCommand_pending (n : Nat) (p : List Byte) : (deliverCommand n p s).pending = s.pending := by unfold deliverCommand; (repeat' split) <;> simp

/-! ### hearFrame -/

@[simp] theorem hearFrame_meter : (hearFrame s).meter = s.meter := by simp [hearFrame]
@[simp] theorem hearFrame_time : (hearFrame s).time = s.time := by simp [hearFrame]
@[simp] theorem hearFrame_link : (hearFrame s).link = s.link := by simp [hearFrame]
@[simp] theorem hearFrame_roster : (hearFrame s).roster = s.roster := by simp [hearFrame]
@[simp] theorem hearFrame_table : (hearFrame s).table = s.table := by simp [hearFrame]
@[simp] theorem hearFrame_recon : (hearFrame s).recon = s.recon := by simp [hearFrame]
@[simp] theorem hearFrame_relay : (hearFrame s).relay = s.relay := by simp [hearFrame]
@[simp] theorem hearFrame_alert : (hearFrame s).alert = s.alert := by simp [hearFrame]
@[simp] theorem hearFrame_records : (hearFrame s).records = s.records := by simp [hearFrame]
@[simp] theorem hearFrame_closeInHand : (hearFrame s).closeInHand = s.closeInHand := by simp [hearFrame]
@[simp] theorem hearFrame_restartPending : (hearFrame s).restartPending = s.restartPending := by simp [hearFrame]
@[simp] theorem hearFrame_loader : (hearFrame s).loader = s.loader := by simp [hearFrame]
@[simp] theorem hearFrame_pending : (hearFrame s).pending = s.pending := by simp [hearFrame]

/-! ### deliverByKind -/

@[simp] theorem deliverByKind_meter (b : List Byte) : (deliverByKind b s).meter = s.meter := by unfold deliverByKind; (repeat' split) <;> simp
@[simp] theorem deliverByKind_time (b : List Byte) : (deliverByKind b s).time = s.time := by unfold deliverByKind; (repeat' split) <;> simp
@[simp] theorem deliverByKind_loader (b : List Byte) : (deliverByKind b s).loader = s.loader := by unfold deliverByKind; (repeat' split) <;> simp
@[simp] theorem deliverByKind_pending (b : List Byte) : (deliverByKind b s).pending = s.pending := by unfold deliverByKind; (repeat' split) <;> simp

/-! ### settleForReport -/

@[simp] theorem settleForReport_meter (b : List Byte) : (settleForReport b s).meter = s.meter := by unfold settleForReport; split <;> simp
@[simp] theorem settleForReport_time (b : List Byte) : (settleForReport b s).time = s.time := by unfold settleForReport; split <;> simp
@[simp] theorem settleForReport_restartPending (b : List Byte) : (settleForReport b s).restartPending = s.restartPending := by unfold settleForReport; split <;> simp
@[simp] theorem settleForReport_loader (b : List Byte) : (settleForReport b s).loader = s.loader := by unfold settleForReport; split <;> simp
@[simp] theorem settleForReport_pending (b : List Byte) : (settleForReport b s).pending = s.pending := by unfold settleForReport; split <;> simp

/-! ### deliverFrame -/

@[simp] theorem deliverFrame_meter (b : List Byte) : (deliverFrame b s).meter = s.meter := by simp only [deliverFrame]; split <;> simp
@[simp] theorem deliverFrame_time (b : List Byte) : (deliverFrame b s).time = s.time := by simp only [deliverFrame]; split <;> simp
@[simp] theorem deliverFrame_loader (b : List Byte) : (deliverFrame b s).loader = s.loader := by simp only [deliverFrame]; split <;> simp
@[simp] theorem deliverFrame_pending (b : List Byte) : (deliverFrame b s).pending = s.pending := by simp only [deliverFrame]; split <;> simp

/-! ### completeFrame -/

@[simp] theorem completeFrame_meter : (completeFrame s).meter = s.meter := by
  simp only [completeFrame]
  (repeat' split) <;> simp
@[simp] theorem completeFrame_time : (completeFrame s).time = s.time := by
  simp only [completeFrame]
  (repeat' split) <;> simp
@[simp] theorem completeFrame_loader : (completeFrame s).loader = s.loader := by
  simp only [completeFrame]
  (repeat' split) <;> simp
@[simp] theorem completeFrame_pending : (completeFrame s).pending = s.pending := by
  simp only [completeFrame]
  (repeat' split) <;> simp

/-! ### judgeLevels -/

@[simp] theorem judgeLevels_meter (l : BitVec 11) : (judgeLevels l s).meter = s.meter := by unfold judgeLevels; (repeat' split) <;> simp
@[simp] theorem judgeLevels_time (l : BitVec 11) : (judgeLevels l s).time = s.time := by unfold judgeLevels; (repeat' split) <;> simp
@[simp] theorem judgeLevels_roster (l : BitVec 11) : (judgeLevels l s).roster = s.roster := by unfold judgeLevels; (repeat' split) <;> simp
@[simp] theorem judgeLevels_table (l : BitVec 11) : (judgeLevels l s).table = s.table := by unfold judgeLevels; (repeat' split) <;> simp
@[simp] theorem judgeLevels_recon (l : BitVec 11) : (judgeLevels l s).recon = s.recon := by unfold judgeLevels; (repeat' split) <;> simp
@[simp] theorem judgeLevels_relay (l : BitVec 11) : (judgeLevels l s).relay = s.relay := by unfold judgeLevels; (repeat' split) <;> simp
@[simp] theorem judgeLevels_alert (l : BitVec 11) : (judgeLevels l s).alert = s.alert := by unfold judgeLevels; (repeat' split) <;> simp
@[simp] theorem judgeLevels_records (l : BitVec 11) : (judgeLevels l s).records = s.records := by unfold judgeLevels; (repeat' split) <;> simp
@[simp] theorem judgeLevels_closeInHand (l : BitVec 11) : (judgeLevels l s).closeInHand = s.closeInHand := by unfold judgeLevels; (repeat' split) <;> simp
@[simp] theorem judgeLevels_restartPending (l : BitVec 11) : (judgeLevels l s).restartPending = s.restartPending := by unfold judgeLevels; (repeat' split) <;> simp
@[simp] theorem judgeLevels_loader (l : BitVec 11) : (judgeLevels l s).loader = s.loader := by unfold judgeLevels; (repeat' split) <;> simp
@[simp] theorem judgeLevels_pending (l : BitVec 11) : (judgeLevels l s).pending = s.pending := by unfold judgeLevels; (repeat' split) <;> simp

/-! ### takeLevel -/

@[simp] theorem takeLevel_meter (b : Bool) : (takeLevel b s).meter = s.meter := by simp only [takeLevel]; split <;> simp
@[simp] theorem takeLevel_time (b : Bool) : (takeLevel b s).time = s.time := by simp only [takeLevel]; split <;> simp
@[simp] theorem takeLevel_roster (b : Bool) : (takeLevel b s).roster = s.roster := by simp only [takeLevel]; split <;> simp
@[simp] theorem takeLevel_table (b : Bool) : (takeLevel b s).table = s.table := by simp only [takeLevel]; split <;> simp
@[simp] theorem takeLevel_recon (b : Bool) : (takeLevel b s).recon = s.recon := by simp only [takeLevel]; split <;> simp
@[simp] theorem takeLevel_relay (b : Bool) : (takeLevel b s).relay = s.relay := by simp only [takeLevel]; split <;> simp
@[simp] theorem takeLevel_alert (b : Bool) : (takeLevel b s).alert = s.alert := by simp only [takeLevel]; split <;> simp
@[simp] theorem takeLevel_records (b : Bool) : (takeLevel b s).records = s.records := by simp only [takeLevel]; split <;> simp
@[simp] theorem takeLevel_closeInHand (b : Bool) : (takeLevel b s).closeInHand = s.closeInHand := by simp only [takeLevel]; split <;> simp
@[simp] theorem takeLevel_restartPending (b : Bool) : (takeLevel b s).restartPending = s.restartPending := by simp only [takeLevel]; split <;> simp
@[simp] theorem takeLevel_loader (b : Bool) : (takeLevel b s).loader = s.loader := by simp only [takeLevel]; split <;> simp
@[simp] theorem takeLevel_pending (b : Bool) : (takeLevel b s).pending = s.pending := by simp only [takeLevel]; split <;> simp

/-! ### takeCharacter -/

@[simp] theorem takeCharacter_meter (l : BitVec 11) : (takeCharacter l s).meter = s.meter := by
  simp only [takeCharacter]
  (repeat' split) <;> simp
@[simp] theorem takeCharacter_time (l : BitVec 11) : (takeCharacter l s).time = s.time := by
  simp only [takeCharacter]
  (repeat' split) <;> simp
@[simp] theorem takeCharacter_loader (l : BitVec 11) : (takeCharacter l s).loader = s.loader := by
  simp only [takeCharacter]
  (repeat' split) <;> simp
@[simp] theorem takeCharacter_pending (l : BitVec 11) : (takeCharacter l s).pending = s.pending := by
  simp only [takeCharacter]
  (repeat' split) <;> simp

/-! ### quietFor -/

@[simp] theorem quietFor_meter (n : Nat) : (quietFor n s).meter = s.meter := by simp [quietFor]
@[simp] theorem quietFor_time (n : Nat) : (quietFor n s).time = s.time := by simp [quietFor]
@[simp] theorem quietFor_monitor (n : Nat) : (quietFor n s).monitor = s.monitor := by simp [quietFor]
@[simp] theorem quietFor_roster (n : Nat) : (quietFor n s).roster = s.roster := by simp [quietFor]
@[simp] theorem quietFor_table (n : Nat) : (quietFor n s).table = s.table := by simp [quietFor]
@[simp] theorem quietFor_recon (n : Nat) : (quietFor n s).recon = s.recon := by simp [quietFor]
@[simp] theorem quietFor_relay (n : Nat) : (quietFor n s).relay = s.relay := by simp [quietFor]
@[simp] theorem quietFor_alert (n : Nat) : (quietFor n s).alert = s.alert := by simp [quietFor]
@[simp] theorem quietFor_records (n : Nat) : (quietFor n s).records = s.records := by simp [quietFor]
@[simp] theorem quietFor_closeInHand (n : Nat) : (quietFor n s).closeInHand = s.closeInHand := by simp [quietFor]
@[simp] theorem quietFor_restartPending (n : Nat) : (quietFor n s).restartPending = s.restartPending := by simp [quietFor]
@[simp] theorem quietFor_loader (n : Nat) : (quietFor n s).loader = s.loader := by simp [quietFor]
@[simp] theorem quietFor_pending (n : Nat) : (quietFor n s).pending = s.pending := by simp [quietFor]

/-! ### restBit -/

@[simp] theorem restBit_meter : (restBit s).meter = s.meter := by unfold restBit; split <;> simp
@[simp] theorem restBit_time : (restBit s).time = s.time := by unfold restBit; split <;> simp
@[simp] theorem restBit_roster : (restBit s).roster = s.roster := by unfold restBit; split <;> simp
@[simp] theorem restBit_table : (restBit s).table = s.table := by unfold restBit; split <;> simp
@[simp] theorem restBit_recon : (restBit s).recon = s.recon := by unfold restBit; split <;> simp
@[simp] theorem restBit_relay : (restBit s).relay = s.relay := by unfold restBit; split <;> simp
@[simp] theorem restBit_alert : (restBit s).alert = s.alert := by unfold restBit; split <;> simp
@[simp] theorem restBit_records : (restBit s).records = s.records := by unfold restBit; split <;> simp
@[simp] theorem restBit_closeInHand : (restBit s).closeInHand = s.closeInHand := by unfold restBit; split <;> simp
@[simp] theorem restBit_restartPending : (restBit s).restartPending = s.restartPending := by unfold restBit; split <;> simp
@[simp] theorem restBit_loader : (restBit s).loader = s.loader := by unfold restBit; split <;> simp
@[simp] theorem restBit_pending : (restBit s).pending = s.pending := by unfold restBit; split <;> simp

/-! ### armAssembler -/

@[simp] theorem armAssembler_meter : (armAssembler s).meter = s.meter := by unfold armAssembler; (repeat' split) <;> simp
@[simp] theorem armAssembler_time : (armAssembler s).time = s.time := by unfold armAssembler; (repeat' split) <;> simp
@[simp] theorem armAssembler_monitor : (armAssembler s).monitor = s.monitor := by unfold armAssembler; (repeat' split) <;> simp
@[simp] theorem armAssembler_roster : (armAssembler s).roster = s.roster := by unfold armAssembler; (repeat' split) <;> simp
@[simp] theorem armAssembler_table : (armAssembler s).table = s.table := by unfold armAssembler; (repeat' split) <;> simp
@[simp] theorem armAssembler_recon : (armAssembler s).recon = s.recon := by unfold armAssembler; (repeat' split) <;> simp
@[simp] theorem armAssembler_relay : (armAssembler s).relay = s.relay := by unfold armAssembler; (repeat' split) <;> simp
@[simp] theorem armAssembler_alert : (armAssembler s).alert = s.alert := by unfold armAssembler; (repeat' split) <;> simp
@[simp] theorem armAssembler_records : (armAssembler s).records = s.records := by unfold armAssembler; (repeat' split) <;> simp
@[simp] theorem armAssembler_closeInHand : (armAssembler s).closeInHand = s.closeInHand := by unfold armAssembler; (repeat' split) <;> simp
@[simp] theorem armAssembler_restartPending : (armAssembler s).restartPending = s.restartPending := by unfold armAssembler; (repeat' split) <;> simp
@[simp] theorem armAssembler_loader : (armAssembler s).loader = s.loader := by unfold armAssembler; (repeat' split) <;> simp
@[simp] theorem armAssembler_pending : (armAssembler s).pending = s.pending := by unfold armAssembler; (repeat' split) <;> simp

/-! ### beginFrame -/

@[simp] theorem beginFrame_meter (k : SendKind) : (beginFrame k s).meter = s.meter := by simp [beginFrame]
@[simp] theorem beginFrame_time (k : SendKind) : (beginFrame k s).time = s.time := by simp [beginFrame]
@[simp] theorem beginFrame_monitor (k : SendKind) : (beginFrame k s).monitor = s.monitor := by simp [beginFrame]
@[simp] theorem beginFrame_roster (k : SendKind) : (beginFrame k s).roster = s.roster := by simp [beginFrame]
@[simp] theorem beginFrame_table (k : SendKind) : (beginFrame k s).table = s.table := by simp [beginFrame]
@[simp] theorem beginFrame_recon (k : SendKind) : (beginFrame k s).recon = s.recon := by simp [beginFrame]
@[simp] theorem beginFrame_relay (k : SendKind) : (beginFrame k s).relay = s.relay := by simp [beginFrame]
@[simp] theorem beginFrame_alert (k : SendKind) : (beginFrame k s).alert = s.alert := by simp [beginFrame]
@[simp] theorem beginFrame_records (k : SendKind) : (beginFrame k s).records = s.records := by simp [beginFrame]
@[simp] theorem beginFrame_closeInHand (k : SendKind) : (beginFrame k s).closeInHand = s.closeInHand := by simp [beginFrame]
@[simp] theorem beginFrame_restartPending (k : SendKind) : (beginFrame k s).restartPending = s.restartPending := by simp [beginFrame]
@[simp] theorem beginFrame_loader (k : SendKind) : (beginFrame k s).loader = s.loader := by simp [beginFrame]
@[simp] theorem beginFrame_pending (k : SendKind) : (beginFrame k s).pending = s.pending := by simp [beginFrame]

/-! ### startAttempt -/

@[simp] theorem startAttempt_meter : (startAttempt s).meter = s.meter := by unfold startAttempt; (repeat' split) <;> simp
@[simp] theorem startAttempt_time : (startAttempt s).time = s.time := by unfold startAttempt; (repeat' split) <;> simp
@[simp] theorem startAttempt_monitor : (startAttempt s).monitor = s.monitor := by unfold startAttempt; (repeat' split) <;> simp
@[simp] theorem startAttempt_roster : (startAttempt s).roster = s.roster := by unfold startAttempt; (repeat' split) <;> simp
@[simp] theorem startAttempt_table : (startAttempt s).table = s.table := by unfold startAttempt; (repeat' split) <;> simp
@[simp] theorem startAttempt_recon : (startAttempt s).recon = s.recon := by unfold startAttempt; (repeat' split) <;> simp
@[simp] theorem startAttempt_relay : (startAttempt s).relay = s.relay := by unfold startAttempt; (repeat' split) <;> simp
@[simp] theorem startAttempt_alert : (startAttempt s).alert = s.alert := by unfold startAttempt; (repeat' split) <;> simp
@[simp] theorem startAttempt_records : (startAttempt s).records = s.records := by unfold startAttempt; (repeat' split) <;> simp
@[simp] theorem startAttempt_closeInHand : (startAttempt s).closeInHand = s.closeInHand := by unfold startAttempt; (repeat' split) <;> simp
@[simp] theorem startAttempt_restartPending : (startAttempt s).restartPending = s.restartPending := by unfold startAttempt; (repeat' split) <;> simp
@[simp] theorem startAttempt_loader : (startAttempt s).loader = s.loader := by unfold startAttempt; (repeat' split) <;> simp
@[simp] theorem startAttempt_pending : (startAttempt s).pending = s.pending := by unfold startAttempt; (repeat' split) <;> simp

/-! ### countAttempt -/

@[simp] theorem countAttempt_meter (k : SendKind) : (countAttempt k s).meter = s.meter := by unfold countAttempt; (repeat' split) <;> simp
@[simp] theorem countAttempt_time (k : SendKind) : (countAttempt k s).time = s.time := by unfold countAttempt; (repeat' split) <;> simp
@[simp] theorem countAttempt_roster (k : SendKind) : (countAttempt k s).roster = s.roster := by unfold countAttempt; (repeat' split) <;> simp
@[simp] theorem countAttempt_table (k : SendKind) : (countAttempt k s).table = s.table := by unfold countAttempt; (repeat' split) <;> simp
@[simp] theorem countAttempt_recon (k : SendKind) : (countAttempt k s).recon = s.recon := by unfold countAttempt; (repeat' split) <;> simp
@[simp] theorem countAttempt_relay (k : SendKind) : (countAttempt k s).relay = s.relay := by unfold countAttempt; (repeat' split) <;> simp
@[simp] theorem countAttempt_alert (k : SendKind) : (countAttempt k s).alert = s.alert := by unfold countAttempt; (repeat' split) <;> simp
@[simp] theorem countAttempt_records (k : SendKind) : (countAttempt k s).records = s.records := by unfold countAttempt; (repeat' split) <;> simp
@[simp] theorem countAttempt_closeInHand (k : SendKind) : (countAttempt k s).closeInHand = s.closeInHand := by unfold countAttempt; (repeat' split) <;> simp
@[simp] theorem countAttempt_restartPending (k : SendKind) : (countAttempt k s).restartPending = s.restartPending := by unfold countAttempt; (repeat' split) <;> simp
@[simp] theorem countAttempt_loader (k : SendKind) : (countAttempt k s).loader = s.loader := by unfold countAttempt; (repeat' split) <;> simp
@[simp] theorem countAttempt_pending (k : SendKind) : (countAttempt k s).pending = s.pending := by unfold countAttempt; (repeat' split) <;> simp

/-! ### stopDriving -/

@[simp] theorem stopDriving_meter (k : SendKind) (b : Nat) : (stopDriving k b s).meter = s.meter := by simp [stopDriving]
@[simp] theorem stopDriving_time (k : SendKind) (b : Nat) : (stopDriving k b s).time = s.time := by simp [stopDriving]
@[simp] theorem stopDriving_roster (k : SendKind) (b : Nat) : (stopDriving k b s).roster = s.roster := by simp [stopDriving]
@[simp] theorem stopDriving_table (k : SendKind) (b : Nat) : (stopDriving k b s).table = s.table := by simp [stopDriving]
@[simp] theorem stopDriving_recon (k : SendKind) (b : Nat) : (stopDriving k b s).recon = s.recon := by simp [stopDriving]
@[simp] theorem stopDriving_relay (k : SendKind) (b : Nat) : (stopDriving k b s).relay = s.relay := by simp [stopDriving]
@[simp] theorem stopDriving_alert (k : SendKind) (b : Nat) : (stopDriving k b s).alert = s.alert := by simp [stopDriving]
@[simp] theorem stopDriving_records (k : SendKind) (b : Nat) : (stopDriving k b s).records = s.records := by simp [stopDriving]
@[simp] theorem stopDriving_closeInHand (k : SendKind) (b : Nat) : (stopDriving k b s).closeInHand = s.closeInHand := by simp [stopDriving]
@[simp] theorem stopDriving_restartPending (k : SendKind) (b : Nat) : (stopDriving k b s).restartPending = s.restartPending := by simp [stopDriving]
@[simp] theorem stopDriving_loader (k : SendKind) (b : Nat) : (stopDriving k b s).loader = s.loader := by simp [stopDriving]
@[simp] theorem stopDriving_pending (k : SendKind) (b : Nat) : (stopDriving k b s).pending = s.pending := by simp [stopDriving]

/-! ### yieldFrame -/

@[simp] theorem yieldFrame_meter (k : SendKind) (b : Nat) : (yieldFrame k b s).meter = s.meter := by simp [yieldFrame]
@[simp] theorem yieldFrame_time (k : SendKind) (b : Nat) : (yieldFrame k b s).time = s.time := by simp [yieldFrame]
@[simp] theorem yieldFrame_roster (k : SendKind) (b : Nat) : (yieldFrame k b s).roster = s.roster := by simp [yieldFrame]
@[simp] theorem yieldFrame_table (k : SendKind) (b : Nat) : (yieldFrame k b s).table = s.table := by simp [yieldFrame]
@[simp] theorem yieldFrame_recon (k : SendKind) (b : Nat) : (yieldFrame k b s).recon = s.recon := by simp [yieldFrame]
@[simp] theorem yieldFrame_relay (k : SendKind) (b : Nat) : (yieldFrame k b s).relay = s.relay := by simp [yieldFrame]
@[simp] theorem yieldFrame_alert (k : SendKind) (b : Nat) : (yieldFrame k b s).alert = s.alert := by simp [yieldFrame]
@[simp] theorem yieldFrame_records (k : SendKind) (b : Nat) : (yieldFrame k b s).records = s.records := by simp [yieldFrame]
@[simp] theorem yieldFrame_closeInHand (k : SendKind) (b : Nat) : (yieldFrame k b s).closeInHand = s.closeInHand := by simp [yieldFrame]
@[simp] theorem yieldFrame_restartPending (k : SendKind) (b : Nat) : (yieldFrame k b s).restartPending = s.restartPending := by simp [yieldFrame]
@[simp] theorem yieldFrame_loader (k : SendKind) (b : Nat) : (yieldFrame k b s).loader = s.loader := by simp [yieldFrame]
@[simp] theorem yieldFrame_pending (k : SendKind) (b : Nat) : (yieldFrame k b s).pending = s.pending := by simp [yieldFrame]

/-! ### dropFrame -/

@[simp] theorem dropFrame_meter (f : List Byte) (b : Nat) : (dropFrame f b s).meter = s.meter := by simp [dropFrame]
@[simp] theorem dropFrame_time (f : List Byte) (b : Nat) : (dropFrame f b s).time = s.time := by simp [dropFrame]
@[simp] theorem dropFrame_monitor (f : List Byte) (b : Nat) : (dropFrame f b s).monitor = s.monitor := by simp [dropFrame]
@[simp] theorem dropFrame_roster (f : List Byte) (b : Nat) : (dropFrame f b s).roster = s.roster := by simp [dropFrame]
@[simp] theorem dropFrame_table (f : List Byte) (b : Nat) : (dropFrame f b s).table = s.table := by simp [dropFrame]
@[simp] theorem dropFrame_recon (f : List Byte) (b : Nat) : (dropFrame f b s).recon = s.recon := by simp [dropFrame]
@[simp] theorem dropFrame_relay (f : List Byte) (b : Nat) : (dropFrame f b s).relay = s.relay := by simp [dropFrame]
@[simp] theorem dropFrame_alert (f : List Byte) (b : Nat) : (dropFrame f b s).alert = s.alert := by simp [dropFrame]
@[simp] theorem dropFrame_records (f : List Byte) (b : Nat) : (dropFrame f b s).records = s.records := by simp [dropFrame]
@[simp] theorem dropFrame_closeInHand (f : List Byte) (b : Nat) : (dropFrame f b s).closeInHand = s.closeInHand := by simp [dropFrame]
@[simp] theorem dropFrame_restartPending (f : List Byte) (b : Nat) : (dropFrame f b s).restartPending = s.restartPending := by simp [dropFrame]
@[simp] theorem dropFrame_loader (f : List Byte) (b : Nat) : (dropFrame f b s).loader = s.loader := by simp [dropFrame]
@[simp] theorem dropFrame_pending (f : List Byte) (b : Nat) : (dropFrame f b s).pending = s.pending := by simp [dropFrame]

/-! ### checkFailed -/

@[simp] theorem checkFailed_meter : (checkFailed s).meter = s.meter := by unfold checkFailed; (repeat' split) <;> simp
@[simp] theorem checkFailed_time : (checkFailed s).time = s.time := by unfold checkFailed; (repeat' split) <;> simp
@[simp] theorem checkFailed_roster : (checkFailed s).roster = s.roster := by unfold checkFailed; (repeat' split) <;> simp
@[simp] theorem checkFailed_table : (checkFailed s).table = s.table := by unfold checkFailed; (repeat' split) <;> simp
@[simp] theorem checkFailed_recon : (checkFailed s).recon = s.recon := by unfold checkFailed; (repeat' split) <;> simp
@[simp] theorem checkFailed_relay : (checkFailed s).relay = s.relay := by unfold checkFailed; (repeat' split) <;> simp
@[simp] theorem checkFailed_records : (checkFailed s).records = s.records := by unfold checkFailed; (repeat' split) <;> simp
@[simp] theorem checkFailed_closeInHand : (checkFailed s).closeInHand = s.closeInHand := by unfold checkFailed; (repeat' split) <;> simp
@[simp] theorem checkFailed_restartPending : (checkFailed s).restartPending = s.restartPending := by unfold checkFailed; (repeat' split) <;> simp
@[simp] theorem checkFailed_loader : (checkFailed s).loader = s.loader := by unfold checkFailed; (repeat' split) <;> simp
@[simp] theorem checkFailed_pending : (checkFailed s).pending = s.pending := by unfold checkFailed; (repeat' split) <;> simp

/-! ### countFault -/

@[simp] theorem countFault_meter : (countFault s).meter = s.meter := by
  simp only [countFault]
  split <;> simp
@[simp] theorem countFault_time : (countFault s).time = s.time := by
  simp only [countFault]
  split <;> simp
@[simp] theorem countFault_roster : (countFault s).roster = s.roster := by
  simp only [countFault]
  split <;> simp
@[simp] theorem countFault_table : (countFault s).table = s.table := by
  simp only [countFault]
  split <;> simp
@[simp] theorem countFault_recon : (countFault s).recon = s.recon := by
  simp only [countFault]
  split <;> simp
@[simp] theorem countFault_relay : (countFault s).relay = s.relay := by
  simp only [countFault]
  split <;> simp
@[simp] theorem countFault_records : (countFault s).records = s.records := by
  simp only [countFault]
  split <;> simp
@[simp] theorem countFault_closeInHand : (countFault s).closeInHand = s.closeInHand := by
  simp only [countFault]
  split <;> simp
@[simp] theorem countFault_restartPending : (countFault s).restartPending = s.restartPending := by
  simp only [countFault]
  split <;> simp
@[simp] theorem countFault_loader : (countFault s).loader = s.loader := by
  simp only [countFault]
  split <;> simp
@[simp] theorem countFault_pending : (countFault s).pending = s.pending := by
  simp only [countFault]
  split <;> simp

/-! ### faultFrame -/

@[simp] theorem faultFrame_meter (k : SendKind) (b : Nat) : (faultFrame k b s).meter = s.meter := by unfold faultFrame; (repeat' split) <;> simp
@[simp] theorem faultFrame_time (k : SendKind) (b : Nat) : (faultFrame k b s).time = s.time := by unfold faultFrame; (repeat' split) <;> simp
@[simp] theorem faultFrame_roster (k : SendKind) (b : Nat) : (faultFrame k b s).roster = s.roster := by unfold faultFrame; (repeat' split) <;> simp
@[simp] theorem faultFrame_table (k : SendKind) (b : Nat) : (faultFrame k b s).table = s.table := by unfold faultFrame; (repeat' split) <;> simp
@[simp] theorem faultFrame_recon (k : SendKind) (b : Nat) : (faultFrame k b s).recon = s.recon := by unfold faultFrame; (repeat' split) <;> simp
@[simp] theorem faultFrame_relay (k : SendKind) (b : Nat) : (faultFrame k b s).relay = s.relay := by unfold faultFrame; (repeat' split) <;> simp
@[simp] theorem faultFrame_records (k : SendKind) (b : Nat) : (faultFrame k b s).records = s.records := by unfold faultFrame; (repeat' split) <;> simp
@[simp] theorem faultFrame_closeInHand (k : SendKind) (b : Nat) : (faultFrame k b s).closeInHand = s.closeInHand := by unfold faultFrame; (repeat' split) <;> simp
@[simp] theorem faultFrame_restartPending (k : SendKind) (b : Nat) : (faultFrame k b s).restartPending = s.restartPending := by unfold faultFrame; (repeat' split) <;> simp
@[simp] theorem faultFrame_loader (k : SendKind) (b : Nat) : (faultFrame k b s).loader = s.loader := by unfold faultFrame; (repeat' split) <;> simp
@[simp] theorem faultFrame_pending (k : SendKind) (b : Nat) : (faultFrame k b s).pending = s.pending := by unfold faultFrame; (repeat' split) <;> simp

/-! ### checkPassed -/

@[simp] theorem checkPassed_meter : (checkPassed s).meter = s.meter := by
  simp only [checkPassed]
  (repeat' split) <;> simp
@[simp] theorem checkPassed_time : (checkPassed s).time = s.time := by
  simp only [checkPassed]
  (repeat' split) <;> simp
@[simp] theorem checkPassed_roster : (checkPassed s).roster = s.roster := by
  simp only [checkPassed]
  (repeat' split) <;> simp
@[simp] theorem checkPassed_table : (checkPassed s).table = s.table := by
  simp only [checkPassed]
  (repeat' split) <;> simp
@[simp] theorem checkPassed_recon : (checkPassed s).recon = s.recon := by
  simp only [checkPassed]
  (repeat' split) <;> simp
@[simp] theorem checkPassed_relay : (checkPassed s).relay = s.relay := by
  simp only [checkPassed]
  (repeat' split) <;> simp
@[simp] theorem checkPassed_alert : (checkPassed s).alert = s.alert := by
  simp only [checkPassed]
  (repeat' split) <;> simp
@[simp] theorem checkPassed_records : (checkPassed s).records = s.records := by
  simp only [checkPassed]
  (repeat' split) <;> simp
@[simp] theorem checkPassed_closeInHand : (checkPassed s).closeInHand = s.closeInHand := by
  simp only [checkPassed]
  (repeat' split) <;> simp
@[simp] theorem checkPassed_restartPending : (checkPassed s).restartPending = s.restartPending := by
  simp only [checkPassed]
  (repeat' split) <;> simp
@[simp] theorem checkPassed_loader : (checkPassed s).loader = s.loader := by
  simp only [checkPassed]
  (repeat' split) <;> simp
@[simp] theorem checkPassed_pending : (checkPassed s).pending = s.pending := by
  simp only [checkPassed]
  (repeat' split) <;> simp

/-! ### sentFrame -/

@[simp] theorem sentFrame_meter (k : SendKind) : (sentFrame k s).meter = s.meter := by unfold sentFrame; (repeat' split) <;> simp
@[simp] theorem sentFrame_time (k : SendKind) : (sentFrame k s).time = s.time := by unfold sentFrame; (repeat' split) <;> simp
@[simp] theorem sentFrame_roster (k : SendKind) : (sentFrame k s).roster = s.roster := by unfold sentFrame; (repeat' split) <;> simp
@[simp] theorem sentFrame_table (k : SendKind) : (sentFrame k s).table = s.table := by unfold sentFrame; (repeat' split) <;> simp
@[simp] theorem sentFrame_recon (k : SendKind) : (sentFrame k s).recon = s.recon := by unfold sentFrame; (repeat' split) <;> simp
@[simp] theorem sentFrame_relay (k : SendKind) : (sentFrame k s).relay = s.relay := by unfold sentFrame; (repeat' split) <;> simp
@[simp] theorem sentFrame_alert (k : SendKind) : (sentFrame k s).alert = s.alert := by unfold sentFrame; (repeat' split) <;> simp
@[simp] theorem sentFrame_records (k : SendKind) : (sentFrame k s).records = s.records := by unfold sentFrame; (repeat' split) <;> simp
@[simp] theorem sentFrame_closeInHand (k : SendKind) : (sentFrame k s).closeInHand = s.closeInHand := by unfold sentFrame; (repeat' split) <;> simp
@[simp] theorem sentFrame_restartPending (k : SendKind) : (sentFrame k s).restartPending = s.restartPending := by unfold sentFrame; (repeat' split) <;> simp
@[simp] theorem sentFrame_loader (k : SendKind) : (sentFrame k s).loader = s.loader := by unfold sentFrame; (repeat' split) <;> simp
@[simp] theorem sentFrame_pending (k : SendKind) : (sentFrame k s).pending = s.pending := by unfold sentFrame; (repeat' split) <;> simp

/-! ### nextDwell -/

@[simp] theorem nextDwell_meter : (nextDwell s).meter = s.meter := by unfold nextDwell; (repeat' split) <;> simp
@[simp] theorem nextDwell_time : (nextDwell s).time = s.time := by unfold nextDwell; (repeat' split) <;> simp
@[simp] theorem nextDwell_roster : (nextDwell s).roster = s.roster := by unfold nextDwell; (repeat' split) <;> simp
@[simp] theorem nextDwell_table : (nextDwell s).table = s.table := by unfold nextDwell; (repeat' split) <;> simp
@[simp] theorem nextDwell_recon : (nextDwell s).recon = s.recon := by unfold nextDwell; (repeat' split) <;> simp
@[simp] theorem nextDwell_relay : (nextDwell s).relay = s.relay := by unfold nextDwell; (repeat' split) <;> simp
@[simp] theorem nextDwell_alert : (nextDwell s).alert = s.alert := by unfold nextDwell; (repeat' split) <;> simp
@[simp] theorem nextDwell_records : (nextDwell s).records = s.records := by unfold nextDwell; (repeat' split) <;> simp
@[simp] theorem nextDwell_closeInHand : (nextDwell s).closeInHand = s.closeInHand := by unfold nextDwell; (repeat' split) <;> simp
@[simp] theorem nextDwell_restartPending : (nextDwell s).restartPending = s.restartPending := by unfold nextDwell; (repeat' split) <;> simp
@[simp] theorem nextDwell_loader : (nextDwell s).loader = s.loader := by unfold nextDwell; (repeat' split) <;> simp
@[simp] theorem nextDwell_pending : (nextDwell s).pending = s.pending := by unfold nextDwell; (repeat' split) <;> simp

end Sys2Proof.Machine
end

