-- ==== Sys2Proof/Laws/LinkOps.lean ====
section
/-! SUPPORT. What the operations of the receiver and of the memory port do, once: the levels of a character that goes on
after a yield, one more level of it, a bit time at rest, the quiet time after a fault, and the bytes of the image. -/

namespace Sys2Proof.Machine

/-! ## The levels of a character -/

/-- Some bits stand for a number below the power of two of their count. -/
theorem bitsNat_lt (bs : List Bool) : bitsNat bs < 2 ^ bs.length := by
  induction bs with
  | nil => simp [bitsNat]
  | cons b bs ih => cases b <;> simp [bitsNat, Nat.pow_succ] <;> omega

/-- Bit `i` of that number is the `i`-th of the bits. -/
theorem bitsNat_testBit (bs : List Bool) (i : Nat) : (bitsNat bs).testBit i = bs.getD i false := by
  induction bs generalizing i with
  | nil => simp [bitsNat]
  | cons b bs ih =>
    cases i with
    | zero => cases b <;> simp [bitsNat, Nat.testBit_zero]
    | succ i =>
      rw [Nat.testBit_succ, List.getD_cons_succ, ← ih]
      congr 1
      rw [bitsNat]
      cases b <;> simp only [Bool.toNat_true, Bool.toNat_false] <;> omega

/-- Level `i` of a character: as it has been read, or where it has not been read yet as it is given (R18, R26). -/
theorem characterLevels_level (read : List Bool) (levels : BitVec 11) (i : Nat) (hi : i < 11) :
    (characterLevels read levels).getLsbD i = if i < read.length then read.getD i false else levels.getLsbD i := by
  have h := bitsNat_lt read
  rw [characterLevels, BitVec.getLsbD_ofNat, decide_eq_true hi, Bool.true_and, Nat.add_comm,
    Nat.testBit_two_pow_mul_add _ h]
  split
  · exact bitsNat_testBit read i
  · rw [Nat.testBit_div_two_pow, BitVec.getLsbD, Nat.sub_add_cancel (by omega)]

/-- Between characters the levels are those that are given (R18). -/
@[simp] theorem characterLevels_nil (levels : BitVec 11) : characterLevels [] levels = levels := by
  apply BitVec.eq_of_getLsbD_eq
  intro i hi
  simp [characterLevels_level [] levels i hi]

/-- Levels that agree with those that have been read are the character's (R18, R26). -/
theorem characterLevels_agree (read : List Bool) (levels : BitVec 11)
    (h : ∀ i b, read[i]? = some b → levels.getLsbD i = b) : characterLevels read levels = levels := by
  apply BitVec.eq_of_getLsbD_eq
  intro i hi
  rw [characterLevels_level read levels i hi]
  split
  · next hl => rw [List.getD_eq_getElem _ _ hl]; exact (h i _ (List.getElem?_eq_getElem hl)).symm
  · rfl

/-! ## The receiver -/

/-- A glitch sets the quiet time back and nothing else (R20). -/
theorem judgeLevels_glitch (levels : BitVec 11) (s : State) (h : judgeCharacter levels = .glitch) :
    judgeLevels levels s = s.withLink { s.link with inCharacter := [], quiet := 0 } := by simp [judgeLevels, h]

/-- A character error drops the copy and is reported (R20, R48). -/
theorem judgeLevels_error (levels : BitVec 11) (s : State) (h : judgeCharacter levels = .error) :
    judgeLevels levels s = reportCharError
      (s.withLink { s.link with assembler := .waitQuiet, inCharacter := [], quiet := 0, gap := 0 }) := by
  simp [judgeLevels, h]

/-- A good character moves the frame assembler (R20, R21, R23). -/
theorem judgeLevels_good (levels : BitVec 11) (x : Byte) (s : State) (h : judgeCharacter levels = .good x) :
    judgeLevels levels s = s.withLink
      { s.link with assembler := assembleByte s.link.assembler x, inCharacter := [], quiet := 0, gap := 0 } := by
  simp [judgeLevels, h]

/-- A level before the eleventh is kept (R18). -/
theorem takeLevel_short (level : Bool) (s : State) (h : s.link.inCharacter.length < 10) :
    takeLevel level s = s.withLink { s.link with inCharacter := s.link.inCharacter ++ [level] } := by
  simp [takeLevel, h]

/-- The eleventh level completes the character, which is judged (R18). -/
theorem takeLevel_eleventh (level : Bool) (s : State) (h : 10 ≤ s.link.inCharacter.length) :
    takeLevel level s = judgeLevels (characterLevels (s.link.inCharacter ++ [level]) 0) s := by
  simp only [takeLevel, List.length_append, List.length_singleton]
  rw [if_neg (by omega)]

/-- A bit time at rest between characters is quiet time (R19). -/
theorem restBit_between (s : State) (h : s.link.inCharacter = []) :
    restBit s = s.withLink (passQuiet 1 s.link) := by simp [restBit, quietFor, h]

/-- A bit time at rest in a character is its next level (R18). -/
theorem restBit_within (s : State) (h : s.link.inCharacter ≠ []) : restBit s = takeLevel true s := by
  simp [restBit, h]

/-! ## The quiet time after a fault -/

/-- The recessive bits right before bit `i` stand between it and the last dominant bit, or the beginning (R19). -/
theorem recessiveRun_spec (frame : List Byte) (i : Nat) :
    recessiveRun frame i ≤ i ∧ (∀ j, i - recessiveRun frame i ≤ j → j < i → frameBit frame j = true) ∧
      (recessiveRun frame i < i → frameBit frame (i - recessiveRun frame i - 1) = false) := by
  induction i with
  | zero => simp [recessiveRun]
  | succ i ih =>
    obtain ⟨h1, h2, h3⟩ := ih
    cases hb : frameBit frame i with
    | false => simpa [recessiveRun, hb] using fun j hj => by omega
    | true =>
      simp only [recessiveRun, hb, if_true]
      refine ⟨by omega, fun j hj hl => ?_, fun hl => ?_⟩
      · rcases Nat.lt_or_ge j i with h | h
        · exact h2 j (by omega) h
        · rwa [show j = i by omega]
      · rw [show i + 1 - (recessiveRun frame i + 1) = i - recessiveRun frame i by omega]
        exact h3 (by omega)

/-! ## The memory port -/

/-- Every byte of the read is a byte of the memory (R171). -/
theorem serialByte_imageRead (im : List Byte) (i : Nat) (h : i < imageReadLength im) :
    serialByte (imageRead im) i = serialByte im i := by
  simp [imageRead, serialBytes, serialByte, h]

/-- At least the bytes up to the tenant count are read (R171). -/
theorem imageReadLength_ge (im : List Byte) : 20 ≤ imageReadLength im := by
  unfold imageReadLength
  split <;> simp only [Config.imagePrefix, Config.imageHead] <;> omega

end Sys2Proof.Machine
end

