-- ==== Sys2Proof/Laws/MeterFrames.lean ====
section
/-! SUPPORT. Frames: the blocks that ticks and captured frames leave as they were. -/

namespace Sys2Proof.Machine

variable (s : State)

/-! ### setConverter -/

@[simp] theorem setConverter_time (c : Nat) (x : Converter) : (setConverter c x s).time = s.time := by simp [setConverter]
@[simp] theorem setConverter_link (c : Nat) (x : Converter) : (setConverter c x s).link = s.link := by simp [setConverter]
@[simp] theorem setConverter_monitor (c : Nat) (x : Converter) : (setConverter c x s).monitor = s.monitor := by simp [setConverter]
@[simp] theorem setConverter_roster (c : Nat) (x : Converter) : (setConverter c x s).roster = s.roster := by simp [setConverter]
@[simp] theorem setConverter_table (c : Nat) (x : Converter) : (setConverter c x s).table = s.table := by simp [setConverter]
@[simp] theorem setConverter_recon (c : Nat) (x : Converter) : (setConverter c x s).recon = s.recon := by simp [setConverter]
@[simp] theorem setConverter_relay (c : Nat) (x : Converter) : (setConverter c x s).relay = s.relay := by simp [setConverter]
@[simp] theorem setConverter_alert (c : Nat) (x : Converter) : (setConverter c x s).alert = s.alert := by simp [setConverter]
@[simp] theorem setConverter_records (c : Nat) (x : Converter) : (setConverter c x s).records = s.records := by simp [setConverter]
@[simp] theorem setConverter_closeInHand (c : Nat) (x : Converter) : (setConverter c x s).closeInHand = s.closeInHand := by simp [setConverter]
@[simp] theorem setConverter_restartPending (c : Nat) (x : Converter) : (setConverter c x s).restartPending = s.restartPending := by simp [setConverter]
@[simp] theorem setConverter_loader (c : Nat) (x : Converter) : (setConverter c x s).loader = s.loader := by simp [setConverter]
@[simp] theorem setConverter_pending (c : Nat) (x : Converter) : (setConverter c x s).pending = s.pending := by simp [setConverter]

/-! ### changeConverterOutlets -/

@[simp] theorem changeConverterOutlets_time (c : Nat) (f : Nat → MeterOutlet → MeterOutlet) : (changeConverterOutlets c f s).time = s.time := by simp [changeConverterOutlets]
@[simp] theorem changeConverterOutlets_link (c : Nat) (f : Nat → MeterOutlet → MeterOutlet) : (changeConverterOutlets c f s).link = s.link := by simp [changeConverterOutlets]
@[simp] theorem changeConverterOutlets_monitor (c : Nat) (f : Nat → MeterOutlet → MeterOutlet) : (changeConverterOutlets c f s).monitor = s.monitor := by simp [changeConverterOutlets]
@[simp] theorem changeConverterOutlets_roster (c : Nat) (f : Nat → MeterOutlet → MeterOutlet) : (changeConverterOutlets c f s).roster = s.roster := by simp [changeConverterOutlets]
@[simp] theorem changeConverterOutlets_table (c : Nat) (f : Nat → MeterOutlet → MeterOutlet) : (changeConverterOutlets c f s).table = s.table := by simp [changeConverterOutlets]
@[simp] theorem changeConverterOutlets_recon (c : Nat) (f : Nat → MeterOutlet → MeterOutlet) : (changeConverterOutlets c f s).recon = s.recon := by simp [changeConverterOutlets]
@[simp] theorem changeConverterOutlets_relay (c : Nat) (f : Nat → MeterOutlet → MeterOutlet) : (changeConverterOutlets c f s).relay = s.relay := by simp [changeConverterOutlets]
@[simp] theorem changeConverterOutlets_alert (c : Nat) (f : Nat → MeterOutlet → MeterOutlet) : (changeConverterOutlets c f s).alert = s.alert := by simp [changeConverterOutlets]
@[simp] theorem changeConverterOutlets_records (c : Nat) (f : Nat → MeterOutlet → MeterOutlet) : (changeConverterOutlets c f s).records = s.records := by simp [changeConverterOutlets]
@[simp] theorem changeConverterOutlets_closeInHand (c : Nat) (f : Nat → MeterOutlet → MeterOutlet) : (changeConverterOutlets c f s).closeInHand = s.closeInHand := by simp [changeConverterOutlets]
@[simp] theorem changeConverterOutlets_restartPending (c : Nat) (f : Nat → MeterOutlet → MeterOutlet) : (changeConverterOutlets c f s).restartPending = s.restartPending := by simp [changeConverterOutlets]
@[simp] theorem changeConverterOutlets_loader (c : Nat) (f : Nat → MeterOutlet → MeterOutlet) : (changeConverterOutlets c f s).loader = s.loader := by simp [changeConverterOutlets]
@[simp] theorem changeConverterOutlets_pending (c : Nat) (f : Nat → MeterOutlet → MeterOutlet) : (changeConverterOutlets c f s).pending = s.pending := by simp [changeConverterOutlets]

/-! ### applyFrame -/

@[simp] theorem applyFrame_time (c : Nat) (f : List Byte) : (applyFrame c f s).time = s.time := by simp [applyFrame]
@[simp] theorem applyFrame_link (c : Nat) (f : List Byte) : (applyFrame c f s).link = s.link := by simp [applyFrame]
@[simp] theorem applyFrame_monitor (c : Nat) (f : List Byte) : (applyFrame c f s).monitor = s.monitor := by simp [applyFrame]
@[simp] theorem applyFrame_roster (c : Nat) (f : List Byte) : (applyFrame c f s).roster = s.roster := by simp [applyFrame]
@[simp] theorem applyFrame_table (c : Nat) (f : List Byte) : (applyFrame c f s).table = s.table := by simp [applyFrame]
@[simp] theorem applyFrame_recon (c : Nat) (f : List Byte) : (applyFrame c f s).recon = s.recon := by simp [applyFrame]
@[simp] theorem applyFrame_alert (c : Nat) (f : List Byte) : (applyFrame c f s).alert = s.alert := by simp [applyFrame]
@[simp] theorem applyFrame_records (c : Nat) (f : List Byte) : (applyFrame c f s).records = s.records := by simp [applyFrame]
@[simp] theorem applyFrame_closeInHand (c : Nat) (f : List Byte) : (applyFrame c f s).closeInHand = s.closeInHand := by simp [applyFrame]
@[simp] theorem applyFrame_restartPending (c : Nat) (f : List Byte) : (applyFrame c f s).restartPending = s.restartPending := by simp [applyFrame]
@[simp] theorem applyFrame_loader (c : Nat) (f : List Byte) : (applyFrame c f s).loader = s.loader := by simp [applyFrame]
@[simp] theorem applyFrame_pending (c : Nat) (f : List Byte) : (applyFrame c f s).pending = s.pending := by simp [applyFrame]

/-! ### missFrame -/

@[simp] theorem missFrame_time (c : Nat) : (missFrame c s).time = s.time := by
  simp only [missFrame]
  split <;> simp
@[simp] theorem missFrame_link (c : Nat) : (missFrame c s).link = s.link := by
  simp only [missFrame]
  split <;> simp
@[simp] theorem missFrame_monitor (c : Nat) : (missFrame c s).monitor = s.monitor := by
  simp only [missFrame]
  split <;> simp
@[simp] theorem missFrame_roster (c : Nat) : (missFrame c s).roster = s.roster := by
  simp only [missFrame]
  split <;> simp
@[simp] theorem missFrame_table (c : Nat) : (missFrame c s).table = s.table := by
  simp only [missFrame]
  split <;> simp
@[simp] theorem missFrame_recon (c : Nat) : (missFrame c s).recon = s.recon := by
  simp only [missFrame]
  split <;> simp
@[simp] theorem missFrame_relay (c : Nat) : (missFrame c s).relay = s.relay := by
  simp only [missFrame]
  split <;> simp
@[simp] theorem missFrame_records (c : Nat) : (missFrame c s).records = s.records := by
  simp only [missFrame]
  split <;> simp
@[simp] theorem missFrame_closeInHand (c : Nat) : (missFrame c s).closeInHand = s.closeInHand := by
  simp only [missFrame]
  split <;> simp
@[simp] theorem missFrame_restartPending (c : Nat) : (missFrame c s).restartPending = s.restartPending := by
  simp only [missFrame]
  split <;> simp
@[simp] theorem missFrame_loader (c : Nat) : (missFrame c s).loader = s.loader := by
  simp only [missFrame]
  split <;> simp
@[simp] theorem missFrame_pending (c : Nat) : (missFrame c s).pending = s.pending := by
  simp only [missFrame]
  split <;> simp

/-! ### completeTick -/

@[simp] theorem completeTick_link : (completeTick s).link = s.link := by simp [completeTick]
@[simp] theorem completeTick_monitor : (completeTick s).monitor = s.monitor := by simp [completeTick]
@[simp] theorem completeTick_table : (completeTick s).table = s.table := by simp [completeTick]
@[simp] theorem completeTick_recon : (completeTick s).recon = s.recon := by simp [completeTick]
@[simp] theorem completeTick_relay : (completeTick s).relay = s.relay := by simp [completeTick]
@[simp] theorem completeTick_alert : (completeTick s).alert = s.alert := by simp [completeTick]
@[simp] theorem completeTick_records : (completeTick s).records = s.records := by simp [completeTick]
@[simp] theorem completeTick_closeInHand : (completeTick s).closeInHand = s.closeInHand := by simp [completeTick]
@[simp] theorem completeTick_restartPending : (completeTick s).restartPending = s.restartPending := by simp [completeTick]
@[simp] theorem completeTick_loader : (completeTick s).loader = s.loader := by simp [completeTick]
@[simp] theorem completeTick_pending : (completeTick s).pending = s.pending := by simp [completeTick]

/-! ### endRead -/

@[simp] theorem endRead_link (c : Nat) : (endRead c s).link = s.link := by unfold endRead; (repeat' split) <;> simp
@[simp] theorem endRead_monitor (c : Nat) : (endRead c s).monitor = s.monitor := by unfold endRead; (repeat' split) <;> simp
@[simp] theorem endRead_table (c : Nat) : (endRead c s).table = s.table := by unfold endRead; (repeat' split) <;> simp
@[simp] theorem endRead_recon (c : Nat) : (endRead c s).recon = s.recon := by unfold endRead; (repeat' split) <;> simp
@[simp] theorem endRead_relay (c : Nat) : (endRead c s).relay = s.relay := by unfold endRead; (repeat' split) <;> simp
@[simp] theorem endRead_alert (c : Nat) : (endRead c s).alert = s.alert := by unfold endRead; (repeat' split) <;> simp
@[simp] theorem endRead_records (c : Nat) : (endRead c s).records = s.records := by unfold endRead; (repeat' split) <;> simp
@[simp] theorem endRead_closeInHand (c : Nat) : (endRead c s).closeInHand = s.closeInHand := by unfold endRead; (repeat' split) <;> simp
@[simp] theorem endRead_restartPending (c : Nat) : (endRead c s).restartPending = s.restartPending := by unfold endRead; (repeat' split) <;> simp
@[simp] theorem endRead_loader (c : Nat) : (endRead c s).loader = s.loader := by unfold endRead; (repeat' split) <;> simp
@[simp] theorem endRead_pending (c : Nat) : (endRead c s).pending = s.pending := by unfold endRead; (repeat' split) <;> simp

/-! ### takeDueWork -/

@[simp] theorem takeDueWork_restartPending : (takeDueWork s).restartPending = s.restartPending := by
  simp only [takeDueWork]
  split <;> simp
@[simp] theorem takeDueWork_loader : (takeDueWork s).loader = s.loader := by
  simp only [takeDueWork]
  split <;> simp
@[simp] theorem takeDueWork_pending : (takeDueWork s).pending = s.pending := by
  simp only [takeDueWork]
  split <;> simp

/-! ### startRead -/

@[simp] theorem startRead_restartPending : (startRead s).restartPending = s.restartPending := by simp [startRead]
@[simp] theorem startRead_loader : (startRead s).loader = s.loader := by simp [startRead]
@[simp] theorem startRead_pending : (startRead s).pending = s.pending := by simp [startRead]

end Sys2Proof.Machine
end

