-- ==== Sys2Proof/WellFormed.lean ====
section
/-! DEFINITION. When a command is one the outside world can bring: the numbers in their ranges and the byte strings
of a possible length. The meanings are total all the same; see notes/assumptions. -/

namespace Sys2Proof

/-- The numbers of the stations (spec/00, "Numbering"). -/
def wfStation (n : Nat) : Bool := decide (1 ≤ n ∧ n ≤ 16)

/-- The tenant ids (spec/00, "Numbering"). -/
def wfTenant (n : Nat) : Bool := decide (1 ≤ n ∧ n ≤ 4095)

/-- The argument of a COMMAND frame has 0 to 2 bytes (spec/10, "Taking a command"). -/
def wfArg (arg : List Byte) : Bool := decide (arg.length ≤ 2)

/-- A converter frame has 20 bytes (spec/11, "Converter frame"). -/
def wfConverterFrame (f : List Byte) : Bool := decide (f.length = Config.converterFrameBytes)

/-- The command code is none of the nine (spec/11, "COMMAND payload"). -/
def wfUnknownCode (c : Byte) : Bool := decide (c = 0 ∨ 9 < c.toNat)

/-- A bit number inside the longest frame: 206 characters of 11 bits (spec/02, "Frames"). -/
def wfFrameBit (b : Nat) : Bool := decide (b < 11 * (Config.payloadLimit + 6))

/-- The command is one that can arrive. -/
def Instr.wf : Instr → Bool
  | .powerOnReset => true
  | .holdEnd _ => true
  | .imageReadComplete _ => true
  | .tick => true
  | .captureCompletion f => wfConverterFrame f
  | .outletUnmeasured => true
  | .stationLate n => wfStation n
  | .stationExpiry n => wfStation n
  | .periodClose => true
  | .graceExpiry t => wfTenant t
  | .settleExpiry t => wfTenant t
  | .restoreCounterExpiry t => wfTenant t
  | .checkCountdownExpiry => true
  | .character _ => true
  | .searchOnCharacterErrors _ => true
  | .assemblerArmed => true
  | .gapError => true
  | .frameCompletion => true
  | .queryStatus a => wfArg a
  | .queryOutlet a => wfArg a
  | .lockOff a => wfArg a
  | .unlock a => wfArg a
  | .clearFault a => wfArg a
  | .ackEvents a => wfArg a
  | .endAlert a => wfArg a
  | .fetchRecord a => wfArg a
  | .restart a => wfArg a
  | .invalidCommand c a => wfUnknownCode c && wfArg a
  | .attemptStart => true
  | .yieldLine b => wfFrameBit b
  | .transmitFault b => wfFrameBit b
  | .txFaultLimit b => wfFrameBit b
  | .transmitSuccess => true
  | .dwellExpiry => true
  | .pulseEnd => true
  | .settleEnd => true
  | .openVerify => true
  | .gapExpiry => true
  | .restartReset _ => true

end Sys2Proof
end

