-- ==== Sys2Proof/Tests/Slice0.lean ====
section
/-! SUPPORT. Tests: what WellFormed refuses, the worked cases of spec/ one step at a time, and for each statement of
Certificates/Slice0 with hypotheses a state and operands that meet them. Expected values come from the tables named
at each test. -/

namespace Sys2Proof.Tests

set_option Elab.async false

open Sys2Proof Sys2Proof.Machine

/-! ## WellFormed: an ill-formed command for each check -/

theorem test_wf_station_zero : (Instr.stationLate 0).wf = false := by decide
theorem test_wf_station_above : (Instr.stationExpiry 17).wf = false := by decide
theorem test_wf_station_good : (Instr.stationExpiry 16).wf = true := by decide
theorem test_wf_tenant_zero : (Instr.graceExpiry 0).wf = false := by decide
theorem test_wf_tenant_above : (Instr.settleExpiry 4096).wf = false := by decide
theorem test_wf_tenant_good : (Instr.restoreCounterExpiry 4095).wf = true := by decide
theorem test_wf_arg : (Instr.queryStatus [0, 0, 0]).wf = false := by decide
theorem test_wf_frame : (Instr.captureCompletion (List.replicate 19 0)).wf = false := by decide
theorem test_wf_code : (Instr.invalidCommand 5 []).wf = false := by decide
theorem test_wf_code_good : (Instr.invalidCommand 10 []).wf = true := by decide
theorem test_wf_bit : (Instr.yieldLine 2266).wf = false := by decide

/-! ## Helpers -/

/-- The state a command leads to. -/
def after (c : Instr) (s : State) : State :=
  match exec c s with
  | .next t => t
  | _ => s

/-- The parameters of the worked cases: two converters, ten ticks, k = 2, settle 2, restore spacing 2, 500 kbit/s. -/
def params : Params := ⟨0x0102, 2, 10, 2, 2, 5, 2, 2, 2, 0, 1, 4, 40⟩

/-- Tenant 679 (spec/05, "Levels, worked"): grace 3, enforce set, expected hosts 1, 3 and 7. -/
def tenant : Tenant where
  id := 679
  units := 1200
  w := 14
  b := 20
  h := 4
  graceSetting := 3
  enforce := true
  expected := 0x0045
  contract := 120000
  warn := 105000
  burst := 150000
  release := 112500
  subtotal := 79700
  draw := 133500
  demand := 128000
  view := .complete
  overflow := 0
  standing := .clear
  grace := 0
  settle := 0
  restore := 0

/-- An outlet in ON of this tenant and class. -/
def onOutlet (tenant cls : Nat) : RelayOutlet := ⟨tenant, cls, .on, false, none⟩

/-- Outlets 5, 6, 7 and 12 are those of the worked case (spec/05); the other present ones are unassigned. -/
def outlets : List RelayOutlet :=
  List.replicate 4 (onOutlet 0 0) ++ [onOutlet 679 3, onOutlet 679 3, onOutlet 679 1] ++
  List.replicate 4 (onOutlet 0 0) ++ [onOutlet 679 0] ++ List.replicate 4 (onOutlet 0 0) ++
  List.replicate 8 RelayOutlet.blank

/-- An outlet that has drawn `p` dW over a whole period of ten ticks. -/
def drawing (p : Nat) : MeterOutlet := ⟨p, 10 * p, 0, false, p⟩

/-- The figures of the worked case (spec/05). -/
def figures : List MeterOutlet :=
  List.replicate 4 (drawing 0) ++ [drawing 18500, drawing 9200, drawing 22000] ++ List.replicate 4 (drawing 0) ++
  [drawing 30000] ++ List.replicate 12 MeterOutlet.blank

/-- Stations 1 and 7 are LIVE. -/
def roster : List RosterRecord :=
  ([⟨.live, 3, 10⟩] : List RosterRecord) ++ List.replicate 5 RosterRecord.blank ++ [⟨.live, 4, 10⟩] ++
    List.replicate 9 RosterRecord.blank

/-- Station 3, JOINED at 500 kbit/s, at a moment at which a period close is due. -/
def station : State where
  meter := ⟨figures, [⟨none, some 96⟩, ⟨none, some 40⟩, Converter.blank], none⟩
  time := ⟨true, 10, 880⟩
  link := ⟨.waitQuiet, [], 0, 0, none, none, none, none, false, none⟩
  monitor := ⟨.joined, some .kbit500, 1, none, 0, 0, false, none, 0⟩
  roster := roster
  table := [⟨1, 679, 41000, false, false, false⟩, ⟨7, 679, 12800, false, false, false⟩]
  recon := ⟨[tenant], 0, false⟩
  relay := ⟨outlets, [], none⟩
  alert := ⟨0, 0, false, none⟩
  records := []
  closeInHand := none
  restartPending := false
  loader := ⟨.installed, false, 3, params⟩
  pending := []

/-- The same station two ticks into a period. -/
def running : State := { station with time := ⟨true, 2, 880⟩ }

/-- A close at which the cage draw is `d`, for the tenant as it stands. -/
def closing (d : Nat) (t : Tenant) : State :=
  { station with
    table := [⟨1, 679, d - 79700 - 12800, false, false, false⟩, ⟨7, 679, 12800, false, false, false⟩]
    recon := ⟨[t], 0, false⟩ }

/-- The tenant's record. -/
def record (s : State) : Tenant := (findTenant s 679).getD tenant

/-! ## The step and the queue -/

/-- Two commands wait. -/
def waiting : State := { running with pending := [.holdEnd 0, .gapExpiry] }

theorem test_step_takes_the_front : step waiting = .next { running with pending := [.gapExpiry] } := rfl

theorem test_fetch_word_changes_nothing : running.withFetchWord 8 0xC5 = running := rfl

/-! ## Bytes, characters and frames (spec/02, spec/11) -/

/-- spec/02, the SYNC character: the levels 0, 1, 0, 1, 0, 0, 0, 1, 1, 1, 1 from the start bit on. -/
def syncLevels : BitVec 11 := 0b11110001010

theorem test_sync_character : judgeCharacter syncLevels = .good 0xC5 := by decide
theorem test_sync_bits : (List.range 11).map (characterBit 0xC5) =
    [false, true, false, true, false, false, false, true, true, true, true] := by decide

/-- spec/02, "Check word, worked". -/
theorem test_check_word : linkFrame 1 3 [0x0A, 0x00] = [0xC5, 0x01, 0x03, 0x02, 0x0A, 0x00, 0x2B, 0x10] := by
  decide +kernel

/-- spec/04: tenant 679, 79,700 dW, SHED. -/
theorem test_report_entry : encodeEntry ⟨679, 79700, true, false⟩ = [0xA7, 0x12, 0x54, 0x37, 0x01] := by decide

/-- spec/02, "Two stations start together" and "A station whose driver does not reach the line". -/
theorem test_thresholds : startThreshold 3 0 = 62 ∧ startThreshold 14 1 = 62 ∧ startThreshold 5 0 = 94 ∧
    startThreshold 5 1 = 174 ∧ startThreshold 5 2 = 254 := by decide

/-! ## Levels, the demand step and the share (spec/05, spec/07) -/

theorem test_demand_steps : demandStep 2 128000 133500 = 129375 ∧ demandStep 2 129375 129377 = 129376 ∧
    demandStep 2 129376 110000 = 124532 ∧ demandStep 2 124532 124529 = 124531 ∧
    demandStep 2 124531 124531 = 124531 := by decide +kernel

theorem test_shares : share tenant = 8060 ∧ share { tenant with subtotal := 41000 } = 4147 ∧
    share { tenant with subtotal := 12800 } = 1295 ∧ share { tenant with draw := 190000 } = 29364 := by
  decide +kernel

/-! ## The start image (spec/11, "Power-on with a clamped image") -/

/-- The tenant record of 679 with 1,200 units and b = 40, the other fields as in spec/05. -/
def imageTenant679 : List Byte := [0xA7, 0x02, 0xB0, 0x04, 14, 40, 4, 3, 1, 0x45, 0x00]

/-- The image of the worked case, with one tenant record and the check bytes `b` and `a` (`chk` is offsets 4 and 5). -/
def imageBody : List Byte :=
  [0x7E, 0x18, 0x02, 0x01, 103, 0, 2, 60, 2, 4, 2, 2, 2, 2, 0x10, 0x40, 1, 9, 40, 1] ++
  [0, 0, 0, 0xA7, 0x02, 0x00, 0, 0, 0x80, 0, 0, 0, 0xA7, 0x02, 0x03, 0xA7, 0x02, 0x03, 0xA7, 0x02, 0x01] ++
  List.replicate 51 0 ++ imageTenant679

/-- The image with its check bytes. -/
def image : List Byte := imageBody ++ checkBytes imageBody

/-- The same image with tenant 679 at outlet 20, which is absent. -/
def badBody : List Byte := (imageBody.set 77 0xA7).set 78 0x02

/-- That image with its check bytes. -/
def badImage : List Byte := badBody ++ checkBytes badBody

/-- The station at the end of the hold with straps 2. -/
def reading : State := after (.holdEnd 2) State.reset

theorem test_straps : reading.loader.load = .reading ∧ reading.loader.station = 3 := by decide +kernel

theorem test_image_judged : imageAccepted image = true ∧ imageAccepted badImage = false ∧
    imageAccepted (image.set 7 61) = false ∧ imageAccepted [] = false := by decide +kernel

/-- spec/11: 0x03 and a 16-bit address of zero are sent; a wrong mark (a silent memory, or its first or second byte) and a
count of 25 stop the read after 20 bytes; one tenant record makes 72 + 11 + 2 bytes more. -/
theorem test_memory_port : memoryTransfer reading image = some ([0x03, 0, 0], 105) ∧
    (∀ im ∈ [[], image.set 0 0x7F, image.set 1 0, image.set 19 25], imageReadLength im = 20) ∧
    imageReadLength (image.set 19 24) = 20 + 72 + 264 + 2 ∧ memoryTransfer running image = none := by decide +kernel

theorem test_clamped : (imageParams image).periodTicks = 50 ∧ (imageParams image).stale = 4 ∧
    (imageParams image).expire = 5 ∧ pulseTime (imageParams image) = 80 ∧
    (imageTenantRecord image 0).b = 32 ∧ (imageTenantRecord image 0).burst = 240000 := by decide +kernel

theorem test_levels : (imageTenantRecord image 0).contract = 120000 ∧ (imageTenantRecord image 0).warn = 105000 ∧
    (imageTenantRecord image 0).release = 112500 := by decide +kernel

/-- The station once the image is installed. -/
def started : State := after (.imageReadComplete image) reading

theorem test_installation : started.monitor.link = .search ∧ (relayOutlet started 3).lock = true ∧
    started.relay.coil = some ⟨⟨1, .toClose, .start⟩, .pulse⟩ ∧ started.relay.queue.length = 15 ∧
    started.relay.queue[1]? = some ⟨3, .toOpen, .start⟩ ∧ started.recon.warmup = 5 := by decide +kernel

theorem test_rejection : let t := after (.imageReadComplete badImage) reading
    t.loader.load = .rejected ∧ t.alert.low = true ∧ latched t .imageFault = true := by decide +kernel

/-! ## Measurement (spec/01, "A period with a clamp, a bad check word and a stale frame") -/

/-- A converter frame with this sequence whose eight channels all read `raw`. -/
def converterFrame (sequence : Byte) (raw : Nat) : List Byte :=
  let body := [0x01, sequence] ++ (List.replicate 8 (leBytes 2 raw)).flatten
  body ++ checkBytes body

/-- The read of converter 1 is in hand. -/
def capturing : State := { running with meter := { running.meter with reading := some 1 } }

/-- The read of converter 2 is in hand, with its outlets at four missed ticks. -/
def missing : State :=
  { running with meter := { running.meter with
      reading := some 2
      outlets := figures.mapIdx fun i o => if 8 ≤ i ∧ i < 16 then { o with missed := 4 } else o } }

theorem test_clamped_sample : let t := after (.captureCompletion (converterFrame 98 41250)) capturing
    (meterOutlet t 7).held = 40000 ∧ (converter t 1).lastSequence = some 98 ∧ t.meter.reading = some 2 := by
  decide +kernel

theorem test_repeated_sequence : let t := after (.captureCompletion (converterFrame 96 21800)) capturing
    (meterOutlet t 7).held = 22000 ∧ (meterOutlet t 7).missed = 1 := by decide +kernel

theorem test_fifth_miss : let t := after .outletUnmeasured missing
    (meterOutlet t 12).unmeasured = true ∧ latched t .sampleFault = true ∧ t.time.tickCount = 3 := by decide +kernel

theorem test_tick : (after .tick running).meter.reading = some 1 ∧ after .tick State.reset = State.reset := by
  decide +kernel

/-! ## The excursion of tenant 679 (spec/06, "One excursion of tenant 679 at station 3") -/

theorem test_close_103 : let t := record (after .periodClose (closing 132000 { tenant with demand := 109500 }))
    t.demand = 115125 ∧ t.standing = .watch := by decide +kernel

/-- Close 105. -/
def close105 : State := after .periodClose (closing 134000 { tenant with demand := 119843, standing := .watch })

theorem test_close_105 : (record close105).demand = 123382 ∧ (record close105).standing = .excess ∧
    (record close105).grace = 3 ∧
    close105.records = [⟨.excessBegin, 679, 881, 134000, 123382, 120000, 0, []⟩] := by decide +kernel

/-- The tenant before close 108. -/
def before108 : Tenant := { tenant with demand := 127808, standing := .excess, grace := 1 }

/-- Close 108, by the row of the counter that runs out at it. -/
def close108 : State := after (.graceExpiry 679) (closing 133500 before108)

theorem test_close_108 : (record close108).demand = 129231 ∧ (record close108).standing = .curtail ∧
    (record close108).settle = 2 ∧ (relayOutlet close108 5).shed = some 18500 ∧ latched close108 .curtail = true ∧
    close108.records = [⟨.shed, 679, 881, 133500, 129231, 120000, 8060, [5]⟩] := by decide +kernel

theorem test_close_108_report : close108.link.ready = some ⟨10, [⟨679, 79700, true, false⟩]⟩ ∧
    close108.relay.coil = some ⟨⟨5, .toOpen, .change⟩, .pulse⟩ := by decide +kernel

/-- spec/07, "A round that falls short", with outlet 7 locked. -/
theorem test_round_falls_short : let s := closing 190000 { tenant with demand := 110000, standing := .watch }
    let t := after .periodClose (setRelayOutlet 7 (fun r => { r with lock := true }) s)
    (t.records.map fun r => (r.kind, r.share, r.outlets)) = [(.excessBegin, 0, []), (.unresolved, 29364, [5, 6])] ∧
      latched t .unresolved = true ∧ (relayOutlet t 6).shed = some 9200 := by decide +kernel

/-- Outlet 5 shed and open, at the power of the worked case. -/
def shed5 (s : State) : State := setRelayOutlet 5 (fun r => { r with relay := .off, shed := some 18500 }) s

/-- The station in a close with outlet 5 shed, at which the tenant's own outlets draw `61,200` dW and the cage `d`. -/
def shedClosing (d : Nat) (t : Tenant) : State :=
  shed5 { station with
    meter := { station.meter with outlets := figures.set 4 (drawing 0) }
    table := [⟨1, 679, d - 61200 - 12800, false, false, false⟩, ⟨7, 679, 12800, false, false, false⟩]
    recon := ⟨[t], 0, false⟩ }

/-- The tenant before close 117, whose M is 103,140 there. -/
def before117 : Tenant := { tenant with demand := 103140, standing := .recover, restore := 1 }

/-- Close 117: D 93,000, M 100,605. -/
def close117 : State := after (.restoreCounterExpiry 679) (shedClosing 93000 before117)

theorem test_close_117 : (record close117).demand = 100605 ∧ (record close117).standing = .clear ∧
    (close117.records.map fun r => (r.kind, r.outlets)) = [(.restore, [5]), (.excessEnd, [])] ∧
    (relayOutlet close117 5).shed = none ∧ latched close117 .restored = true := by decide +kernel

/-- Close 115: the projection 119,500 exceeds 112,500. -/
theorem test_close_115 : let t := after .periodClose (shedClosing 101000 before117)
    (relayOutlet t 5).shed = some 18500 ∧ (record t).standing = .recover ∧ (record t).restore = 2 ∧
      t.records = [] := by decide +kernel

/-- Close 111: the settle counter stands at 0, the share is 0, and the counter becomes 2 all the same. -/
def close111 : State :=
  after (.settleExpiry 679) (shedClosing 101000 { tenant with demand := 121000, standing := .curtail })

theorem test_close_111 : (record close111).settle = 2 ∧ (record close111).standing = .curtail ∧
    close111.records = [] := by decide +kernel

/-! ## Reports (spec/04, "One report applied") -/

/-- The report of station 7 that names 679, 3001 and 1210. -/
def report7 : List Byte :=
  linkFrame 1 7 (encodeReport ⟨20, [⟨679, 12800, false, false⟩, ⟨3001, 22000, false, false⟩,
    ⟨1210, 1000000, false, false⟩]⟩)

/-- Station 3 before that report, which the assembler has whole. -/
def reported : State :=
  { running with
    roster := running.roster.set 6 ⟨.late, 61, 20⟩
    table := [⟨7, 679, 12650, false, false, false⟩, ⟨7, 2044, 4100, false, false, true⟩]
    recon := ⟨[{ tenant with id := 1210, expected := 0x40, overflow := 0x40 }, { tenant with expected := 0x41 },
      { tenant with id := 2044, expected := 0x01 }], 0, false⟩
    link := { running.link with assembler := .inFrame report7.tail } }

theorem test_report_applied : let t := after .frameCompletion reported
    t.table = [⟨7, 679, 12800, false, false, false⟩, ⟨7, 1210, 960000, false, false, false⟩] ∧
      rosterRecord t 7 = ⟨.live, 0, 20⟩ ∧ (t.recon.tenants.map Tenant.overflow) = [0, 0, 0] := by decide +kernel

theorem test_report_is_assembled : report7.foldl assembleByte .armed = .inFrame report7.tail := by decide +kernel

/-- Station 7's report is whole when its own record, the last of the roster, is due to expire. -/
def lastExpiring : State := { reported with roster := (List.replicate 16 RosterRecord.blank).set 6 ⟨.late, 101, 20⟩ }

/-- R47, R48, R53: the expiry that empties the roster comes first, and JOINED becomes ALONE; station 7's report is then
heard and taken, and the link state becomes JOINED. -/
theorem test_report_after_expiry : let t := after .frameCompletion lastExpiring
    t.monitor.link = .joined ∧ t.monitor.heard = true ∧ latched t .linkAlone = true ∧
      rosterRecord t 7 = ⟨.live, 0, 20⟩ := by decide +kernel

/-! ## The coil (spec/08, "A round's opens, one of them stuck") -/

/-- Outlets 5 and 6 shed; the coil waits for the sample of outlet `n`. -/
def verifying (n x : Nat) : State :=
  setRelayOutlet n (fun r => { r with relay := .opening, shed := some 9200 })
    { running with relay := { running.relay with coil := some ⟨⟨n, .toOpen, .change⟩, .verify (some x)⟩ } }

theorem test_verify_off : let t := after .openVerify (verifying 5 12)
    (relayOutlet t 5).relay = .off ∧ (relayOutlet t 5).shed = some 9200 ∧ t.relay.coil = none := by decide +kernel

theorem test_verify_stuck : let t := after .openVerify (verifying 6 9150)
    (relayOutlet t 6).relay = .stuck ∧ (relayOutlet t 6).shed = none ∧ latched t .relayFault = true := by
  decide +kernel

theorem test_pulse_end : (after .pulseEnd started).relay.coil = some ⟨⟨1, .toClose, .start⟩, .settle⟩ := by
  decide +kernel

/-- spec/08, "Start-up pulses": CLOSE 1 settles and the coil takes CLOSE 2. -/
theorem test_settle_end : let t := after .settleEnd (after .pulseEnd started)
    (relayOutlet t 1).relay = .on ∧ (relayOutlet t 2).relay = .closing ∧
      t.relay.coil = some ⟨⟨2, .toClose, .start⟩, .pulse⟩ := by decide +kernel

/-! ## Gateway commands (spec/08 to spec/10) -/

/-- The start-up of spec/08 with the link ALONE, so that commands are taken. -/
def startedAlone : State := { started with monitor := { started.monitor with link := .alone } }

/-- LOCK_OFF of outlet 7, whose START job waits: it is reversed in place. -/
theorem test_lock_reverses_start_job : let t := after (.lockOff [7]) startedAlone
    (relayOutlet t 7).relay = .openPending ∧ (relayOutlet t 7).lock = true ∧
      t.relay.queue[5]? = some ⟨7, .toOpen, .start⟩ := by decide +kernel

theorem test_lock_protected : let t := after (.lockOff [12]) running
    t.link.slot = some ⟨0x03, .protectedOutlet, [], 0⟩ ∧ t.relay = running.relay := by decide +kernel

theorem test_unlock : let t := after (.unlock [3]) startedAlone
    (relayOutlet t 3).lock = false ∧ (relayOutlet t 3).relay = .closePending := by decide +kernel

theorem test_clear_fault : let s := setRelayOutlet 6 (fun r => { r with relay := .stuck, lock := true }) running
    (after (.clearFault [6]) s).relay.coil = some ⟨⟨6, .toOpen, .change⟩, .pulse⟩ := by decide +kernel

/-- spec/10: an answer waits in the slot, and the next command overruns. -/
theorem test_overrun : let t := after (.lockOff [6]) (after (.queryOutlet [12]) running)
    latched t .commandOverrun = true ∧ (relayOutlet t 6).lock = false := by decide +kernel

theorem test_query_outlet : ((after (.queryOutlet [12]) running).link.slot.map encodeResponse) =
    some [0x02, 0x00, 12, 0xA7, 0x02, 0, 1, 0, 0x30, 0x75, 0, 0] := by decide +kernel

theorem test_query_status : ((after (.queryStatus []) running).link.slot.map fun r => (r.result, r.data.length)) =
    some (.done, 37) ∧ (after (.queryStatus [2]) running).link.slot = some ⟨0x01, .badArgument, [], 0⟩ := by
  decide +kernel

/-- spec/09, "Acknowledgement and the gap": VIEW_DEGRADED, EXCESS, REPORT_SUPERSEDED and CURTAIL latched; ACK_EVENTS
names EXCESS and VIEW_DEGRADED. -/
def alerting : State :=
  { running with alert := (⟨0x4013, 0x4210, false, none⟩ : AlertUnit).refresh }

theorem test_ack : let t := after (.ackEvents [0x11, 0x00]) alerting
    t.alert.latches = 0x4002 ∧ t.alert.low = true := by decide +kernel

theorem test_end_alert : let t := after (.endAlert []) alerting
    alerting.alert.low = true ∧ t.alert.low = false ∧ t.alert.gap = some 1000 ∧ t.alert.latches = 0x4013 := by
  decide +kernel

theorem test_gap_expiry : (after .gapExpiry (after (.endAlert []) alerting)).alert.low = true := by decide +kernel

/-- A station with records to fetch. -/
def recorded (n : Nat) : State :=
  { running with records := List.replicate n ⟨.shed, 679, 881, 133500, 129231, 120000, 8060, [5]⟩ }

theorem test_fetch : let t := after (.fetchRecord []) (recorded 2)
    t.records.length = 1 ∧ t.link.slot.map Response.data = some [2, 0xA7, 0x02, 0x71, 0x03, 0, 0, 0x7C, 0x09, 0x02,
      0xCF, 0xF8, 0x01, 0xC0, 0xD4, 0x01, 0x7C, 0x1F, 0x00, 1, 5] := by decide +kernel

theorem test_fetch_empty : (after (.fetchRecord []) running).link.slot = some ⟨0x08, .empty, [], 0⟩ := by
  decide +kernel

/-- spec/09, "A full queue at one close": 15 records are held; tenant 679, whose grace is 0, passes into CURTAIL and sheds
outlet 5, and tenant 2044 ends its excursion. -/
def fullClose : State :=
  { closing 133500 { tenant with graceSetting := 0, standing := .watch } with
    recon := ⟨[{ tenant with graceSetting := 0, standing := .watch },
      { tenant with id := 2044, demand := 0, standing := .excess }], 0, false⟩
    records := (recorded 15).records }

/-- The station after some steps with no command waiting. -/
def idled (n : Nat) (s : State) : State := Nat.repeat idle n s

/-- The kinds of the newest two records, and whether one was lost. -/
def newest (s : State) : List RecordKind × Bool := ((s.records.drop 14).map ExcursionRecord.kind, latched s .recordLost)

theorem test_full_close : newest (after .periodClose fullClose) = ([.shed, .excessBegin], true) ∧
    (relayOutlet (after .periodClose fullClose) 5).shed = some 18500 := by decide +kernel

/-- R156: taken at idle steps, each part of the close appends its record at its own moment, and the parts are the close.
-/
theorem test_idle_close : ((List.range 6).map fun n => newest (idled (n + 1) fullClose)) =
      [([.shed], false), ([.shed, .excessBegin], false)] ++ List.replicate 4 ([.shed, .excessBegin], true) ∧
    idled 6 fullClose = after .periodClose fullClose := by decide +kernel

/-- R104: close 117 at idle steps: the RESTORE of one step, the EXCESS_END of the next. -/
theorem test_idle_departure : let s := shedClosing 93000 before117
    ((idled 3 s).records.map ExcursionRecord.kind, (record (idled 3 s)).standing) = ([.restore], .recover) ∧
      idled 5 s = close117 := by decide +kernel

/-- R156: a FETCH_RECORD between tenant 679's EXCESS_BEGIN and its SHED keeps the SHED; the EXCESS_END is lost. -/
theorem test_fetch_in_a_close : let t := idled 1 (after (.fetchRecord []) (idled 2 fullClose))
    newest t = ([.excessBegin, .shed], false) ∧ newest (idled 2 t) = ([.excessBegin, .shed], true) := by decide +kernel

/-- R77: a tick and a QUERY_STATUS that come into the close find all of it done. -/
theorem test_command_in_a_close : after .tick (idled 2 fullClose) = after .tick (after .periodClose fullClose) ∧
    after (.queryStatus []) (idled 3 fullClose) = after (.queryStatus []) (after .periodClose fullClose) := by
  decide +kernel

/-- R112: at the close outlet 5 is locked, or is still closing, so that its round takes outlet 6; an UNLOCK or the end of
the settle that comes into the close does not make outlet 5 a candidate of it. -/
theorem test_round_keeps_its_reading :
    (∀ p ∈ [(({ onOutlet 679 3 with lock := true } : RelayOutlet), none, Instr.unlock [5]),
        (⟨679, 3, .closing, false, none⟩, some ⟨⟨5, .toClose, .change⟩, .settle⟩, .settleEnd)],
      let s := setRelayOutlet 5 (fun _ => p.1) { fullClose with relay := { fullClose.relay with coil := p.2.1 } };
      let t := after p.2.2 (idled 2 s);
      (relayOutlet t 5).lock = false ∧ (relayOutlet t 5).relay = .on ∧ (relayOutlet t 5).shed = none ∧
        (relayOutlet t 6).shed = some 9200) := by decide +kernel

theorem test_invalid : (after (.invalidCommand 10 [1]) running).link.slot = some ⟨10, .invalid, [], 0⟩ := by
  decide +kernel

theorem test_restart_pending : (after (.restart []) running).restartPending = true ∧
    (after (.restart [1]) running).restartPending = false := by decide +kernel

/-! ## Restart (spec/11, "A restart with a remapped outlet") -/

/-- The response is done with and the coil is free; an OPEN of outlet 9 is queued. -/
def restarting : State :=
  setRelayOutlet 9 (fun _ => ⟨679, 2, .openPending, false, some 700⟩)
    { shed5 running with
      restartPending := true, relay := { (shed5 running).relay with queue := [⟨9, .toOpen, .change⟩] } }

theorem test_restart_reset : let t := after (.restartReset 2) restarting
    (relayOutlet t 9).relay = .on ∧ relayOutlet t 5 = ⟨679, 3, .off, false, some 18500⟩ ∧ t.relay.queue = [] ∧
      t.loader.load = .reading ∧ t.loader.afterRestart = true := by decide +kernel

theorem test_kept_shed_outlet : let t := after (.imageReadComplete image) (after (.restartReset 2) restarting)
    (relayOutlet t 5).shed = some 18500 ∧ (relayOutlet t 9).shed = none ∧ (record t).standing = .recover ∧
      (record t).restore = 2 := by decide +kernel

/-! ## The link (spec/02, spec/03) -/

/-- Station 5 of spec/02, whose driver does not reach the line: a response is FULL and the quiet time is 254. -/
def driving (faults : Nat) : State :=
  { running with
    loader := { running.loader with station := 5 }
    monitor := { running.monitor with faults := faults }
    link := { running.link with quiet := 254, sending := some .response, slot := some ⟨9, .done, [], 2⟩ } }

theorem test_first_fault : let t := after (.transmitFault 0) (driving 0)
    t.monitor.faults = 1 ∧ t.link.slot = some ⟨9, .done, [], 3⟩ ∧ t.link.quiet = 254 ∧ t.link.sending = none := by
  decide +kernel

theorem test_third_fault : let t := after (.txFaultLimit 0) (driving 2)
    t.monitor.link = .muted ∧ t.monitor.countdown = 64 ∧ t.link.slot = none ∧ latched t .txFault = true := by
  decide +kernel

/-- The first data bit of SYNC, bit 1 of the frame, is recessive. -/
theorem test_yield : let t := after (.yieldLine 1) (driving 0)
    t.link.slot = some ⟨9, .done, [], 3⟩ ∧ t.monitor.faults = 0 ∧ t.link.sending = none ∧
      t.link.assembler = .armed ∧ t.link.inCharacter = [false, false] := by decide +kernel

/-- R26: the Kind of a RESPONSE is 3; the station yields at its data bit 0 to a COMMAND, whose Kind is 2 (one bit set,
so the odd parity bit is 0). In the character neither the quiet nor the gap time is counted, and the copy goes on. -/
theorem test_yield_in_a_character :
    let t := after .gapError (after .assemblerArmed (after (.yieldLine 12) (driving 0)))
    (t.link.assembler, t.link.inCharacter) = (.inFrame [], [false, false]) ∧
      (after (.character 0b10000000100) t).link.assembler = .inFrame [2] := by decide +kernel

/-- R18, R30: bit 10 is the stop bit of SYNC; a party that is dominant there makes a framing error of it. -/
theorem test_yield_at_a_stop_bit : let t := after (.yieldLine 10) (driving 0)
    t.link.assembler = .waitQuiet ∧ t.link.inCharacter = [] ∧ t.monitor.charErrors = 1 ∧ t.monitor.faults = 0 := by
  decide +kernel

/-- R19, R31: SYNC's bit 2 is dominant, bit 1 recessive and bit 0 dominant; bit 11 is the start bit of Kind, after the
four recessive bits 7 to 10. The undriven level sets nothing back. -/
theorem test_fault_keeps_quiet : (after (.transmitFault 2) (driving 0)).link.quiet = 1 ∧
    (after (.transmitFault 11) (driving 0)).link.quiet = 4 := by decide +kernel

theorem test_success : let t := after .transmitSuccess (driving 2)
    t.link.slot = none ∧ t.monitor.faults = 0 := by decide +kernel

/-- spec/02, "Two stations start together": station 3 exchanges READY and SEND and starts at 62. -/
theorem test_attempt_start : let s := { running with link := { running.link with
      ready := some ⟨10, []⟩, readyNew := true } }
    let t := after .attemptStart s
    t.link.sending = some .report ∧ t.link.send = some ⟨⟨10, []⟩, 0⟩ ∧ t.link.readyNew = false ∧
      t.link.quiet = 62 := by decide +kernel

/-- spec/03, "Start-up into a running cage": the default rate is 250 kbit/s. -/
def searching : State :=
  { running with
    loader := { running.loader with params := { params with rateCode := 1 } }
    monitor := ⟨.search, some .kbit250, 1, some 6000, 0, 0, false, none, 0⟩
    roster := List.replicate 16 RosterRecord.blank
    table := [] }

theorem test_dwells : let t := after .dwellExpiry searching
    t.monitor.rate = some .kbit1000 ∧ (after .dwellExpiry t).monitor.rate = some .kbit500 ∧
      (after .dwellExpiry t).monitor.searchPosition = 3 := by decide +kernel

/-- Station 9's report completes in SEARCH. -/
def found : State :=
  { searching with link := { searching.link with
      assembler := .inFrame (linkFrame 1 9 (encodeReport ⟨12, []⟩)).tail } }

theorem test_rate_found : let t := after .frameCompletion found
    t.monitor.link = .joined ∧ t.monitor.check = some ⟨.entry, 0⟩ ∧ rosterRecord t 9 = ⟨.live, 0, 12⟩ := by
  decide +kernel

theorem test_characters : let t := after (.character syncLevels) (after .assemblerArmed running)
    (after .assemblerArmed running).link.assembler = .armed ∧ t.link.assembler = .inFrame [] ∧
      (after .gapError t).link.assembler = .armed := by decide +kernel

/-- ALONE with fifteen character errors and no frame heard. -/
def noisy : State := { running with monitor := { running.monitor with link := .alone, charErrors := 15 } }

theorem test_sixteenth_error : let t := after (.searchOnCharacterErrors 0x002) noisy
    t.monitor.link = .search ∧ t.monitor.charErrors = 0 := by decide +kernel

/-- MUTED with the check countdown at 1. -/
def muted : State := { station with monitor := { station.monitor with link := .muted, countdown := 1 } }

theorem test_countdown : let t := after .checkCountdownExpiry muted
    t.monitor.check = some ⟨.periodic, 0⟩ ∧ t.monitor.countdown = 0 := by decide +kernel

/-- Station 7's record as given. -/
def aged (state : RosterState) (age : Nat) : State := { running with roster := running.roster.set 6 ⟨state, age, 10⟩ }

theorem test_late : (rosterRecord (after (.stationLate 7) (aged .live 21)) 7).state = .late ∧
    (rosterRecord (after (.stationLate 7) (aged .live 20)) 7).state = .live := by decide +kernel

theorem test_expiry : let t := after (.stationExpiry 7) (aged .late 51)
    rosterRecord t 7 = ⟨.absent, 0, 0⟩ ∧ t.table = [⟨1, 679, 41000, false, false, false⟩] ∧
      t.monitor.link = .joined := by decide +kernel

theorem test_power_on : after .powerOnReset running = State.reset := by decide +kernel

/-! ## The rules that always hold, from checks on the lists -/

/-- What holds of every element and of the default holds of every place of a list. -/
theorem getD_all {α : Type} (l : List α) (d : α) (P : α → Prop) (h : ∀ x ∈ l, P x) (hd : P d) (i : Nat) :
    P (l.getD i d) := by
  rw [List.getD_eq_getElem?_getD]
  cases hi : l[i]? with
  | none => exact hd
  | some x => exact h x (List.mem_of_getElem? hi)

/-- An installed station is under no rest rule. -/
theorem rest_of (s : State) (h : s.loader.load = .installed) : RestUntilInstalled s := fun hn => absurd h hn

theorem meterRule_of (s : State)
    (h : (s.meter.outlets.length = 24 ∧ s.meter.converters.length = 3) ∧
      (∀ o ∈ s.meter.outlets, o.held ≤ 40000 ∧ o.missed ≤ 5 ∧ (o.unmeasured = true ↔ o.missed = 5) ∧
        o.accumulator ≤ 40000 * s.time.tickCount ∧ o.average ≤ 40000) ∧
      s.time.tickCount ≤ s.loader.params.periodTicks ∧
      (s.meter.reading ≠ none → s.time.tickCount < s.loader.params.periodTicks) ∧
      (∀ c ∈ s.meter.reading, 1 ≤ c ∧ c ≤ s.loader.params.converterCount) ∧
      5 ≤ s.loader.params.periodTicks ∧ 1 ≤ s.loader.params.converterCount ∧ s.loader.params.converterCount ≤ 3) :
    MeterRule s where
  outlets := h.1.1
  converters := h.1.2
  held n := getD_all _ _ (fun o => o.held ≤ 40000) (fun o ho => (h.2.1 o ho).1) (by decide) _
  missed n := getD_all _ _ (fun o => o.missed ≤ 5) (fun o ho => (h.2.1 o ho).2.1) (by decide) _
  unmeasured n := getD_all _ _ (fun o => (o.unmeasured = true ↔ o.missed = 5))
    (fun o ho => (h.2.1 o ho).2.2.1) (by decide) _
  accumulator n _ := getD_all _ _ (fun o => o.accumulator ≤ 40000 * s.time.tickCount)
    (fun o ho => (h.2.1 o ho).2.2.2.1) (Nat.zero_le _) _
  average n := getD_all _ _ (fun o => o.average ≤ 40000) (fun o ho => (h.2.1 o ho).2.2.2.2) (by decide) _
  ticks := h.2.2.1
  inRead := h.2.2.2.1
  reading c hc := h.2.2.2.2.1 c hc
  started _ := h.2.2.2.2.2

/-- A coil that waits for a verify sample holds an OPEN. -/
def verifiesOpen (c : CoilJob) : Bool :=
  match c.stage with
  | .verify _ => decide (c.job.dir = .toOpen)
  | _ => true

theorem relayRule_of (s : State)
    (h : (s.relay.outlets.length = 24 ∧
        ((s.relay.coil.map fun c => c.job.outlet).toList ++ s.relay.queue.map Job.outlet).Nodup) ∧
      (∀ j ∈ s.relay.queue, 1 ≤ j.outlet ∧ j.outlet ≤ 24 ∧ (relayOutlet s j.outlet).relay = j.dir.pending) ∧
      (∀ c ∈ s.relay.coil, 1 ≤ c.job.outlet ∧ c.job.outlet ≤ 24 ∧
        (relayOutlet s c.job.outlet).relay = c.job.dir.working) ∧
      (∀ n, n < 25 → 1 ≤ n → (relayOutlet s n).relay = .openPending ∨ (relayOutlet s n).relay = .closePending →
        ∃ j ∈ s.relay.queue, j.outlet = n) ∧
      (∀ n, n < 25 → 1 ≤ n → (relayOutlet s n).relay = .opening ∨ (relayOutlet s n).relay = .closing →
        ∃ c ∈ s.relay.coil, c.job.outlet = n) ∧
      (∀ c ∈ s.relay.coil, verifiesOpen c = true) ∧
      (s.relay.coil = none → s.restartPending = false → s.relay.queue = [])) : RelayRule s where
  outlets := h.1.1
  oneJob := h.1.2
  queued := h.2.1
  held c hc := h.2.2.1 c hc
  pendingHasJob n d h1 h2 hr := h.2.2.2.1 n (by omega) h1 (by cases d <;> simp [hr, JobDir.pending])
  workingHasCoil n d h1 h2 hr := by
    obtain ⟨c, hc, e⟩ := h.2.2.2.2.1 n (by omega) h1 (by cases d <;> simp [hr, JobDir.working])
    exact ⟨c, hc, e⟩
  verifyOpens j x hc := by simpa [verifiesOpen] using h.2.2.2.2.2.1 _ hc
  taken := h.2.2.2.2.2.2

theorem shedRule_of (s : State) (hl : s.relay.outlets.length = 24)
    (h : ∀ n, n < 25 → 1 ≤ n → (relayOutlet s n).shed ≠ none →
      1 ≤ (relayOutlet s n).cls ∧ (relayOutlet s n).lock = false ∧ (relayOutlet s n).relay ≠ .stuck ∧
        (relayOutlet s n).tenant ≠ 0 ∧ present s n = true)
    (ht : ∀ t ∈ s.recon.tenants, t.id ≠ 0) : ShedRule s where
  shed n h1 h2 := by
    rcases Nat.lt_or_ge n 25 with h3 | h3
    · have e := h n h3 h1 h2
      exact ⟨e.1, e.2.1, e.2.2.1, e.2.2.2.1, fun _ => e.2.2.2.2⟩
    · refine absurd ?_ h2
      rw [relayOutlet, List.getD_eq_default _ _ (by omega)]
      rfl
  tenants := ht

/-- Nothing waits from the last tick completion. -/
theorem tickWorkTaken_of (s : State) (h : s.closeInHand = none ∧ verifyDue s = false ∧
    (∀ n, n < 17 → lateDue s n = false ∧ expiryDue s n = false) ∧ closeDue s = false) : TickWorkTaken s where
  inHand := h.1
  verify := h.2.1
  late n := by
    rcases Nat.lt_or_ge n 17 with h1 | h1
    · exact (h.2.2.1 n h1).1
    · simp [lateDue]; omega
  expiry n := by
    rcases Nat.lt_or_ge n 17 with h1 | h1
    · exact (h.2.2.1 n h1).2
    · simp [expiryDue]; omega
  close := h.2.2.2

/-- A command of the gateway that the station is in the state to take. -/
theorem taken_of (arg : List Byte) (s : State)
    (h : arg.length ≤ 2 ∧
      (s.monitor.link = .alone ∨ s.monitor.link = .joined ∨ s.monitor.link = .muted ∨ s.monitor.link = .duplicate) ∧
      s.link.slot = none ∧ s.restartPending = false) : CommandTaken arg s := ⟨h.1, h.2.1, h.2.2.1, h.2.2.2⟩

theorem lineFree_of (s : State)
    (h : s.monitor.rate ≠ none ∧ s.link.sending = none ∧ completedFrame s = none) : LineFree s := ⟨h.1, h.2.1, h.2.2⟩

/-- In a frame that lacks characters the gap time is below 3 and the quiet time not above it. -/
def gapHeld (s : State) : Bool :=
  match s.link.assembler with
  | .inFrame b => linkComplete b || decide (s.link.gap < 3 ∧ s.link.quiet ≤ s.link.gap)
  | _ => true

theorem transmitRule_of (s : State)
    (h : (∀ k ∈ s.link.sending, permits s.monitor.link k = true) ∧
      ((s.link.slot ≠ none → permits s.monitor.link .response = true) ∧
        (s.link.send ≠ none → permits s.monitor.link .report = true) ∧
        (s.monitor.check ≠ none → permits s.monitor.link .lineCheck = true)) ∧
      ((s.link.sending = some .lineCheck → s.monitor.check ≠ none) ∧
        (s.link.sending = some .response → s.link.slot ≠ none) ∧
        (s.link.sending = some .report → s.link.send ≠ none) ∧ (s.link.readyNew = true → s.link.ready ≠ none)) ∧
      ((s.link.sending ≠ none → s.link.inCharacter = []) ∧ s.link.inCharacter.length < 11 ∧ s.link.quiet ≤ 255) ∧
      gapHeld s = true) : TransmitRule s where
  driven k hk := h.1 k hk
  slot := h.2.1.1
  send := h.2.1.2.1
  check := h.2.1.2.2
  checkHeld := h.2.2.1.1
  responseHeld := h.2.2.1.2.1
  reportHeld := h.2.2.1.2.2.1
  readyHeld := h.2.2.1.2.2.2
  character := h.2.2.2.1.1
  short := h.2.2.2.1.2.1
  quiet := h.2.2.2.1.2.2
  gap b hb hc := by simpa [gapHeld, hb, hc] using h.2.2.2.2

/-- Which levels go on from those read, checked place by place. -/
theorem goesOn_of (levels : BitVec 11) (s : State)
    (h : s.link.inCharacter.length < 11 ∧
      ∀ i, i < s.link.inCharacter.length → s.link.inCharacter.getD i false = levels.getLsbD i) : GoesOn levels s where
  short := h.1
  agree i b hb := by
    obtain ⟨hi, e⟩ := List.getElem?_eq_some_iff.mp hb
    rw [← h.2 i hi, List.getD_eq_getElem _ _ hi, e]

/-! ## States for the witnesses -/

/-- After the round that falls short: OPEN 5 in its pulse, OPEN 6 queued, outlet 7 locked; the pulse ends next. -/
def shedding : State :=
  { after .periodClose (setRelayOutlet 7 (fun r => { r with lock := true })
      (closing 190000 { tenant with demand := 110000, standing := .watch })) with pending := [.pulseEnd] }

/-- The station with this frame whole in the assembler. -/
def hearing (f : List Byte) (s : State) : State := { s with link := { s.link with assembler := .inFrame f } }

/-- The station in another link state. -/
def inState (l : LinkState) (s : State) : State := { s with monitor := { s.monitor with link := l } }

/-- The coil holds this job in this stage. -/
def coiled (n : Nat) (d : JobDir) (st : CoilStage) (shed : Option Nat) : State :=
  setRelayOutlet n (fun r => { r with relay := d.working, shed := shed })
    { running with relay := { running.relay with coil := some ⟨⟨n, d, .change⟩, st⟩ } }

/-- A frame of this kind is being driven, with everything it can carry present. -/
def sending (k : SendKind) (check : CheckKind) (faults : Nat) : State :=
  { running with
    monitor := { running.monitor with check := some ⟨check, 0⟩, faults := faults }
    link := { running.link with
      sending := some k, slot := some ⟨9, .done, [], 15⟩, send := some ⟨⟨10, []⟩, 15⟩ } }

/-- These levels have been read of a character that goes on after a yield. -/
def inCharacter (c : List Bool) (s : State) : State := { s with link := { s.link with inCharacter := c } }

/-- A frame of which one character has been taken, with the gap time and the quiet time at these values. -/
def inGap (gap quiet : Nat) : State :=
  { running with link := { running.link with assembler := .inFrame [1], gap := gap, quiet := quiet } }

/-- Outlet 5 is shed, and its OPEN waits behind the pulse of outlet 6's. -/
def shedWaiting : State :=
  setRelayOutlet 5 (fun r => { r with relay := .openPending, shed := some 18500 })
    (setRelayOutlet 6 (fun r => { r with relay := .opening })
      { station with relay := ⟨outlets, [⟨5, .toOpen, .change⟩], some ⟨⟨6, .toOpen, .change⟩, .pulse⟩⟩ })

/-- Outlet 5 is shed and locked, as no run makes it. -/
def shedLocked : State := setRelayOutlet 5 (fun r => { r with lock := true }) (shed5 station)

/-- The tenant's record as a round or a restore step finds it. -/
def withTenant (t : Tenant) (s : State) : State := { s with recon := { s.recon with tenants := [t] } }

/-- A RESPONSE of station 9. -/
def response9 : List Byte := (linkFrame 3 9 [1, 2]).tail

/-- A report of another station with station 3's own number. -/
def report3 : List Byte := (linkFrame 1 3 (encodeReport ⟨10, []⟩)).tail

/-- A report from a source that is no station. -/
def report17 : List Byte := (linkFrame 1 17 (encodeReport ⟨10, []⟩)).tail

/-- A COMMAND of the gateway for station 3: QUERY_OUTLET 16. -/
def command3 : List Byte := (linkFrame 2 0 [3, 2, 16]).tail

/-- The restarted station before its image is read, with outlet 1 UNKNOWN and outlet 16 STUCK. -/
def kept : State :=
  setRelayOutlet 1 (fun r => { r with relay := .unknown })
    (setRelayOutlet 16 (fun r => { r with relay := .stuck }) (after (.restartReset 2) restarting))

/-- The roster with station `n`'s record as given. -/
def agedAt (n : Nat) (state : RosterState) (age : Nat) : State :=
  { running with roster := running.roster.set (n - 1) ⟨state, age, 10⟩ }

/-- Outlet 5 is the last shed outlet of the tenant, in RECOVER. -/
def recovering (warmup records : Nat) : State :=
  { shed5 (recorded records) with recon := ⟨[{ tenant with standing := .recover }], warmup, false⟩ }

/-! ## A state and operands for the hypotheses of each statement -/

theorem witness_StepRunsTheFrontCommand : waiting.pending = .holdEnd 0 :: [.gapExpiry] := rfl

theorem witness_IdleStepTakesWhatIsDue :
    (reported.pending = [] ∧ completedFrame reported ≠ none) ∧
    (let s := verifying 5 12;
      s.pending = [] ∧ completedFrame s = none ∧ s.closeInHand = none ∧ verifyDue s = true) ∧
    (∀ n ∈ [1, 2, 3, 5], let s := idled n fullClose;
      s.pending = [] ∧ completedFrame s = none ∧ s.closeInHand ≠ none) ∧
    (∀ s ∈ [station, agedAt 7 .late 51], s.pending = [] ∧ completedFrame s = none ∧ verifyDue s = false ∧
      s.closeInHand = none ∧ tickWorkDue s = true) ∧
    (closeDue (afterAll rosterRows station) = true ∧ closeDue (afterAll rosterRows (agedAt 7 .late 51)) = false) ∧
    (let s := { running with link := { running.link with quiet := 62, ready := some ⟨10, []⟩, readyNew := true } };
      s.pending = [] ∧ completedFrame s = none ∧ verifyDue s = false ∧ s.closeInHand = none ∧ tickWorkDue s = false ∧
        attemptDue s = true) ∧
    (running.pending = [] ∧ completedFrame running = none ∧ verifyDue running = false ∧ running.closeInHand = none ∧
      tickWorkDue running = false ∧ attemptDue running = false) ∧
    (∀ c ∈ [([] : List Bool), [false], false :: List.replicate 8 true, false :: List.replicate 9 true],
      let s := inCharacter c running;
      listening s = true ∧ completedFrame s = none ∧ attemptDue s = false ∧ s.link.inCharacter = c) ∧
    (let s := inState .linkOff { running with monitor := { running.monitor with rate := none } };
      listening s = false ∧ completedFrame s = none ∧ attemptDue s = false) := by decide +kernel

theorem witness_StepKeepsAlertRule : AlertRule shedding ∧ ∃ t, step shedding = .next t := by
  refine ⟨⟨fun _ => ⟨by decide +kernel, .curtail, by decide +kernel, Or.inr (by decide +kernel)⟩, fun _ => ?_⟩, _, rfl⟩
  decide +kernel

theorem witness_StepKeepsTransmitRule :
    (TransmitRule (sending .response .entry 2) ∧ ∃ t, step (sending .response .entry 2) = .next t) ∧
    (TransmitRule (inCharacter [false, true] running) ∧ ∃ t, step (inCharacter [false, true] running) = .next t) ∧
    (TransmitRule (inGap 2 2) ∧ ∃ t, step (inGap 2 2) = .next t) :=
  ⟨⟨transmitRule_of _ (by decide +kernel), _, rfl⟩, ⟨transmitRule_of _ (by decide +kernel), _, rfl⟩,
    transmitRule_of _ (by decide +kernel), _, rfl⟩

/-- Close 117 after the restore step: the tenant, in RECOVER without a shed outlet, departs next. -/
def departing : State := idled 3 (shedClosing 93000 before117)

/-- The conditions of ExcursionRule where no departure is in hand. -/
theorem excursionRule_of (s : State) (h : (s.recon.tenants.map Tenant.id).Nodup ∧
    (∀ r ∈ s.recon.tenants, shedOutlets s r.id ≠ [] → r.standing = .curtail ∨ r.standing = .recover) ∧
    (∀ r ∈ s.recon.tenants, r.standing = .recover → shedOutlets s r.id ≠ []) ∧ s.records.length ≤ 16) :
    ExcursionRule s := ⟨h.1, h.2.1, fun r hr hs => .inl (h.2.2.1 r hr hs), h.2.2.2⟩

theorem excursionRule_departing : ExcursionRule departing where
  ids := by decide +kernel
  shedding := by decide +kernel
  recovering r hr _ := .inr ⟨[], (by decide +kernel :
    ∀ r ∈ departing.recon.tenants, departing.closeInHand = some ⟨.departure, [r.id]⟩) r hr⟩
  records := by decide +kernel

theorem restRule_reading : RestRule reading := by constructor <;> decide +kernel

theorem witness_StepKeepsRestUntilInstalled :
    RestUntilInstalled reading ∧ reading.loader.load ≠ .installed ∧ ∃ t, step reading = .next t :=
  ⟨fun _ => restRule_reading, by decide +kernel, _, rfl⟩

theorem witness_StepKeepsMeterRule : RestUntilInstalled missing ∧ MeterRule { missing with
      meter := { missing.meter with outlets := List.replicate 24 ⟨40000, 80000, 5, true, 40000⟩ } } ∧
    ∃ t, step missing = .next t :=
  ⟨rest_of _ (by decide +kernel), meterRule_of _ (by decide +kernel), _, rfl⟩

theorem meterRule_shedding : MeterRule shedding := meterRule_of _ (by decide +kernel)
theorem relayRule_shedding : RelayRule shedding := relayRule_of _ (by decide +kernel)

theorem witness_StepKeepsRelayRule : RestUntilInstalled shedding ∧ MeterRule shedding ∧ RelayRule shedding ∧
    shedding.relay.queue = [⟨6, .toOpen, .change⟩] ∧ ∃ t, step shedding = .next t :=
  ⟨rest_of _ (by decide +kernel), meterRule_shedding, relayRule_shedding, by decide +kernel, _, rfl⟩

theorem witness_StepKeepsShedRule : RestUntilInstalled shedding ∧ ShedRule shedding ∧
    (relayOutlet shedding 6).shed = some 9200 ∧ ∃ t, step shedding = .next t :=
  ⟨rest_of _ (by decide +kernel),
    shedRule_of _ (by decide +kernel) (by decide +kernel) (by decide +kernel), by decide +kernel, _, rfl⟩

theorem tableRule_shedding : TableRule shedding := by constructor <;> decide +kernel

theorem witness_StepKeepsTableRule : RestUntilInstalled shedding ∧ TableRule shedding ∧ shedding.table.length = 2 ∧
    ∃ t, step shedding = .next t :=
  ⟨rest_of _ (by decide +kernel), tableRule_shedding, by decide +kernel, _, rfl⟩

theorem excursionRule_shedding : ExcursionRule shedding := excursionRule_of _ (by decide +kernel)
theorem excursionRule_recovering : ExcursionRule (recovering 1 16) := excursionRule_of _ (by decide +kernel)

theorem witness_StepKeepsExcursionRule :
    (RestUntilInstalled shedding ∧ ExcursionRule shedding ∧ shedOutlets shedding 679 = [5, 6] ∧
      ∃ t, step shedding = .next t) ∧
    (RestUntilInstalled (recovering 1 16) ∧ ExcursionRule (recovering 1 16) ∧
      ∃ t, step (recovering 1 16) = .next t) ∧
    (RestUntilInstalled departing ∧ ExcursionRule departing ∧ (record departing).standing = .recover ∧
      shedOutlets departing 679 = [] ∧ ∃ t, step departing = .next t) :=
  ⟨⟨rest_of _ (by decide +kernel), excursionRule_shedding, by decide +kernel, _, rfl⟩,
    ⟨rest_of _ (by decide +kernel), excursionRule_recovering, _, rfl⟩,
    rest_of _ (by decide +kernel), excursionRule_departing, by decide +kernel, by decide +kernel, idle departing, by
      rw [step, (by decide +kernel : departing.pending = [])]⟩

/-- A period close, a character at which no frame completes, and the completion of a COMMAND that is no ACK_EVENTS. -/
theorem witness_LatchesStayUntilAcknowledged :
    (latched alerting .excess = true ∧ latched alerting .reportSuperseded = true) ∧
    (∃ t, exec .periodClose alerting = .next t) ∧
    (completedFrame alerting = none ∧ ∃ t, exec (.character 0) alerting = .next t) ∧
    (completedFrame (hearing command3 alerting) = some command3 ∧ linkKind command3 = 2 ∧
      (linkPayload command3).getD 1 0 ≠ 6 ∧ ∃ t, exec .frameCompletion (hearing command3 alerting) = .next t) :=
  ⟨by decide +kernel, ⟨_, rfl⟩, ⟨by decide +kernel, _, rfl⟩, by decide +kernel, by decide +kernel, by decide +kernel,
    _, rfl⟩

theorem witness_InstalledValuesStay :
    (station.recon.tenants.map Tenant.id).Nodup ∧ ∃ t, exec .periodClose station = .next t := ⟨by decide +kernel, _, rfl⟩

/-- Twenty-four entries, the most a report carries. -/
def fullReport : Snapshot := ⟨255, (List.range 24).map fun i => ⟨4095 - i, 1048575, true, true⟩⟩

theorem witness_ReportsSurviveTheLink :
    (1 ≤ fullReport.periodTicks ∧ fullReport.periodTicks < 256 ∧ fullReport.entries.length ≤ 24 ∧
      (∀ e ∈ fullReport.entries, 1 ≤ e.tenant ∧ e.tenant < 4096 ∧ e.value < 1048576) ∧
      (fullReport.entries.map ReportEntry.tenant).Nodup ∧ 1 ≤ 16 ∧ 16 ≤ 16 ∧ 16 ≠ 1) ∧
    (let r : Snapshot := ⟨1, [⟨1, 0, false, false⟩]⟩;
      1 ≤ r.periodTicks ∧ (∀ e ∈ r.entries, 1 ≤ e.tenant ∧ e.tenant < 4096 ∧ e.value < 1048576) ∧ 1 ≠ 2) := by
  decide +kernel

theorem witness_SentFramesAreReceived :
    (1 ≤ 4 ∧ 4 ≤ 4 ∧ 255 < 256 ∧ (List.replicate 200 (0xC5 : Byte)).length ≤ 200) ∧
    ∀ i, i < 11 → syncLevels.getLsbD i = characterBit 0xC5 i := by decide +kernel

theorem witness_PowerOnResetAndHold : State.reset.loader.load = .held ∧ running.loader.load ≠ .held := by
  decide +kernel

/-- An image that is read whole, and one of 24 records' count that is not; an image cut off before its last byte is
shorter than what is read of it. -/
theorem witness_ImagesAreCheckedWhole :
    (reading.loader.load = .reading ∧ imageAccepted badImage = false ∧ reading.alert.gap = none) ∧
    imageReadLength image = image.length ∧ imageReadLength image.dropLast = image.length ∧
    imageReadLength (image.set 19 25) ≤ image.length := by decide +kernel

theorem witness_AcceptedImageIsInstalledAfterPowerOn :
    reading.loader.load = .reading ∧ reading.loader.afterRestart = false ∧ reading.restartPending = false ∧
      imageAccepted image = true := by decide +kernel

theorem witness_AcceptedImageIsInstalledAfterRestart :
    kept.loader.load = .reading ∧ kept.loader.afterRestart = true ∧ kept.restartPending = false ∧
      kept.relay.queue = [] ∧ kept.relay.coil = none ∧ imageAccepted image = true ∧ imageByte image 6 = 2 ∧
      (relayOutlet kept 9).relay = .on ∧ (relayOutlet kept 5).relay = .off ∧
      (relayOutlet kept 1).relay = .unknown ∧ (relayOutlet kept 16).relay = .stuck := by decide +kernel

theorem witness_TenantLevelsFollowTheContract : imageTenantRecord image 0 = { imageTenantRecord image 0 with
    units := 1200, w := 14, b := 32, h := 4 } := by decide +kernel

/-- With nothing left, with an expiry, with a close and with a part of one left of the last tick, and where no tick can
come. -/
theorem witness_TickStartsAReadCycle :
    (running.time.running = true ∧ running.meter.reading = none ∧ TickWorkTaken running) ∧
    (∀ s ∈ [station, agedAt 16 .late 51], s.time.running = true ∧ s.meter.reading = none ∧ tickWorkDue s = true) ∧
    ((idled 2 fullClose).time.running = true ∧ (idled 2 fullClose).meter.reading = none ∧
      (idled 2 fullClose).closeInHand ≠ none) ∧
      State.reset.time.running = false ∧ capturing.meter.reading ≠ none :=
  ⟨⟨by decide +kernel, by decide +kernel, tickWorkTaken_of _ (by decide +kernel)⟩, by decide +kernel⟩

/-- The read of converter 1 while the coil waits for a sample of outlet `n`. -/
def capturingFor (n : Nat) : State :=
  { coiled n .toOpen (.verify none) none with meter := capturing.meter }

theorem witness_AcceptedFrameIsApplied : ∀ n ∈ [8, 9],
    let s := capturingFor n;
    s.meter.reading = some 1 ∧ 1 ≤ s.loader.params.converterCount ∧ s.loader.params.converterCount ≤ 3 ∧
      s.meter.outlets.length = 24 ∧ s.meter.converters.length = 3 ∧
      frameAccepted (converter s 1).lastSequence (serialBytes (converterFrame 97 40001) 0 20) = true ∧
      s.relay.coil = some ⟨⟨n, .toOpen, .change⟩, .verify none⟩ := by decide +kernel

theorem witness_RejectedFrameIsAMissedTick :
    (missing.meter.reading = some 2 ∧ 2 ≤ missing.loader.params.converterCount ∧
      missing.loader.params.converterCount ≤ 3 ∧ missing.meter.outlets.length = 24 ∧
      missing.meter.converters.length = 3 ∧
      frameAccepted (converter missing 2).lastSequence (serialBytes (converterFrame 40 0) 0 20) = false ∧
      (meterOutlet missing 16).missed = 4) ∧
    (capturing.meter.reading = some 1 ∧
      frameAccepted (converter capturing 1).lastSequence (serialBytes [] 0 20) = false ∧
      ∀ j, j < 9 → 1 ≤ j → (meterOutlet capturing j).missed ≠ 4) := by decide +kernel

theorem witness_StationsGoLateAndExpire :
    ((rosterRecord (agedAt 1 .live 21) 1).state = .live ∧ 2 * 10 < 21) ∧
    (∀ n ∈ [1, 16], (agedAt n .late 51).roster.length = 16 ∧ (rosterRecord (agedAt n .late 51) n).state = .late ∧
      (agedAt n .late 51).loader.params.expire * (rosterRecord (agedAt n .late 51) n).period <
        (rosterRecord (agedAt n .late 51) n).age) := by decide +kernel

theorem witness_PeriodCloseMakesAveragesAndReport : (closeDue station = true ∧ station.closeInHand = none) ∧
    (closeDue { station with time := ⟨true, 9, 880⟩ } = false ∧ closeDue { muted with time := ⟨true, 9, 880⟩ } = false) ∧
    (closeDue muted = true ∧ muted.closeInHand = none ∧ muted.monitor.link = .muted ∧ muted.monitor.check = none ∧
      muted.monitor.countdown ≤ 1) ∧
    (let s := { station with link := { station.link with readyNew := true } };
      closeDue s = true ∧ s.closeInHand = none ∧ s.link.readyNew = true ∧ s.monitor.link = .joined) ∧
    (let s := { idled 2 fullClose with time := station.time };
      closeDue s = true ∧ s.closeInHand ≠ none) := by decide +kernel

theorem witness_CloseFiguresFollowTheRules :
    closeDue station = true ∧ station.closeInHand = none ∧ (station.recon.tenants.map Tenant.id).Nodup ∧
      tenant ∈ station.recon.tenants := by
  decide +kernel

theorem witness_ShareIsRoundedUp :
    ({ tenant with draw := 120000 } : Tenant).draw ≤ tenant.contract ∧
    ({ tenant with subtotal := 0 } : Tenant).subtotal = 0 ∧
    (tenant.contract < ({ tenant with draw := 120001, subtotal := 1 } : Tenant).draw ∧ 0 < 1) ∧
    (tenant.contract < tenant.draw ∧ ({ tenant with subtotal := 133500 } : Tenant).subtotal = tenant.draw) := by
  decide +kernel

/-- R135, R156: a round finds the coil free, or another outlet's job in it, and room for its record, or none. -/
theorem witness_ShedRoundTakesTheFewest : (∀ n ∈ [15, 16], let s := { station with records := (recorded n).records };
      findTenant s 679 = some tenant ∧ s.records.length = n) ∧ (RelayRule station ∧ station.relay.coil = none) ∧
    (RelayRule (coiled 16 .toOpen .pulse none) ∧ (coiled 16 .toOpen .pulse none).relay.coil ≠ none ∧
      0 < (shedTaken (coiled 16 .toOpen .pulse none) 679 (share tenant)).length) ∧
    (findTenant station 679 = some tenant ∧ station.relay.outlets.length = 24 ∧
      station.loader.params.converterCount ≤ 3 ∧ ¬ (tenant.view = .isolated ∧ tenant.subtotal ≤ tenant.contract) ∧
      0 < share tenant) ∧
    (let t := { tenant with view := .isolated, subtotal := 120000 };
      findTenant (withTenant t station) 679 = some t ∧ t.view = .isolated ∧ t.subtotal ≤ t.contract) ∧
    (let t := { tenant with draw := 120000 };
      findTenant (withTenant t station) 679 = some t ∧ share t = 0) ∧
    (let t := { tenant with draw := 1000000 };
      ((shedTaken (withTenant t station) 679 (share t)).map fun n =>
        (meterOutlet (withTenant t station) n).average).sum < share t) :=
  ⟨by decide +kernel, ⟨relayRule_of _ (by decide +kernel), rfl⟩,
    ⟨relayRule_of _ (by decide +kernel), by decide +kernel⟩, by decide +kernel⟩

/-- Outlet 5 is shed and open, with the coil free, and shed with its OPEN still queued behind another outlet's job. -/
theorem witness_RestoreStepTakesTheFirst :
    (findTenant station 679 = some tenant ∧ restoreCandidates station 679 = []) ∧
    (∀ s ∈ [shed5 { station with table := [⟨7, 679, 12800, true, false, false⟩] }, shedWaiting],
      let t := { tenant with draw := 94000 };
      let s := withTenant t s;
      findTenant s 679 = some t ∧ s.relay.outlets.length = 24 ∧ s.loader.params.converterCount ≤ 3 ∧
        restoreCandidates s 679 = [5] ∧ t.view = .complete ∧ s.loader.station = 3 ∧
        (∀ e ∈ s.table, e.source < 3 → e.shed = false) ∧
        t.draw + (relayOutlet s 5).shed.getD 0 = t.release) ∧
    (let t := { tenant with draw := 94001 };
      let s := withTenant t (shed5 station);
      restoreCandidates s 679 = [5] ∧ ¬ t.draw + (relayOutlet s 5).shed.getD 0 ≤ t.release) ∧
    (∀ n ∈ [15, 16], let s := shed5 { station with records := (recorded n).records };
      restoreCandidates s 679 = [5] ∧ s.records.length = n) ∧
    (RelayRule (shed5 station) ∧ (relayOutlet (shed5 station) 5).relay = .off) ∧
    (RelayRule shedWaiting ∧ (relayOutlet shedWaiting 5).relay = .openPending) ∧
    (RelayRule shedLocked ∧ (relayOutlet shedLocked 5).lock = true ∧ restoreCandidates shedLocked 679 = [5]) :=
  ⟨by decide +kernel, by decide +kernel, by decide +kernel, by decide +kernel,
    ⟨relayRule_of _ (by decide +kernel), by decide +kernel⟩, ⟨relayRule_of _ (by decide +kernel), by decide +kernel⟩,
    relayRule_of _ (by decide +kernel), by decide +kernel⟩

theorem relayRule_closing (t : Tenant) : RelayRule (closing 133500 t) where
  outlets := rfl
  oneJob := .nil
  queued j hj := nomatch hj
  held c hc := nomatch hc
  pendingHasJob n d h1 h2 hr := absurd hr (by interval_cases n <;> cases d <;> exact of_decide_eq_true rfl)
  workingHasCoil n d h1 h2 hr := absurd hr (by interval_cases n <;> cases d <;> exact of_decide_eq_true rfl)
  verifyOpens j x hc := nomatch hc
  taken _ _ := rfl

theorem witness_StandingFollowsTheRules :
    (∀ st ∈ [Standing.clear, .watch, .excess, .curtail, .recover], let t := { tenant with standing := st };
      closeDue (closing 133500 t) = true ∧ ((closing 133500 t).recon.tenants.map Tenant.id).Nodup ∧
        (closing 133500 t).recon.warmup = 0 ∧ t ∈ (closing 133500 t).recon.tenants ∧
        (closing 133500 t).relay.outlets.length = 24 ∧ (closing 133500 t).loader.params.converterCount ≤ 3 ∧
        (closing 133500 t).records.length ≤ 16 ∧ (closing 133500 t).closeInHand = none) ∧
    ∀ t : Tenant, RelayRule (closing 133500 t) := ⟨by decide +kernel, relayRule_closing⟩

theorem witness_WarmupCloseEvaluatesNothing :
    let s := { station with recon := { station.recon with warmup := 1 } };
    closeDue s = true ∧ (s.recon.tenants.map Tenant.id).Nodup ∧ 0 < s.recon.warmup ∧ s.closeInHand = none := by
  decide +kernel

theorem witness_CounterExpiriesAreCloses :
    (let s := closing 150000 { before108 with demand := 119997 };
      closeDue s = true ∧ s.closeInHand = none ∧ (s.recon.tenants.map Tenant.id).Nodup ∧ s.recon.warmup = 0 ∧
        s.recon.seedDue = false ∧ cageDraw (closeMeter s) 679 = tenant.burst ∧
        tenant.contract < demandStep s.loader.params.k 119997 (cageDraw (closeMeter s) 679)) ∧
    (let s := shedClosing 112501 { tenant with demand := 112501, standing := .curtail };
      closeDue s = true ∧ s.closeInHand = none ∧ s.recon.seedDue = false ∧
        demandStep s.loader.params.k 112501 (cageDraw (closeMeter s) 679) = tenant.release + 1) ∧
    (let s := shedClosing 120000 { before117 with demand := 120000 };
      closeDue s = true ∧ s.closeInHand = none ∧ s.recon.seedDue = false ∧ cageDraw (closeMeter s) 679 ≤ tenant.burst ∧
        demandStep s.loader.params.k 120000 (cageDraw (closeMeter s) 679) = tenant.contract) ∧
    (closeDue running = false ∧ findTenant station 680 = none ∧ 0 < (recovering 1 0).recon.warmup ∧
      (recovering 1 0).closeInHand = none) ∧
    (closeDue station = true ∧ station.closeInHand = none ∧ station.recon.warmup = 0 ∧ tenant ∈ station.recon.tenants ∧
      tenant.standing = .clear) ∧
    (let s := { idled 2 fullClose with time := station.time };
      closeDue s = true ∧ s.closeInHand ≠ none ∧ ((finishClose s).recon.tenants.map Tenant.id).Nodup ∧
        (finishClose s).recon.warmup = 0 ∧ (finishClose s).recon.tenants.length = 2) := by decide +kernel

/-- Between characters, and in a character of which the start bit and data bit 0 of SYNC have been read. -/
theorem witness_CharactersMoveTheAssembler : ∀ c ∈ [[], [false, true]],
    LineFree (inCharacter c running) ∧
    (∀ levels ∈ [(0x002 : BitVec 11), syncLevels], GoesOn levels (inCharacter c running)) ∧
    judgeCharacter 0x002 = .error ∧ judgeCharacter syncLevels = .good 0xC5 ∧
    (LineFree (inCharacter c noisy) ∧ GoesOn 0x002 (inCharacter c noisy) ∧ noisy.monitor.link = .alone ∧
      noisy.monitor.charErrors = 15 ∧ noisy.monitor.heard = false ∧ running.monitor.link ≠ .alone) ∧
    GoesOn 0x001 running ∧ judgeCharacter 0x001 = .glitch ∧
    ∀ i, 2 ≤ i → i < 11 → (syncLevels ^^^ 3#11).getLsbD i = syncLevels.getLsbD i := by
  intro c hc
  fin_cases hc <;> refine ⟨lineFree_of _ (by decide +kernel), ?_, by decide +kernel, by decide +kernel,
    ⟨lineFree_of _ (by decide +kernel), goesOn_of _ _ (by decide +kernel), by decide +kernel⟩,
    goesOn_of _ _ (by decide +kernel), rfl, by decide +kernel⟩ <;> intro l hl <;> fin_cases hl <;>
      exact goesOn_of _ _ (by decide +kernel)

theorem witness_QuietArmsAndGapsDrop :
    (LineFree running ∧ running.link.assembler = .waitQuiet ∧ running.link.inCharacter = [] ∧ running.link.quiet ≤ 255) ∧
    (∀ p ∈ [(0, 0), (2, 2), (2, 0)], LineFree (inGap p.1 p.2) ∧ (inGap p.1 p.2).link.inCharacter = [] ∧
      (inGap p.1 p.2).link.assembler = .inFrame [1] ∧ linkComplete [1] = false ∧ p.1 < 3 ∧ p.2 ≤ p.1) ∧
    (LineFree (inCharacter [false] running) ∧ (inCharacter [false] running).link.inCharacter ≠ []) := by
  refine ⟨⟨lineFree_of _ (by decide +kernel), by decide +kernel⟩, ?_, lineFree_of _ (by decide +kernel), nofun⟩
  intro p hp
  fin_cases hp <;> exact ⟨lineFree_of _ (by decide +kernel), by decide +kernel⟩

theorem witness_FramesThatAreOnlyHeard :
    (completedFrame (hearing (response9.set 6 0) running) = some (response9.set 6 0) ∧
      linkValid (response9.set 6 0) = false) ∧
    (completedFrame (hearing response9 running) = some response9 ∧ linkValid response9 = true ∧
      linkKind response9 = 3 ∧ running.monitor.link ≠ .search) ∧
    (completedFrame (hearing response9 searching) = some response9 ∧ searching.monitor.link = .search ∧
      ∀ r ∈ searching.roster, r.state = .absent) ∧
    (completedFrame (hearing response9 (inState .search running)) = some response9 ∧
      ¬ ∀ r ∈ running.roster, r.state = .absent) := by decide +kernel

theorem witness_OwnNumberReportMakesDuplicate :
    ∀ l ∈ [LinkState.alone, .joined, .muted, .duplicate, .search],
      completedFrame (hearing report3 (inState l running)) = some report3 ∧ linkValid report3 = true ∧
        linkKind report3 = 1 ∧ linkSource report3 = running.loader.station := by decide +kernel

/-- A full table, all of it station 7's, whose record is in this state. -/
def filled (st : RosterState) : State :=
  { agedAt 7 st 30 with table := (List.range 128).map fun i => ⟨7, 1000 + i, 0, false, false, false⟩ }

theorem witness_ReportsAreTakenWhole :
    (completedFrame reported = some report7.tail ∧ linkValid report7.tail = true ∧ linkKind report7.tail = 1 ∧
      linkSource report7.tail ≠ reported.loader.station ∧ reported.roster.length = 16 ∧
      reported.monitor.link = .joined ∧
      reportMalformed reported.loader.station (linkSource report7.tail) (linkPayload report7.tail) = false ∧
      completedFrame (inState .search reported) = some report7.tail) ∧
    (completedFrame (hearing report17 running) = some report17 ∧ linkValid report17 = true ∧
      linkKind report17 = 1 ∧ linkSource report17 = 17 ∧
      reportMalformed running.loader.station 17 (linkPayload report17) = true) ∧
    (completedFrame (hearing report7.tail (idled 2 fullClose)) = some report7.tail ∧
      (idled 2 fullClose).closeInHand ≠ none) ∧
    (findEntry running 7 679 ≠ none ∧ findEntry running 2 679 = none ∧ findTenant running 680 = none ∧
      running.table.length < 128) ∧
    (∀ st ∈ [RosterState.live, .late], findEntry (filled st) 1 679 = none ∧ 128 ≤ (filled st).table.length ∧
      findTenant (filled st) 679 = some tenant) ∧
    (∀ y ∈ (filled .live).table, (rosterRecord (filled .live) y.source).state ≠ .late) ∧
    ⟨7, 1000, 0, false, false, false⟩ ∈ (filled .late).table ∧ (rosterRecord (filled .late) 7).state = .late ∧
    (∀ y ∈ (filled .late).table, y.source = 7 ∧ (y = ⟨7, 1000, 0, false, false, false⟩ ∨ 1000 < y.tenant)) := by
  decide +kernel

/-- R66, R67: in a full table the new entry takes the place of the lowest of the LATE station 7's. -/
theorem test_victim : let t := applyEntry 1 (filled .late) ⟨679, 5, false, false⟩
    t.table.length = 128 ∧ findEntry t 7 1000 = none ∧ (findEntry t 1 679).map Entry.value = some 5 ∧
      latched t .tableFull = true := by decide +kernel

theorem witness_CommandFramesAreTheGatewayRows :
    completedFrame (hearing command3 running) = some command3 ∧ linkValid command3 = true ∧ linkKind command3 = 2 ∧
      running.monitor.link ≠ .search ∧ linkPayload command3 = 3 :: 2 :: [16] ∧ linkSource command3 = 0 ∧
      (3 : Byte).toNat = running.loader.station ∧
      (let other := (linkFrame 2 0 [4, 2, 16]).tail;
        linkValid other = true ∧ linkKind other = 2 ∧
          ((linkPayload other).getD 0 0).toNat ≠ running.loader.station) ∧
      (completedFrame (hearing command3 searching) = some command3 ∧ searching.monitor.link = .search ∧
        running.loader.station = searching.loader.station) ∧
      linkSource (linkFrame 2 1 [3, 2]).tail ≠ 0 ∧ (linkPayload (linkFrame 2 0 [3]).tail).length < 2 ∧
      4 < (linkPayload (linkFrame 2 0 [3, 2, 0, 0, 0]).tail).length := by decide +kernel

theorem witness_AttemptStartBeginsTheCandidate :
    (∀ k ∈ [CheckKind.entry, .periodic], let s := { sending .report k 0 with
        link := { (sending .report k 0).link with sending := none, quiet := 255 } };
      LineFree s ∧ s.link.inCharacter = [] ∧ s.link.quiet ≤ 255 ∧ s.monitor.check = some ⟨k, 0⟩ ∧ s.monitor.link = .joined) ∧
    (∃ s : State, LineFree s ∧ s.link.inCharacter = [] ∧ s.monitor.check = none ∧ s.link.slot ≠ none ∧ s.monitor.link = .joined) ∧
    (∃ s : State, LineFree s ∧ s.link.inCharacter = [] ∧ s.monitor.check = none ∧ s.link.slot = none ∧ s.link.readyNew = true ∧
      s.link.ready ≠ none ∧ s.monitor.link = .alone) ∧
    (∃ s : State, LineFree s ∧ s.link.inCharacter = [] ∧ s.monitor.check = none ∧ s.link.slot = none ∧ s.link.readyNew = false ∧
      s.link.send ≠ none ∧ s.monitor.link = .joined) ∧
    (LineFree (inState .duplicate running) ∧ running.link.inCharacter = [] ∧ (inState .duplicate running).monitor.check = none) ∧
    (LineFree running ∧ running.monitor.check = none ∧ running.link.slot = none ∧ running.link.readyNew = false ∧
      running.link.send = none) ∧
    (LineFree (inCharacter [false] running) ∧ (inCharacter [false] running).link.inCharacter ≠ []) := by
  refine ⟨?_, ⟨{ running with link := { running.link with slot := some ⟨9, .done, [], 15⟩ } },
      lineFree_of _ (by decide +kernel), by decide +kernel⟩,
    ⟨inState .alone { running with link := { running.link with ready := some ⟨10, []⟩, readyNew := true } },
      lineFree_of _ (by decide +kernel), by decide +kernel⟩,
    ⟨{ running with link := { running.link with send := some ⟨⟨10, []⟩, 15⟩ } },
      lineFree_of _ (by decide +kernel), by decide +kernel⟩,
    ⟨lineFree_of _ (by decide +kernel), by decide +kernel⟩, ⟨lineFree_of _ (by decide +kernel), by decide +kernel⟩, lineFree_of _ (by decide +kernel), nofun⟩
  intro k hk
  fin_cases hk <;> exact ⟨lineFree_of _ (by decide +kernel), by decide +kernel⟩

/-- A slot and a SEND that hold something, and an entry at the end of its fields' ranges. -/
theorem witness_DrivenFrames : (sending .report .entry 0).link.slot = some ⟨9, .done, [], 15⟩ ∧
    (sending .report .entry 0).link.send = some ⟨⟨10, []⟩, 15⟩ ∧
    ∀ e ∈ [(⟨4095, 1048575, true, true⟩ : ReportEntry)], e.tenant < 4096 ∧ e.value < 1048576 := by decide +kernel

/-- SYNC's first data bit, bit 1 of a frame, and its stop bit, bit 10, are recessive, for every kind of frame; with no
error counted yet, and in ALONE with fifteen. -/
theorem witness_YieldKeepsTheFrame : ∀ k ∈ [SendKind.lineCheck, .response, .report],
    (∀ bit ∈ [1, 9, 10], let s := sending k .entry 0;
      s.link.sending = some k ∧ bit < 11 * (outFrame s k).length ∧ frameBit (outFrame s k) bit = true ∧
        s.monitor.link ≠ .alone) ∧
    (let s := { sending k .entry 0 with monitor := { noisy.monitor with check := some ⟨.entry, 0⟩ } };
      s.link.sending = some k ∧ frameBit (outFrame s k) 10 = true ∧ s.monitor.link = .alone ∧
        s.monitor.charErrors = 15 ∧ s.monitor.heard = false) := by decide +kernel

theorem witness_FaultsAreCountedToMuted : ∀ k ∈ [SendKind.lineCheck, .response, .report],
    (let s := sending k .entry 1;
      s.link.sending = some k ∧ (∀ bit ∈ [0, 2, 11],
        bit < 11 * (outFrame s k).length ∧ frameBit (outFrame s k) bit = false) ∧ s.monitor.faults < 2 ∧ s.monitor.check.map LineCheck.kind = some .entry) ∧
    (sending k .entry 2).monitor.faults = 2 ∧
    (sending k .periodic 0).monitor.check.map LineCheck.kind = some .periodic := by decide +kernel

theorem witness_SuccessEndsTheFrame :
    (sending .response .entry 0).link.sending = some .response ∧
    (sending .report .entry 0).link.sending = some .report ∧
    (sending .lineCheck .entry 0).link.sending = some .lineCheck ∧
    (sending .lineCheck .entry 0).monitor.check.map LineCheck.kind = some .entry ∧
    (sending .lineCheck .periodic 0).monitor.check.map LineCheck.kind = some .periodic ∧
    running.link.sending = none := by decide +kernel

theorem witness_DwellExpiryMovesTheSweep : ∀ p ∈ [1, 2, 3, 4],
    let s := { searching with monitor := { searching.monitor with searchPosition := p } };
    rateOfCode s.loader.params.rateCode = .kbit250 ∧ s.monitor.link = .search ∧ s.monitor.dwell ≠ none ∧
      1 ≤ s.monitor.searchPosition ∧ (p ≠ 4 → ([Rate.kbit250, .kbit1000, .kbit500, .kbit125][p]?).isSome = true) ∧
      running.monitor.link ≠ .search := by decide +kernel

theorem witness_CommandsThatDoNothing :
    (2 < ([0, 0, 0] : List Byte).length ∧ (inState .linkOff running).monitor.link = .linkOff ∧
      searching.monitor.link = .search ∧ restarting.restartPending = true) ∧
    ((driving 0).monitor.link = .joined ∧ (driving 0).restartPending = false ∧ (driving 0).link.slot ≠ none) ∧
    (CommandTaken [17] running ∧ present running (17 : Byte).toNat = false ∧
      present running (0 : Byte).toNat = false) ∧
    (CommandTaken [12] running ∧ present running (12 : Byte).toNat = true ∧ (relayOutlet running 12).cls = 0 ∧
      (relayOutlet running 12).relay ≠ .stuck) :=
  ⟨by decide +kernel, by decide +kernel, ⟨taken_of _ _ (by decide +kernel), by decide +kernel⟩,
    taken_of _ _ (by decide +kernel), by decide +kernel⟩

theorem witness_QueriesAnswerTheState :
    (∀ arg ∈ [([] : List Byte), [0], [1], [2], [16], [17]], CommandTaken arg running) ∧
      (∀ arg ∈ [([] : List Byte), [6]], CommandTaken arg (idled 2 fullClose)) ∧ (idled 2 fullClose).closeInHand ≠ none ∧
      present running (16 : Byte).toNat = true ∧ present running (17 : Byte).toNat = false := by
  refine ⟨fun arg h => taken_of arg running ?_, fun arg h => taken_of arg (idled 2 fullClose) ?_, by decide +kernel⟩ <;>
    fin_cases h <;> decide +kernel

theorem relayRule_startedAlone : RelayRule startedAlone := relayRule_of _ (by decide +kernel)

/-- Shed and opening (5), shed and waiting (6), locked (7); and an outlet whose START job waits (7 of the start-up). -/
theorem witness_LockOffLocksTheOutlet :
    (RelayRule shedding ∧ ∀ x ∈ ([5, 6, 7] : List Byte), CommandTaken [x] shedding ∧
      present shedding x.toNat = true ∧ x.toNat ≤ 24 ∧ 1 ≤ (relayOutlet shedding x.toNat).cls) ∧
    (RelayRule startedAlone ∧ CommandTaken [7] startedAlone ∧ present startedAlone 7 = true ∧
      1 ≤ (relayOutlet startedAlone 7).cls ∧ (relayOutlet startedAlone 7).relay = .closePending) ∧
    (RelayRule running ∧ CommandTaken [6] running ∧ (relayOutlet running 6).relay = .on ∧ running.closeInHand = none) ∧
    shedding.closeInHand = none ∧ startedAlone.closeInHand = none ∧
    (RelayRule departing ∧ CommandTaken [6] departing ∧ departing.closeInHand ≠ none) := by
  refine ⟨⟨relayRule_shedding, ?_⟩, ⟨relayRule_startedAlone, taken_of _ _ (by decide +kernel), by decide +kernel⟩,
    ⟨relayRule_of _ (by decide +kernel), taken_of _ _ (by decide +kernel), by decide +kernel⟩, rfl, by decide +kernel,
    relayRule_of _ (by decide +kernel), taken_of _ _ (by decide +kernel), by decide +kernel⟩
  intro x hx
  fin_cases hx <;> exact ⟨taken_of _ _ (by decide +kernel), by decide +kernel⟩

/-- Locked with a START job that waits (3 of the start-up), locked and ON (7), shed (5), unlocked and absent of flags
(16, the last present outlet). -/
theorem witness_UnlockUnlocksTheOutlet :
    (RelayRule startedAlone ∧ CommandTaken [3] startedAlone ∧ present startedAlone 3 = true ∧
      (relayOutlet startedAlone 3).lock = true ∧ (relayOutlet startedAlone 3).relay = .openPending) ∧
    (RelayRule shedding ∧ ∀ x ∈ ([5, 7, 16] : List Byte), CommandTaken [x] shedding ∧
      present shedding x.toNat = true ∧ x.toNat ≤ 24) ∧
    startedAlone.closeInHand = none ∧ shedding.closeInHand = none ∧
    (RelayRule departing ∧ CommandTaken [5] departing ∧ departing.closeInHand ≠ none) := by
  refine ⟨⟨relayRule_startedAlone, taken_of _ _ (by decide +kernel), by decide +kernel⟩, ⟨relayRule_shedding, ?_⟩,
    by decide +kernel, rfl, relayRule_of _ (by decide +kernel), taken_of _ _ (by decide +kernel), by decide +kernel⟩
  intro x hx
  fin_cases hx <;> exact ⟨taken_of _ _ (by decide +kernel), by decide +kernel⟩

/-- STUCK with and without the lock flag, and with a close in hand. -/
theorem witness_ClearFaultFreesTheOutlet : ∀ lock ∈ [true, false], ∀ w ∈ [none, some (⟨.standing, [679]⟩ : CloseWork)],
    let s := { setRelayOutlet 6 (fun r => { r with relay := .stuck, lock := lock }) running with closeInHand := w };
    CommandTaken [6] s ∧ RelayRule s ∧ present s (6 : Byte).toNat = true ∧ (6 : Byte).toNat ≤ 24 ∧
      (relayOutlet s (6 : Byte).toNat).relay = .stuck ∧ (relayOutlet s (6 : Byte).toNat).lock = lock := by
  intro lock hl w hw
  fin_cases hl <;> fin_cases hw <;>
    exact ⟨taken_of _ _ (by decide +kernel), relayRule_of _ (by decide +kernel), by decide +kernel⟩

/-- With room for a record, without, and during warm-up. -/
theorem witness_LockOfTheLastShedOutletEndsTheExcursion : ∀ p ∈ [(0, 15), (0, 16), (1, 0)],
    let s := recovering p.1 p.2;
    CommandTaken [5] s ∧ RelayRule s ∧ present s (5 : Byte).toNat = true ∧ (5 : Byte).toNat ≤ 24 ∧
      1 ≤ (relayOutlet s (5 : Byte).toNat).cls ∧
      findTenant s (relayOutlet s (5 : Byte).toNat).tenant = some { tenant with standing := .recover } ∧
      shedOutlets s 679 = [(5 : Byte).toNat] ∧ s.recon.warmup = p.1 ∧ s.records.length = p.2 ∧
      s.closeInHand = none := by
  intro p hp
  fin_cases hp <;>
    exact ⟨taken_of _ _ (by decide +kernel), relayRule_of _ (by decide +kernel), by decide +kernel⟩

theorem witness_AlertCommandsAct : (∀ arg ∈ [([0xFF, 0xFF] : List Byte), [1], []], CommandTaken arg alerting) ∧
    (after (.endAlert []) alerting).alert.gap ≠ none ∧ alerting.alert.gap = none := by
  refine ⟨fun arg h => taken_of arg alerting ?_, by decide +kernel⟩
  fin_cases h <;> decide +kernel

theorem witness_RecordAndRestartCommandsAct :
    (CommandTaken [] running ∧ running.records = []) ∧ (CommandTaken [] (recorded 16) ∧ (recorded 16).records ≠ []) ∧
      CommandTaken [1] running ∧ ((0 : Byte) = 0 ∧ 9 < (10 : Byte).toNat) :=
  ⟨⟨taken_of _ _ (by decide +kernel), by decide +kernel⟩, ⟨taken_of _ _ (by decide +kernel), by decide +kernel⟩,
    taken_of _ _ (by decide +kernel), by decide +kernel⟩

theorem witness_PulseAndSettleEnd :
    (RelayRule started ∧ started.relay.coil = some ⟨⟨1, .toClose, .start⟩, .pulse⟩) ∧
    (RelayRule (coiled 16 .toOpen .settle none) ∧
      (coiled 16 .toOpen .settle none).relay.coil = some ⟨⟨16, .toOpen, .change⟩, .settle⟩) ∧
    (∀ p ∈ [none, some 0], RelayRule (coiled 5 .toClose .settle p) ∧
      (coiled 5 .toClose .settle p).relay.coil = some ⟨⟨5, .toClose, .change⟩, .settle⟩ ∧
      (relayOutlet (coiled 5 .toClose .settle p) 5).shed = p ∧ (coiled 5 .toClose .settle p).closeInHand = none) ∧
    (RelayRule { coiled 5 .toClose .settle none with closeInHand := some ⟨.figures, [679]⟩ }) ∧
    (RelayRule running ∧ running.relay.coil = none) := by
  refine ⟨⟨relayRule_of _ (by decide +kernel), by decide +kernel⟩,
    ⟨relayRule_of _ (by decide +kernel), by decide +kernel⟩, ?_, relayRule_of _ (by decide +kernel),
    relayRule_of _ (by decide +kernel), by decide +kernel⟩
  intro p hp
  fin_cases hp <;> exact ⟨relayRule_of _ (by decide +kernel), by decide +kernel⟩

/-- Outlet 6 is the last shed outlet of the tenant, in RECOVER, and the coil waits to verify its OPEN. -/
def verifyingLast (warmup records : Nat) : State :=
  { verifying 6 41 with
    recon := ⟨[{ tenant with standing := .recover }], warmup, false⟩, records := (recorded records).records }

/-- The off threshold is 40: a sample at it, with and without the shed flag, and one just above it; and one above it at
the last shed outlet of a tenant in RECOVER, with room for a record, without, and during warm-up. -/
theorem witness_OpenVerifyDecides :
    (∀ p ∈ [(40, none), (40, some 9200), (41, some 9200)], let s := coiled 6 .toOpen (.verify (some p.1)) p.2;
      RelayRule s ∧ s.relay.coil = some ⟨⟨6, .toOpen, .change⟩, .verify (some p.1)⟩ ∧
        s.loader.params.offThreshold = 40 ∧ (relayOutlet s 6).shed = p.2 ∧ s.closeInHand = none) ∧
    (∀ p ∈ [(0, 15), (0, 16), (1, 0)], let s := verifyingLast p.1 p.2;
      RelayRule s ∧ s.relay.coil = some ⟨⟨6, .toOpen, .change⟩, .verify (some 41)⟩ ∧
        findTenant s (relayOutlet s 6).tenant = some { tenant with standing := .recover } ∧
        shedOutlets s 679 = [6] ∧ s.recon.warmup = p.1 ∧ s.records.length = p.2 ∧ s.closeInHand = none) ∧
    (let s := { verifying 6 41 with closeInHand := some ⟨.figures, [679]⟩ }; verifyDue s = true) ∧
    (RelayRule running ∧ running.relay.coil = none) := by
  refine ⟨?_, ?_, by decide +kernel, relayRule_of _ (by decide +kernel), by decide +kernel⟩ <;> intro p hp <;>
    fin_cases hp <;> exact ⟨relayRule_of _ (by decide +kernel), by decide +kernel⟩

theorem witness_RestartResetKeepsTheRelays :
    (RelayRule restarting ∧ restarting.restartPending = true ∧ restarting.link.slot = none ∧
      restarting.relay.coil = none ∧ restarting.relay.queue = [⟨9, .toOpen, .change⟩] ∧ restarting.closeInHand = none) ∧
    (RelayRule { restarting with closeInHand := some ⟨.standing, [679]⟩ }) ∧
    (RelayRule running ∧ running.restartPending = false) :=
  ⟨⟨relayRule_of _ (by decide +kernel), by decide +kernel⟩, relayRule_of _ (by decide +kernel),
    relayRule_of _ (by decide +kernel), by decide +kernel⟩

end Sys2Proof.Tests
end

section
/-! SUPPORT. The step as its cases, and what the operations of the Outlet Meter leave in each outlet's record, each
converter's record and the Time Base. -/

namespace Sys2Proof.Machine

/-! ## The step -/

/-- A step is an idle step, or the execution of the command at the front of the queue. -/
theorem step_cases {s t : State} (h : step s = .next t) :
    (s.pending = [] ∧ t = idle s) ∨ ∃ c rest, s.pending = c :: rest ∧ exec c (s.withPending rest) = .next t := by
  unfold step at h
  split at h
  case h_1 hp => exact .inl ⟨hp, (Host.Outcome.next.inj h).symm⟩
  case h_2 c rest hp => exact .inr ⟨c, rest, hp, h⟩

/-- With no command waiting a step is an idle step. -/
theorem step_idle (s : State) (h : s.pending = []) : step s = .next (idle s) := by simp [step, h]

/-! ## The Outlet Meter's records -/

/-- A record of a list in which every record is changed by its place. -/
theorem getD_mapIdx {α : Type} (l : List α) (f : Nat → α → α) (i : Nat) (d : α) :
    (l.mapIdx f).getD i d = if i < l.length then f i (l.getD i d) else d := by
  split
  · next h => simp [List.getD_eq_getElem?_getD, h]
  · next h => simp [List.getD_eq_getElem?_getD, h]

/-- Replacing the converter in hand leaves the Outlet Meter's outlets. -/
@[simp] theorem meterOutlet_withReading (s : State) (r : Option Nat) (n : Nat) :
    meterOutlet (s.withMeter { s.meter with reading := r }) n = meterOutlet s n := rfl

/-- The Outlet Meter's records depend on that block alone. -/
theorem meterOutlet_congr {s t : State} (h : t.meter = s.meter) (n : Nat) : meterOutlet t n = meterOutlet s n := by
  simp [meterOutlet, h]

/-- A change of a converter's outlets reaches its eight outlets, by channel, and no other (R4, R5). -/
theorem meterOutlet_changeConverterOutlets (c : Nat) (f : Nat → MeterOutlet → MeterOutlet) (s : State) (n : Nat) :
    meterOutlet (changeConverterOutlets c f s) n =
      if n - 1 < s.meter.outlets.length ∧ 8 * (c - 1) ≤ n - 1 ∧ n - 1 < 8 * c then
        f (n - 1 - 8 * (c - 1) + 1) (meterOutlet s n)
      else meterOutlet s n := by
  simp only [meterOutlet, changeConverterOutlets, withMeter_meter, getD_mapIdx]
  by_cases hl : n - 1 < s.meter.outlets.length <;> simp [hl]

@[simp] theorem changeConverterOutlets_converters (c : Nat) (f : Nat → MeterOutlet → MeterOutlet) (s : State) :
    (changeConverterOutlets c f s).meter.converters = s.meter.converters := rfl

@[simp] theorem changeConverterOutlets_reading (c : Nat) (f : Nat → MeterOutlet → MeterOutlet) (s : State) :
    (changeConverterOutlets c f s).meter.reading = s.meter.reading := rfl

@[simp] theorem changeConverterOutlets_length (c : Nat) (f : Nat → MeterOutlet → MeterOutlet) (s : State) :
    (changeConverterOutlets c f s).meter.outlets.length = s.meter.outlets.length := by simp [changeConverterOutlets]

@[simp] theorem setConverter_outlets (c : Nat) (x : Converter) (s : State) :
    (setConverter c x s).meter.outlets = s.meter.outlets := rfl

@[simp] theorem setConverter_reading (c : Nat) (x : Converter) (s : State) :
    (setConverter c x s).meter.reading = s.meter.reading := rfl

@[simp] theorem setConverter_converters (c : Nat) (x : Converter) (s : State) :
    (setConverter c x s).meter.converters = s.meter.converters.set (c - 1) x := rfl

/-- The Outlet Meter after an accepted frame (R4). -/
theorem applyFrame_meter (c : Nat) (f : List Byte) (s : State) :
    (applyFrame c f s).meter = (changeConverterOutlets c
      (fun j o => { o with held := sampleOf f j, missed := 0, unmeasured := false })
      (setConverter c ⟨some f, some (frameSequence f)⟩ s)).meter := by simp [applyFrame]

/-- The Outlet Meter after a rejected frame (R5). -/
theorem missFrame_meter (c : Nat) (s : State) :
    (missFrame c s).meter = (changeConverterOutlets c (fun _ => missTick)
      (setConverter c { converter s c with buffer := none } s)).meter := by
  simp only [missFrame]
  split <;> simp

/-- A tick completion accumulates the held sample of every present outlet (R7, R11). -/
theorem meterOutlet_completeTick (s : State) (n : Nat) :
    meterOutlet (completeTick s) n =
      if n - 1 < s.meter.outlets.length ∧ n - 1 < 8 * s.loader.params.converterCount then
        { meterOutlet s n with accumulator := (meterOutlet s n).accumulator + (meterOutlet s n).held }
      else meterOutlet s n := by
  simp only [meterOutlet, completeTick, withRoster_meter, withTime_meter, withMeter_meter, getD_mapIdx]
  by_cases hl : n - 1 < s.meter.outlets.length <;> simp [hl]

/-- A period close makes the averages of the present outlets (R8, R11). -/
theorem meterOutlet_closeMeter (s : State) (n : Nat) :
    meterOutlet (closeMeter s) n =
      if n - 1 < s.meter.outlets.length ∧ n - 1 < 8 * s.loader.params.converterCount then
        { meterOutlet s n with
          average := (meterOutlet s n).accumulator / s.loader.params.periodTicks, accumulator := 0 }
      else meterOutlet s n := by
  simp only [meterOutlet, closeMeter, withTime_meter, withMeter_meter, getD_mapIdx]
  by_cases hl : n - 1 < s.meter.outlets.length <;> simp [hl]

/-- Before an image is installed and after a reset every outlet holds the values of R12. -/
theorem meterOutlet_reset {s : State} (h : s.meter = Meter.reset) (n : Nat) : meterOutlet s n = MeterOutlet.blank := by
  simp only [meterOutlet, h, Meter.reset, List.getD_eq_getElem?_getD, List.getElem?_replicate]
  split <;> rfl

/-! ## The Outlet Meter and the Time Base at a close -/

@[simp] theorem beginClose_meter (s : State) : (beginClose s).meter = (closeMeter s).meter := by simp [beginClose]
@[simp] theorem beginClose_time (s : State) : (beginClose s).time = (closeMeter s).time := by simp [beginClose]

/-- What a close makes of the Outlet Meter depends on the Outlet Meter and the parameters alone (R8). -/
theorem closeMeter_congr {s t : State} (hm : t.meter = s.meter) (ht : t.time = s.time) (hl : t.loader = s.loader) :
    (closeMeter t).meter = (closeMeter s).meter ∧ (closeMeter t).time = (closeMeter s).time := by
  simp [closeMeter, hm, ht, hl]

/-- A whole close makes the averages once, whatever was in hand before it (R8). -/
theorem closePeriod_meter (s : State) :
    (closePeriod s).meter = (closeMeter s).meter ∧ (closePeriod s).time = (closeMeter s).time := by
  simpa [closePeriod] using closeMeter_congr (finishClose_meter s) (finishClose_time s) (finishClose_loader s)

end Sys2Proof.Machine
end

section
/-! SUPPORT. Which blocks each command can change at all: the Image Loader, and the Outlet Meter with the Time Base. -/

namespace Sys2Proof.Machine

/-! ## A command of the gateway -/

/-- What an execution and an overrun leave is left by the receipt of a command (R159 to R161). -/
theorem receiveCommand_keeps {γ : Type} (π : State → γ) {f : State → State} {s : State} (arg : List Byte)
    (hr : π (raise .commandOverrun s) = π s) (hf : π (f s) = π s) : π (receiveCommand arg f s) = π s := by
  unfold receiveCommand
  split_ifs
  · rfl
  · exact hr
  · exact hf

@[simp] theorem receiveCommand_meter {f : State → State} {s : State} (arg : List Byte)
    (hf : (f s).meter = s.meter) : (receiveCommand arg f s).meter = s.meter :=
  receiveCommand_keeps State.meter arg (raise_meter s _) hf

@[simp] theorem receiveCommand_time {f : State → State} {s : State} (arg : List Byte)
    (hf : (f s).time = s.time) : (receiveCommand arg f s).time = s.time :=
  receiveCommand_keeps State.time arg (raise_time s _) hf

@[simp] theorem receiveCommand_loader {f : State → State} {s : State} (arg : List Byte)
    (hf : (f s).loader = s.loader) : (receiveCommand arg f s).loader = s.loader :=
  receiveCommand_keeps State.loader arg (raise_loader s _) hf

/-! ## The commands by the blocks they reach -/

/-- The rows that sample the straps, install or reject an image, or reset the station: the only ones that reach the
Image Loader (R170 to R175). -/
def loads : Instr → Bool
  | .powerOnReset | .restartReset _ | .holdEnd _ | .imageReadComplete _ => true
  | _ => false

/-- The rows of ticks, converter frames and period closes: besides those of `loads` the only ones that reach the Outlet
Meter or the Time Base (R1 to R8). -/
def meters : Instr → Bool
  | .tick | .captureCompletion _ | .outletUnmeasured | .periodClose | .graceExpiry _ | .settleExpiry _
  | .restoreCounterExpiry _ | .checkCountdownExpiry => true
  | _ => false

/-- Every other command leaves the Image Loader, the station number and the parameters as they were (R15). -/
theorem exec_loader {c : Instr} {s t : State} (h : exec c s = .next t) (hc : loads c = false) :
    t.loader = s.loader := by
  cases c
  case powerOnReset | restartReset | holdEnd | imageReadComplete => simp [loads] at hc
  all_goals
    simp only [exec, execTick, execCaptureCompletion, execOutletUnmeasured, execStationLate, execStationExpiry,
      execPeriodClose, execGraceExpiry, execSettleExpiry, execRestoreCounterExpiry, execCheckCountdownExpiry,
      execCharacter, execSearchOnCharacterErrors, execAssemblerArmed, execGapError, execFrameCompletion,
      execQueryStatus, execQueryOutlet, execLockOff, execUnlock, execClearFault, execAckEvents, execEndAlert,
      execFetchRecord, execRestart, execInvalidCommand, execAttemptStart, execYieldLine, execTransmitFault,
      execTxFaultLimit, execTransmitSuccess, execDwellExpiry, execPulseEnd, execSettleEnd, execOpenVerify,
      execGapExpiry, Host.Outcome.next.injEq] at h
    subst h
    (repeat' split) <;> simp

/-- A command that is neither a tick, a converter frame, a period close, a reset nor an installation leaves the Outlet
Meter and the Time Base as they were. -/
theorem exec_meter_time {c : Instr} {s t : State} (h : exec c s = .next t) (hl : loads c = false)
    (hm : meters c = false) : t.meter = s.meter ∧ t.time = s.time := by
  cases c
  case powerOnReset | restartReset | holdEnd | imageReadComplete => simp [loads] at hl
  case tick | captureCompletion | outletUnmeasured | periodClose | graceExpiry | settleExpiry |
      restoreCounterExpiry | checkCountdownExpiry => simp [meters] at hm
  all_goals
    simp only [exec, execStationLate, execStationExpiry,
      execCharacter, execSearchOnCharacterErrors, execAssemblerArmed, execGapError, execFrameCompletion,
      execQueryStatus, execQueryOutlet, execLockOff, execUnlock, execClearFault, execAckEvents, execEndAlert,
      execFetchRecord, execRestart, execInvalidCommand, execAttemptStart, execYieldLine, execTransmitFault,
      execTxFaultLimit, execTransmitSuccess, execDwellExpiry, execPulseEnd, execSettleEnd, execOpenVerify,
      execGapExpiry, Host.Outcome.next.injEq] at h
    subst h
    (repeat' split) <;> simp

end Sys2Proof.Machine
end

section
/-! SUPPORT. What an installation, a rejection and the two resets leave in each block (R170 to R175). -/

namespace Sys2Proof.Machine

/-! ## The installation of the switching records changes the Relay Driver alone -/

theorem coilTake_onlyRelay (s : State) : coilTake s = s.withRelay (coilTake s).relay := by
  unfold coilTake
  split <;> rfl

theorem queueJob_onlyRelay (n : Nat) (d : JobDir) (s : State) :
    queueJob n d s = s.withRelay (queueJob n d s).relay := coilTake_onlyRelay _

theorem turnBack_onlyRelay (n : Nat) (b : RelayState) (s : State) :
    turnBack n b s = s.withRelay (turnBack n b s).relay := by
  unfold turnBack
  split
  · rfl
  · split <;> rfl

theorem compareDesired_onlyRelay (n : Nat) (s : State) :
    compareDesired n s = s.withRelay (compareDesired n s).relay := by
  unfold compareDesired
  split
  · exact queueJob_onlyRelay ..
  · exact queueJob_onlyRelay ..
  · exact turnBack_onlyRelay ..
  · exact turnBack_onlyRelay ..
  · rfl

theorem compareSettled_onlyRelay (s : State) (n : Nat) :
    compareSettled s n = s.withRelay (compareSettled s n).relay := by
  unfold compareSettled
  split
  · exact compareDesired_onlyRelay n s
  · rfl

/-- Steps that change the Relay Driver alone do so together. -/
theorem foldl_onlyRelay {α : Type} {g : State → α → State} (h : ∀ s a, g s a = s.withRelay (g s a).relay)
    (l : List α) (s : State) : l.foldl g s = s.withRelay (l.foldl g s).relay := by
  induction l generalizing s with
  | nil => rfl
  | cons a l ih =>
    calc l.foldl g (g s a) = (g s a).withRelay (l.foldl g (g s a)).relay := ih (g s a)
      _ = (s.withRelay (g s a).relay).withRelay (l.foldl g (g s a)).relay := by rw [← h s a]
      _ = s.withRelay (l.foldl g (g s a)).relay := rfl

theorem installPowerOn_onlyRelay (im : List Byte) (s : State) :
    installPowerOn im s = s.withRelay (installPowerOn im s).relay := coilTake_onlyRelay _

theorem installRestart_onlyRelay (im : List Byte) (s : State) :
    installRestart im s = s.withRelay (installRestart im s).relay :=
  foldl_onlyRelay compareSettled_onlyRelay _ _

/-- An installation receives the switching records into the Relay Driver, the tenants into the Draw Reconciler, and
changes besides them the Image Loader, the tick timer, the mask and the link alone (R74, R82, R149, R174, R175). -/
theorem install_eq (im : List Byte) (s : State) : ∃ relay recon,
    install im s = enterSearch { s with
      loader := { s.loader with load := .installed, params := imageParams im }
      time := { s.time with running := true }
      alert := { s.alert with mask := (imageParams im).alertMask }.refresh
      relay := relay
      recon := recon } := by
  simp only [install]
  split
  · rw [installRestart_onlyRelay]
    exact ⟨_, _, rfl⟩
  · rw [installPowerOn_onlyRelay]
    exact ⟨_, _, rfl⟩

@[simp] theorem install_meter (im : List Byte) (s : State) : (install im s).meter = s.meter := by
  obtain ⟨_, _, h⟩ := install_eq im s
  simp [h]

@[simp] theorem install_time (im : List Byte) (s : State) :
    (install im s).time = { s.time with running := true } := by
  obtain ⟨_, _, h⟩ := install_eq im s
  simp [h]

@[simp] theorem install_loader (im : List Byte) (s : State) :
    (install im s).loader = { s.loader with load := .installed, params := imageParams im } := by
  obtain ⟨_, _, h⟩ := install_eq im s
  simp [h]

/-! ## Rejection and reset -/

@[simp] theorem reject_meter (s : State) : (reject s).meter = s.meter := by simp [reject]
@[simp] theorem reject_time (s : State) : (reject s).time = s.time := by simp [reject]
@[simp] theorem reject_loader (s : State) : (reject s).loader = { s.loader with load := .rejected } := by simp [reject]

/-- After a reset every outlet without a switching record holds the values of R142. -/
theorem relayOutlet_reset {s : State} (h : s.relay = RelayDriver.reset) (n : Nat) :
    relayOutlet s n = RelayOutlet.blank := by
  simp only [relayOutlet, h, RelayDriver.reset, List.getD_eq_getElem?_getD, List.getElem?_replicate]
  split <;> rfl

/-- After a reset every station's record is ABSENT (R50). -/
theorem rosterRecord_reset {s : State} (h : s.roster = List.replicate 16 RosterRecord.blank) (n : Nat) :
    rosterRecord s n = RosterRecord.blank := by
  simp only [rosterRecord, h, List.getD_eq_getElem?_getD, List.getElem?_replicate]
  split <;> rfl

/-! ## An accepted image -/

/-- An accepted image gives one to three converters and periods of at least five ticks (R172, R173). -/
theorem imageAccepted_ranges {im : List Byte} (h : imageAccepted im = true) :
    5 ≤ (imageParams im).periodTicks ∧ 1 ≤ (imageParams im).converterCount ∧
      (imageParams im).converterCount ≤ 3 := by
  simp only [imageAccepted, Bool.and_eq_true, decide_eq_true_eq] at h
  obtain ⟨⟨⟨⟨-, hconverters⟩, -⟩, -⟩, -⟩ := h
  refine ⟨?_, hconverters⟩
  simp only [imageParams, clampTo]
  omega

end Sys2Proof.Machine
end

section
/-! SUPPORT. The ranges of the Outlet Meter's figures (R4 to R8): each operation of the Outlet Meter keeps them. -/

namespace Sys2Proof.Machine

/-- An outlet's figures but for its accumulator, whose range depends on the tick count (R4 to R6, R8). -/
structure FiguresInRange (o : MeterOutlet) : Prop where
  held : o.held ≤ 40000
  missed : o.missed ≤ 5
  unmeasured : o.unmeasured = true ↔ o.missed = 5
  average : o.average ≤ 40000

theorem MeterRule.figures {s : State} (h : MeterRule s) (n : Nat) : FiguresInRange (meterOutlet s n) :=
  ⟨h.held n, h.missed n, h.unmeasured n, h.average n⟩

/-- The accumulator's range, by the place of the outlet and not by its number (R7). -/
theorem MeterRule.accumulated {s : State} (h : MeterRule s) {n : Nat}
    (hn : n - 1 < 8 * s.loader.params.converterCount) :
    (meterOutlet s n).accumulator ≤ 40000 * s.time.tickCount := by
  cases n with
  | zero => exact h.accumulator 1 (by simp [present]; omega)
  | succ n => exact h.accumulator (n + 1) (by simp [present]; omega)

/-- A sample is clamped and makes its outlet measured (R4, R6). -/
theorem FiguresInRange.sample {o : MeterOutlet} (h : FiguresInRange o) (f : List Byte) (j : Nat) :
    FiguresInRange { o with held := sampleOf f j, missed := 0, unmeasured := false } :=
  ⟨by simp [sampleOf, Config.sampleLimit], by simp, by simp, h.average⟩

/-- The fifth missed tick, and no other, makes an outlet UNMEASURED (R5, R6). -/
theorem FiguresInRange.missTick {o : MeterOutlet} (h : FiguresInRange o) : FiguresInRange (missTick o) := by
  obtain ⟨hheld, hmissed, hunmeasured, haverage⟩ := h
  refine ⟨hheld, by simp [Machine.missTick, Config.missedLimit], ?_, haverage⟩
  simp [Machine.missTick, Config.missedLimit, hunmeasured]
  omega

/-- The rule speaks of the Outlet Meter, the Time Base and the Image Loader alone. -/
theorem MeterRule.congr {s t : State} (h : MeterRule s) (hm : t.meter = s.meter) (ht : t.time = s.time)
    (hl : t.loader = s.loader) : MeterRule t := by
  obtain ⟨houtlets, hconverters, hheld, hmissed, hunmeasured, haccumulator, haverage, hticks, hread, hreading,
    hstarted⟩ := h
  constructor <;> simpa only [meterOutlet, present, hm, ht, hl]

/-- The rule after some change of the outlets' figures alone. -/
theorem MeterRule.of_outlets {s t : State} (h : MeterRule s)
    (hlength : t.meter.outlets.length = s.meter.outlets.length)
    (hconverters : t.meter.converters.length = s.meter.converters.length)
    (hreading : t.meter.reading = s.meter.reading) (ht : t.time = s.time) (hl : t.loader = s.loader)
    (hfigures : ∀ n, FiguresInRange (meterOutlet t n))
    (haccumulator : ∀ n, (meterOutlet t n).accumulator = (meterOutlet s n).accumulator) : MeterRule t where
  outlets := hlength.trans h.outlets
  converters := hconverters.trans h.converters
  held n := (hfigures n).held
  missed n := (hfigures n).missed
  unmeasured n := (hfigures n).unmeasured
  accumulator n hn := by
    rw [haccumulator, ht]
    exact h.accumulator n (by simpa only [present, hl] using hn)
  average n := (hfigures n).average
  ticks := by simpa only [ht, hl] using h.ticks
  inRead := by simpa only [hreading, ht, hl] using h.inRead
  reading := by simpa only [hreading, hl] using h.reading
  started := by simpa only [hl] using h.started

/-- An Outlet Meter at its reset values meets the rule, whatever parameters an image has given (R12). -/
theorem MeterRule.of_reset {s : State} (hm : s.meter = Meter.reset) (ht : s.time.tickCount = 0)
    (hp : s.loader.load = .installed →
      5 ≤ s.loader.params.periodTicks ∧ 1 ≤ s.loader.params.converterCount ∧ s.loader.params.converterCount ≤ 3) :
    MeterRule s := by
  have hblank := meterOutlet_reset hm
  refine ⟨?_, ?_, ?_, ?_, ?_, ?_, ?_, ?_, ?_, ?_, hp⟩ <;>
    simp [hm, ht, hblank, Meter.reset, MeterOutlet.blank]

/-- An accepted frame keeps the ranges (R4). -/
theorem MeterRule.applyFrame {s : State} (h : MeterRule s) (c : Nat) (f : List Byte) :
    MeterRule (applyFrame c f s) := by
  have houtlet (n : Nat) := (meterOutlet_congr (applyFrame_meter c f s) n).trans
    (meterOutlet_changeConverterOutlets c _ _ n)
  refine h.of_outlets (by simp [applyFrame_meter]) (by simp [applyFrame_meter]) (by simp [applyFrame_meter])
    (by simp) (by simp) (fun n => ?_) (fun n => ?_)
  · rw [houtlet]
    split
    · exact (h.figures n).sample f _
    · exact h.figures n
  · rw [houtlet]
    split <;> rfl

/-- A rejected frame keeps the ranges (R5, R6). -/
theorem MeterRule.missFrame {s : State} (h : MeterRule s) (c : Nat) : MeterRule (missFrame c s) := by
  have houtlet (n : Nat) := (meterOutlet_congr (missFrame_meter c s) n).trans
    (meterOutlet_changeConverterOutlets c _ _ n)
  refine h.of_outlets (by simp [missFrame_meter]) (by simp [missFrame_meter]) (by simp [missFrame_meter])
    (by simp) (by simp) (fun n => ?_) (fun n => ?_)
  · rw [houtlet]
    split
    · exact (h.figures n).missTick
    · exact h.figures n
  · rw [houtlet]
    split <;> rfl

/-- A tick completion adds at most 40,000 to each accumulator and one to the tick count (R7). -/
theorem MeterRule.completeTick {s : State} (h : MeterRule s)
    (hticks : s.time.tickCount < s.loader.params.periodTicks) (hreading : s.meter.reading = none) :
    MeterRule (completeTick s) := by
  have houtlet := meterOutlet_completeTick s
  have hfigures (n : Nat) : FiguresInRange (meterOutlet (Machine.completeTick s) n) := by
    rw [houtlet]
    split
    · exact ⟨h.held n, h.missed n, h.unmeasured n, h.average n⟩
    · exact h.figures n
  refine ⟨?_, h.converters, fun n => (hfigures n).held, fun n => (hfigures n).missed,
    fun n => (hfigures n).unmeasured, fun n hn => ?_, fun n => (hfigures n).average, hticks, ?_, ?_, ?_⟩
  · simp [Machine.completeTick, h.outlets]
  · have hpresent : present s n = true := by simpa [present] using hn
    have hsum := h.accumulator n hpresent
    have hheld := h.held n
    rw [houtlet]
    simp only [Machine.completeTick, withRoster_time, withTime_time]
    split
    · simp only
      omega
    · omega
  · simp [Machine.completeTick, hreading]
  · simp [Machine.completeTick, hreading]
  · simpa using h.started

/-- A read goes on or begins at a present converter, in a period with ticks left (R2). -/
theorem MeterRule.withReading {s : State} (h : MeterRule s) {r : Option Nat}
    (hticks : r ≠ none → s.time.tickCount < s.loader.params.periodTicks)
    (hr : ∀ c, r = some c → 1 ≤ c ∧ c ≤ s.loader.params.converterCount) :
    MeterRule (s.withMeter { s.meter with reading := r }) := by
  obtain ⟨houtlets, hconverters, hheld, hmissed, hunmeasured, haccumulator, haverage, hle, -, -, hstarted⟩ := h
  exact ⟨houtlets, hconverters, hheld, hmissed, hunmeasured, haccumulator, haverage, hle, hticks, hr, hstarted⟩

/-- The end of a converter's read keeps the ranges (R2, R7). -/
theorem MeterRule.endRead {s : State} {c : Nat} (h : MeterRule s) (hc : s.meter.reading = some c) :
    MeterRule (endRead c s) := by
  have hticks := h.inRead (by simp [hc])
  unfold Machine.endRead
  split
  · next hlast =>
    exact h.withReading (fun _ => hticks) (fun d hd => by obtain rfl := Option.some.inj hd; exact ⟨by omega, hlast⟩)
  · exact (h.withReading (fun hr => absurd rfl hr) nofun).completeTick hticks rfl

/-- The averages of a close lie in the range of the samples, since no accumulator is above 40,000 for each tick of the
period (R8). -/
theorem MeterRule.closeMeter {s : State} (h : MeterRule s) : MeterRule (closeMeter s) := by
  have houtlet := meterOutlet_closeMeter s
  have hfigures (n : Nat) : FiguresInRange (meterOutlet (Machine.closeMeter s) n) := by
    rw [houtlet]
    split
    · next hn =>
      refine ⟨h.held n, h.missed n, h.unmeasured n, Nat.div_le_of_le_mul ?_⟩
      calc (meterOutlet s n).accumulator ≤ 40000 * s.time.tickCount := h.accumulated hn.2
        _ ≤ 40000 * s.loader.params.periodTicks := Nat.mul_le_mul_left _ h.ticks
        _ = s.loader.params.periodTicks * 40000 := Nat.mul_comm ..
    · exact h.figures n
  refine ⟨by simp [Machine.closeMeter, h.outlets], h.converters, fun n => (hfigures n).held,
    fun n => (hfigures n).missed, fun n => (hfigures n).unmeasured, fun n hn => ?_, fun n => (hfigures n).average,
    Nat.zero_le _, fun hr => Nat.zero_lt_of_lt (h.inRead hr), h.reading, h.started⟩
  have hpresent : 1 ≤ n ∧ n ≤ 8 * s.loader.params.converterCount := by simpa [present] using hn
  rw [houtlet]
  split
  · simp
  · next hout =>
    have hblank : meterOutlet s n = MeterOutlet.blank := by
      rw [meterOutlet, List.getD_eq_default _ _ (by omega)]
    simp [hblank, MeterOutlet.blank]

/-- A whole close keeps the ranges (R8). -/
theorem MeterRule.closePeriod {s : State} (h : MeterRule s) : MeterRule (closePeriod s) :=
  h.closeMeter.congr (closePeriod_meter s).1 (closePeriod_meter s).2 (by simp)

end Sys2Proof.Machine
end

section
/-! SUPPORT. The moves that the work of a close, a flag change and the coil's completions are made of: an event, a record
at the tail of the queue, the jobs and the coil, one switching record, one tenant record. What every move keeps, every
such operation keeps. -/

namespace Sys2Proof.Machine

/-- One move. No job is taken by the coil while a restart is pending (R144); a change of a switching record keeps what
an image and the lock flag say of the outlet; a change of a tenant record keeps what an image says of the tenant. -/
inductive Move : State → State → Prop
  | event (s : State) (k : EventKind) (h : k ≠ .reportSuperseded) : Move s (raise k s)
  | record (s : State) (r : ExcursionRecord) : Move s (s.withRecords (s.records ++ [r]))
  | jobs (s : State) (q : List Job) (c : Option CoilJob) (h : s.restartPending = true → c = s.relay.coil) :
    Move s (s.withRelay { s.relay with queue := q, coil := c })
  | outlet (s : State) (n : Nat) (f : RelayOutlet → RelayOutlet)
    (h : ∀ r, (f r).tenant = r.tenant ∧ (f r).cls = r.cls ∧ (f r).lock = r.lock) : Move s (setRelayOutlet n f s)
  | tenant (s : State) (id : Nat) (f : Tenant → Tenant) (h : ∀ u, (f u).installed = u.installed) :
    Move s (setTenant id f s)
  | figures (s : State) (id : Nat) (t : Tenant) (h : findTenant s id = some t) :
    Move s (setTenant id (fun _ => closeFigures s t) s)

/-- Some moves, one after another. -/
def Moves (s t : State) : Prop := Relation.ReflTransGen Move s t

namespace Moves

variable {s t : State}

theorem refl : Moves s s := Relation.ReflTransGen.refl

theorem trans {u : State} (h : Moves s t) (g : Moves t u) : Moves s u := Relation.ReflTransGen.trans h g

theorem tail {u : State} (h : Moves s t) (g : Move t u) : Moves s u := Relation.ReflTransGen.tail h g

/-! ## The operations as moves -/

theorem raise (h : Moves s t) {k : EventKind} (hk : k ≠ .reportSuperseded := by decide) : Moves s (raise k t) :=
  h.tail (.event t k hk)

theorem appendRecord (h : Moves s t) {r : ExcursionRecord} : Moves s (appendRecord r t) := by
  unfold Machine.appendRecord
  split
  · exact h.tail (.record t r)
  · exact h.raise

theorem setTenant (h : Moves s t) {id : Nat} {f : Tenant → Tenant}
    (hf : ∀ u, (f u).installed = u.installed := by intro _; rfl) : Moves s (setTenant id f t) :=
  h.tail (.tenant t id f hf)

theorem setRelay (h : Moves s t) {n : Nat} {x : RelayState} :
    Moves s (setRelayOutlet n (fun r => { r with relay := x }) t) :=
  h.tail (.outlet t n (fun r => { r with relay := x }) fun _ => ⟨rfl, rfl, rfl⟩)

theorem setShed (h : Moves s t) {n : Nat} {x : Option Nat} :
    Moves s (setRelayOutlet n (fun r => { r with shed := x }) t) :=
  h.tail (.outlet t n (fun r => { r with shed := x }) fun _ => ⟨rfl, rfl, rfl⟩)

theorem queue (h : Moves s t) {q : List Job} : Moves s (t.withRelay { t.relay with queue := q }) :=
  h.tail (.jobs t q t.relay.coil fun _ => rfl)

theorem coilTake (h : Moves s t) : Moves s (coilTake t) := by
  unfold Machine.coilTake
  split
  · next hpending _ _ => exact (h.tail (.jobs t _ _ fun hp => by simp [hpending] at hp)).setRelay
  · exact h

theorem queueJob (h : Moves s t) {n : Nat} {d : JobDir} : Moves s (queueJob n d t) := h.queue.setRelay.coilTake

theorem turnBack (h : Moves s t) {n : Nat} {b : RelayState} : Moves s (turnBack n b t) := by
  unfold Machine.turnBack
  split
  · exact h
  · split <;> exact h.queue.setRelay

theorem compareDesired (h : Moves s t) {n : Nat} : Moves s (compareDesired n t) := by
  unfold Machine.compareDesired
  split
  · exact h.queueJob
  · exact h.queueJob
  · exact h.turnBack
  · exact h.turnBack
  · exact h

/-- The Relay Driver's answer to a change of flags that has been made (R129). -/
theorem changeFlags {n : Nat} {f : RelayOutlet → RelayOutlet} (h : Moves s (setRelayOutlet n f t)) :
    Moves s (changeFlags n f t) := by
  unfold Machine.changeFlags
  split
  · exact h
  · exact h.compareDesired

theorem endExcursion (h : Moves s t) {r : Tenant} : Moves s (endExcursion r t) := h.setTenant.appendRecord

theorem recoverDeparture (h : Moves s t) {id : Nat} : Moves s (recoverDeparture id t) := by
  unfold Machine.recoverDeparture
  split
  · exact h
  · split_ifs
    · exact h.setTenant
    · exact h.setTenant.appendRecord
    · exact h

/-- The completion of a job, once the coil has been freed (R136, R138). -/
theorem completeJob {n : Nat} {x : RelayState} (h : Moves s (t.withRelay { t.relay with coil := none })) :
    Moves s (completeJob n x t) := h.setRelay.compareDesired.coilTake

theorem foldl {α : Type} {g : State → α → State} (hg : ∀ {t : State} (a : α), Moves s t → Moves s (g t a))
    (l : List α) (h : Moves s t) : Moves s (l.foldl g t) := by
  induction l generalizing t with
  | nil => exact h
  | cons a l ih => exact ih (hg a h)

theorem shedRound (h : Moves s t) {id : Nat} : Moves s (shedRound id t) := by
  unfold Machine.shedRound
  split
  · exact h
  · have hshed (l : List Nat) : Moves s (l.foldl shedOutlet t) := foldl (fun _ h => h.setShed.changeFlags) l h
    simp only
    split_ifs
    · exact h
    · exact h
    · exact (hshed _).appendRecord
    · exact (hshed _).appendRecord.raise

theorem restoreStep (h : Moves s t) {id : Nat} : Moves s (restoreStep id t) := by
  unfold Machine.restoreStep
  split
  · split
    · exact h.setShed.changeFlags.appendRecord
    · exact h
  · exact h

theorem beginExcursion (h : Moves s t) {r : Tenant} : Moves s (beginExcursion r t) := h.appendRecord.raise

theorem enterCurtail (h : Moves s t) {id n : Nat} : Moves s (enterCurtail id n t) := h.setTenant.raise

theorem runRound (h : Moves s t) {id : Nat} : Moves s (runRound id t) := h.shedRound.setTenant

theorem attemptRestore (h : Moves s t) {id : Nat} : Moves s (attemptRestore id t) := h.restoreStep.setTenant

theorem applyStanding (h : Moves s t) {c : StandingCase} {r : Tenant} : Moves s (applyStanding c r t) := by
  cases c
  case burst => exact h.enterCurtail.runRound
  case straightOn | graceEnd => exact h.setTenant.enterCurtail.runRound
  case endOfExcess | releaseBare => exact h.endExcursion
  case round => exact h.runRound
  case renewedExcess => exact h.enterCurtail
  case restoreAttempt => exact h.attemptRestore
  all_goals exact h.setTenant

/-! ## The parts of a close as moves -/

theorem tenantFigures (h : Moves s t) {id : Nat} : Moves s (tenantFigures id t) := by
  unfold Machine.tenantFigures
  split
  · exact h
  · next r hr =>
    have hfigures := h.tail (.figures t id r hr)
    simp only
    split
    · exact hfigures
    · split_ifs
      · exact hfigures.raise.beginExcursion
      · exact hfigures.beginExcursion
      · exact hfigures.raise
      · exact hfigures

theorem tenantStanding (h : Moves s t) {id : Nat} : Moves s (tenantStanding id t) := by
  unfold Machine.tenantStanding
  split
  · exact h
  · split
    · exact h
    · exact h.applyStanding

theorem tenantDeparture (h : Moves s t) {id : Nat} : Moves s (tenantDeparture id t) := by
  unfold Machine.tenantDeparture
  split
  · exact h
  · split
    · exact h.endExcursion.raise
    · exact h

theorem evaluateTenant (h : Moves s t) {id : Nat} : Moves s (evaluateTenant id t) := by
  unfold Machine.evaluateTenant
  split
  · exact h.tenantStanding.tenantDeparture
  · exact h.tenantStanding

theorem closeTenant (h : Moves s t) {id : Nat} : Moves s (closeTenant t id) := h.tenantFigures.evaluateTenant

theorem closeTenants (h : Moves s t) (ids : List Nat) : Moves s (ids.foldl Machine.closeTenant t) :=
  foldl (fun _ h => h.closeTenant) ids h

theorem finishTenant (h : Moves s t) {x : CloseStage} {id : Nat} : Moves s (finishTenant x id t) := by
  cases x
  · exact h.closeTenant
  · exact h.evaluateTenant
  · exact h.tenantDeparture

end Moves

/-- Finishing a close in hand is some moves and then the end of the close (R77, R110). -/
theorem finishClose_moves {s : State} (h : s.closeInHand ≠ none) : ∃ u, Moves s u ∧ finishClose s = endClose u := by
  unfold finishClose
  split
  · contradiction
  · exact ⟨s, .refl, rfl⟩
  · exact ⟨_, Moves.closeTenants (.finishTenant .refl) _, rfl⟩

/-! ## What the moves keep -/

/-- What every move keeps, any number of moves keep. -/
theorem Moves.keeps {γ : Type} {π : State → γ} (h : ∀ {s t}, Move s t → π t = π s) {s t : State} (hm : Moves s t) :
    π t = π s := by
  induction hm with
  | refl => rfl
  | tail _ hmove ih => exact (h hmove).trans ih

/-- The part of an outlet's switching record that neither a close nor the Relay Driver changes. -/
def RelayOutlet.fixed (o : RelayOutlet) : Nat × Nat × Bool := (o.tenant, o.cls, o.lock)

/-- The switching records after a change that keeps some part of each of them. -/
theorem setRelayOutlet_map {γ : Type} {g : RelayOutlet → γ} (n : Nat) {f : RelayOutlet → RelayOutlet} (s : State)
    (h : ∀ r, g (f r) = g r) : (setRelayOutlet n f s).relay.outlets.map g = s.relay.outlets.map g := by
  apply List.ext_getElem?
  intro i
  simp only [setRelayOutlet, withRelay_relay, List.getElem?_map, List.getElem?_modify]
  split <;> cases s.relay.outlets[i]? <;> simp [h]

theorem Moves.outlets {s t : State} (h : Moves s t) :
    t.relay.outlets.map RelayOutlet.fixed = s.relay.outlets.map RelayOutlet.fixed := by
  refine h.keeps (π := fun s => s.relay.outlets.map RelayOutlet.fixed) fun hm => ?_
  cases hm with
  | outlet n f hf => exact setRelayOutlet_map n _ fun r => by simp [RelayOutlet.fixed, hf r]
  | _ => rfl

/-- What is kept of every switching record is kept of each. -/
theorem relayOutlet_of_map {γ : Type} {g : RelayOutlet → γ} {s t : State}
    (h : t.relay.outlets.map g = s.relay.outlets.map g) (n : Nat) : g (relayOutlet t n) = g (relayOutlet s n) := by
  have hmap (u : State) : g (relayOutlet u n) = (u.relay.outlets.map g).getD (n - 1) (g RelayOutlet.blank) := by
    simp [relayOutlet, List.getD_eq_getElem?_getD, Option.getD_map]
  rw [hmap, hmap, h]

/-- The tenant of an outlet, its class and its lock flag stay (R139). -/
theorem Moves.relayOutlet {s t : State} (h : Moves s t) (n : Nat) :
    (relayOutlet t n).fixed = (relayOutlet s n).fixed := relayOutlet_of_map h.outlets n

/-- No move changes the mask, the end-alert gap, or the latch of REPORT_SUPERSEDED (R147, R149). -/
theorem Moves.alert {s t : State} (h : Moves s t) :
    t.alert.mask = s.alert.mask ∧ t.alert.gap = s.alert.gap ∧
      latched t .reportSuperseded = latched s .reportSuperseded := by
  have hkeep := h.keeps (π := fun s => (s.alert.mask, s.alert.gap, latched s .reportSuperseded)) fun hm => by
    cases hm with
    | event k hk => simp [Ne.symm hk]
    | _ => rfl
  simpa using hkeep

theorem Moves.restartPending {s t : State} (h : Moves s t) : t.restartPending = s.restartPending :=
  h.keeps (π := State.restartPending) fun hm => by cases hm <;> rfl

theorem Moves.loader {s t : State} (h : Moves s t) : t.loader = s.loader :=
  h.keeps (π := State.loader) fun hm => by cases hm <;> rfl

theorem Moves.link {s t : State} (h : Moves s t) : t.link = s.link :=
  h.keeps (π := State.link) fun hm => by cases hm <;> rfl

/-- While a restart is pending the coil is left as it was (R144). -/
theorem Moves.coil {s t : State} (h : Moves s t) (hp : s.restartPending = true) : t.relay.coil = s.relay.coil := by
  induction h with
  | refl => rfl
  | tail hbefore hm ih =>
    rw [← ih]
    cases hm with
    | jobs _ _ hc => exact hc ((Moves.restartPending hbefore).trans hp)
    | _ => rfl

/-! ## The tenant records -/

/-- The ids of the tenant records, in table order. -/
def tenantIds (s : State) : List Nat := s.recon.tenants.map Tenant.id

theorem findTenant_id {s : State} {id : Nat} {t : Tenant} (h : findTenant s id = some t) : t.id = id := by
  simpa using List.find?_some h

theorem findTenant_mem {s : State} {id : Nat} {t : Tenant} (h : findTenant s id = some t) : t ∈ s.recon.tenants :=
  List.mem_of_find?_eq_some h

/-- With distinct ids a tenant's record is the one found under its id (R172). -/
theorem eq_of_findTenant {s : State} (h : (tenantIds s).Nodup) {t u : Tenant} {id : Nat}
    (ht : findTenant s id = some t) (hu : u ∈ s.recon.tenants) (hid : u.id = id) : u = t :=
  List.inj_on_of_nodup_map h hu (findTenant_mem ht) (hid.trans (findTenant_id ht).symm)

/-- The tenant records after a change that keeps some part of each record it is made on. -/
theorem setTenant_map {γ : Type} {g : Tenant → γ} (id : Nat) (f : Tenant → Tenant) (s : State)
    (h : ∀ u ∈ s.recon.tenants, u.id = id → g (f u) = g u) :
    (setTenant id f s).recon.tenants.map g = s.recon.tenants.map g := by
  simp only [setTenant, withRecon_recon, List.map_map, List.map_inj_left, Function.comp]
  intro u hu
  split
  · next hid => exact h u hu hid
  · rfl

/-- The part that an installation fixes holds the id. -/
theorem Tenant.id_of_installed {t u : Tenant} (h : t.installed = u.installed) : t.id = u.id := congrArg Prod.fst h

/-- No move changes the ids of the tenant records (R74). -/
theorem Moves.tenantIds {s t : State} (h : Moves s t) : tenantIds t = tenantIds s := by
  refine h.keeps (π := Machine.tenantIds) fun hm => ?_
  cases hm with
  | tenant id f hf => exact setTenant_map id f _ fun u _ _ => Tenant.id_of_installed (hf u)
  | figures id t ht => exact setTenant_map id _ _ fun u _ hid => (findTenant_id ht).trans hid.symm
  | _ => rfl

/-- With distinct ids no move changes the installed part of a tenant record (R74). -/
theorem Moves.installed {s t : State} (h : Moves s t) (hids : (Machine.tenantIds s).Nodup) :
    t.recon.tenants.map Tenant.installed = s.recon.tenants.map Tenant.installed := by
  induction h with
  | refl => rfl
  | tail hbefore hm ih =>
    rw [← ih]
    cases hm with
    | tenant id f hf => exact setTenant_map id f _ fun u _ _ => hf u
    | figures id r hr =>
      refine setTenant_map id _ _ fun u hu hid => ?_
      obtain rfl := eq_of_findTenant (by rwa [Moves.tenantIds hbefore]) hr hu hid
      rfl
    | _ => rfl

end Sys2Proof.Machine
end

section
/-! PROOF. O8: every step keeps the figures of the Outlet Meter in their ranges. -/

namespace Sys2Proof.Machine

/-- Once a tick has taken what was due, the period has ticks left (R8). -/
theorem takeDueWork_tickCount {s : State} (hrun : s.time.running = true) (hticks : 0 < s.loader.params.periodTicks) :
    (takeDueWork s).time.tickCount < s.loader.params.periodTicks := by
  simp only [takeDueWork]
  split
  · simpa [closePeriod_meter, closeMeter] using hticks
  · next hdue => simpa [closeDue, hrun] using hdue

/-- What a tick takes first keeps the ranges (R8). -/
theorem MeterRule.takeDueWork {s : State} (h : MeterRule s) : MeterRule (takeDueWork s) := by
  have hu : MeterRule (settleRoster (verifyOpen (finishClose s))) := h.congr (by simp) (by simp) (by simp)
  simp only [Machine.takeDueWork]
  split
  · exact hu.closePeriod
  · exact hu

/-- A station whose tick timer runs has an installed image (R12, R146). -/
theorem RestUntilInstalled.installed_of_running {s : State} (h : RestUntilInstalled s) (hrun : s.time.running = true) :
    s.loader.load = .installed := by
  by_contra hload
  simp [(h hload).time, TimeBase.reset] at hrun

/-- A tick keeps the ranges (R1, R2). -/
theorem MeterRule.startRead {s : State} (h : MeterRule s) (hrest : RestUntilInstalled s)
    (hrun : s.time.running = true) : MeterRule (startRead s) := by
  obtain ⟨hticks, hconverters, -⟩ := h.started (hrest.installed_of_running hrun)
  have hcount := takeDueWork_tickCount hrun (by omega)
  exact h.takeDueWork.withReading (fun _ => by simpa using hcount)
    (fun c hc => by obtain rfl := Option.some.inj hc; simpa using hconverters)

/-- The rows of `meters` keep the ranges (R1 to R8). -/
theorem MeterRule.exec_of_meters {c : Instr} {s t : State} (h : MeterRule s) (hrest : RestUntilInstalled s)
    (hexec : exec c s = .next t) (hc : meters c = true) : MeterRule t := by
  have hclose (p : Prop) [Decidable p] : MeterRule (if p then Machine.closePeriod s else s) := by
    split
    · exact h.closePeriod
    · exact h
  cases c
  case tick =>
    obtain rfl := Host.Outcome.next.inj hexec
    split
    · next hrun => exact h.startRead hrest hrun.1
    · exact h
  case captureCompletion f =>
    obtain rfl := Host.Outcome.next.inj hexec
    split
    · exact h
    · next d hd =>
      split
      · exact (h.applyFrame d _).endRead (by simp [applyFrame_meter, hd])
      · exact (h.missFrame d).endRead (by simp [missFrame_meter, hd])
  case outletUnmeasured =>
    obtain rfl := Host.Outcome.next.inj hexec
    split
    · exact h
    · next d hd =>
      split
      · exact (h.missFrame d).endRead (by simp [missFrame_meter, hd])
      · exact h
  case periodClose | graceExpiry | settleExpiry | restoreCounterExpiry | checkCountdownExpiry =>
    obtain rfl := Host.Outcome.next.inj hexec
    exact hclose _
  all_goals simp [meters] at hc

/-- The resets, the end of the hold, and an installation or a rejection keep the ranges, since no figure has been taken
before them (R12, R170, R172, R175). -/
theorem MeterRule.exec_of_loads {c : Instr} {s t : State} (h : MeterRule s) (hrest : RestUntilInstalled s)
    (hexec : exec c s = .next t) (hc : loads c = true) : MeterRule t := by
  cases c
  case powerOnReset =>
    obtain rfl := Host.Outcome.next.inj hexec
    exact .of_reset rfl rfl nofun
  case restartReset straps =>
    obtain rfl := Host.Outcome.next.inj hexec
    split
    · exact .of_reset rfl rfl nofun
    · exact h
  case holdEnd straps =>
    obtain rfl := Host.Outcome.next.inj hexec
    split
    · next hheld =>
      have hr := hrest (by simp [hheld])
      exact .of_reset hr.meter (congrArg TimeBase.tickCount hr.time) nofun
    · exact h
  case imageReadComplete im =>
    obtain rfl := Host.Outcome.next.inj hexec
    split
    · next hread =>
      have hr := hrest (by simp [hread])
      split
      · next haccepted =>
        exact .of_reset (by simp [hr.meter]) (by simp [hr.time, TimeBase.reset])
          (by simpa using imageAccepted_ranges haccepted)
      · exact .of_reset (by simp [hr.meter]) (by simp [hr.time, TimeBase.reset]) (by simp)
    · exact h
  all_goals simp [loads] at hc

/-- Every command keeps the ranges of the Outlet Meter's figures (R4 to R8). -/
theorem MeterRule.exec {c : Instr} {s t : State} (h : MeterRule s) (hrest : RestUntilInstalled s)
    (hexec : exec c s = .next t) : MeterRule t := by
  cases hl : loads c
  · cases hm : meters c
    · obtain ⟨hmeter, htime⟩ := exec_meter_time hexec hl hm
      exact h.congr hmeter htime (exec_loader hexec hl)
    · exact h.exec_of_meters hrest hexec hm
  · exact h.exec_of_loads hrest hexec hl

/-- An idle step keeps the ranges (R8). -/
theorem MeterRule.idle {s : State} (h : MeterRule s) : MeterRule (idle s) := by
  unfold Machine.idle
  split_ifs
  case pos => exact h.congr (by simp) (by simp) (by simp)
  case pos => exact h.congr (by simp) (by simp) (by simp)
  case pos => exact h.congr (by simp) (by simp) (by simp)
  case pos =>
    have hu : MeterRule (settleRoster s) := h.congr (by simp) (by simp) (by simp)
    simp only [beginDueWork]
    split
    · exact hu.closeMeter.congr (by simp) (by simp) (by simp)
    · exact hu
  case pos => exact h.congr (by simp) (by simp) (by simp)
  case pos => exact h.congr (by simp) (by simp) (by simp)
  case neg => exact h

/-- Settles O8: the accumulator's range is 40,000 for each completed tick, so that the averages of a close lie in the
range of the samples; a tick takes a due close before it reads, so that the tick count stays within the period. -/
theorem stepKeepsMeterRule : Obligations.StepKeepsMeterRule := by
  intro s t hrest h hstep
  rcases step_cases hstep with ⟨-, rfl⟩ | ⟨c, rest, -, hexec⟩
  · exact h.idle
  · have hrest' : RestUntilInstalled (s.withPending rest) := fun hl => by
      obtain ⟨⟩ := hrest hl
      constructor <;> assumption
    exact (h.congr rfl rfl rfl : MeterRule (s.withPending rest)).exec hrest' hexec

end Sys2Proof.Machine
end

section
/-! PROOF. O7: a station without an installed image stays at rest. A station at rest has no rate, no roster record, no
job and a stopped tick timer, so that nothing becomes due and only the alert, the hold and the image read go on. -/

namespace Sys2Proof.Machine

namespace RestRule

variable {s : State}

theorem withAlert (h : RestRule s) (x : AlertUnit) : RestRule (s.withAlert x) :=
  ⟨h.meter, h.time, h.link, h.rate, h.sending, h.roster, h.table, h.tenants, h.queue, h.coil, h.closeInHand⟩

theorem withLoader (h : RestRule s) (x : Loader) : RestRule (s.withLoader x) :=
  ⟨h.meter, h.time, h.link, h.rate, h.sending, h.roster, h.table, h.tenants, h.queue, h.coil, h.closeInHand⟩

theorem withPending (h : RestRule s) (x : List Instr) : RestRule (s.withPending x) :=
  ⟨h.meter, h.time, h.link, h.rate, h.sending, h.roster, h.table, h.tenants, h.queue, h.coil, h.closeInHand⟩

/-! ## Nothing is due at rest -/

theorem listening (h : RestRule s) : listening s = false := by simp [Machine.listening, receiverRuns, h.rate]

theorem betweenCharacters (h : RestRule s) : betweenCharacters s = false := by
  simp [Machine.betweenCharacters, h.listening]

theorem completedFrame (h : RestRule s) : completedFrame s = none := by
  unfold Machine.completedFrame
  split <;> simp [h.listening]

theorem closeDue (h : RestRule s) : closeDue s = false := by simp [Machine.closeDue, h.time, TimeBase.reset]

theorem lateDue (h : RestRule s) (n : Nat) : lateDue s n = false := by
  simp [Machine.lateDue, rosterRecord_reset h.roster, RosterRecord.blank]

theorem expiryDue (h : RestRule s) (n : Nat) : expiryDue s n = false := by
  simp [Machine.expiryDue, rosterRecord_reset h.roster, RosterRecord.blank]

theorem verifyDue (h : RestRule s) : verifyDue s = false := by simp [Machine.verifyDue, h.coil]

/-- A gateway's command is not taken in LINK_OFF (R161). -/
theorem receiveCommand (h : RestRule s) (arg : List Byte) (f : State → State) : receiveCommand arg f s = s :=
  receiveCommand_ignored arg f s (.inr (.inl (by simp [h.link, takesCommands])))

/-- A step with no command waiting has no effect at rest. -/
theorem idle (h : RestRule s) : idle s = s := by
  simp [Machine.idle, h.completedFrame, h.closeInHand, h.verifyDue, tickWorkDue, h.closeDue, h.lateDue, h.expiryDue,
    attemptDue, h.betweenCharacters, h.listening]

/-- At rest a command that neither resets the station nor reaches the Image Loader changes the Alert Unit at most, by
the expiry of an end-alert gap (R153). -/
theorem exec {c : Instr} {t : State} (h : RestRule s) (hexec : exec c s = .next t) (hc : loads c = false) :
    t = s.withAlert t.alert := by
  cases c
  case powerOnReset | restartReset | holdEnd | imageReadComplete => simp [loads] at hc
  case gapExpiry =>
    obtain rfl := Host.Outcome.next.inj hexec
    split <;> rfl
  case gapError =>
    simp only [Machine.exec, execGapError, h.betweenCharacters, Bool.false_eq_true, false_and, if_false,
      Host.Outcome.next.injEq] at hexec
    subst hexec
    split <;> rfl
  all_goals
    obtain rfl : s = t := by
      simpa [Machine.exec, execTick, execCaptureCompletion, execOutletUnmeasured, execStationLate, execStationExpiry,
        execPeriodClose, execGraceExpiry, execSettleExpiry, execRestoreCounterExpiry, execCheckCountdownExpiry,
        execCharacter, execSearchOnCharacterErrors, execAssemblerArmed, execFrameCompletion,
        execQueryStatus, execQueryOutlet, execLockOff, execUnlock, execClearFault, execAckEvents, execEndAlert,
        execFetchRecord, execRestart, execInvalidCommand, execAttemptStart, execYieldLine, execTransmitFault,
        execTxFaultLimit, execTransmitSuccess, execDwellExpiry, execPulseEnd, execSettleEnd, execOpenVerify,
        takeCharacter, completeFrame, pulseEnds, settleRuns, h.meter, h.time, h.link, h.sending, h.coil,
        h.listening, h.betweenCharacters, h.completedFrame, h.closeDue, h.lateDue, h.expiryDue, h.verifyDue,
        h.receiveCommand, Meter.reset, TimeBase.reset] using hexec
    rfl

end RestRule

/-! ## Resets -/

theorem restRule_reset : RestRule State.reset := ⟨rfl, rfl, rfl, rfl, rfl, rfl, rfl, rfl, rfl, rfl, rfl⟩

/-- While a restart is pending the end of a close in hand leaves the coil as it was (R144). -/
theorem finishClose_coil {s : State} (hp : s.restartPending = true) : (finishClose s).relay.coil = s.relay.coil := by
  by_cases h : s.closeInHand = none
  · rw [finishClose_none s h]
  · obtain ⟨u, hu, heq⟩ := finishClose_moves h
    rw [heq, endClose_relay, hu.coil hp]

/-- Discarding the queued jobs leaves the coil (R144). -/
@[simp] theorem discardJobs_coil (s : State) : (discardJobs s).relay.coil = s.relay.coil := by
  simp only [discardJobs, withRelay_relay]
  refine foldl_keeps (fun u : State => u.relay.coil) _ (fun u j => ?_) _ _
  rfl

/-- The restart reset, which comes at a free coil, leaves a station at rest (R175). -/
theorem restRule_restartStation (straps : BitVec 4) {s : State} (h : restartDue s = true) :
    RestRule (restartStation straps (finishClose s)) := by
  simp only [restartDue, Bool.and_eq_true, Option.isNone_iff_eq_none] at h
  obtain ⟨⟨hpending, -⟩, hcoil⟩ := h
  refine ⟨rfl, rfl, rfl, rfl, rfl, rfl, rfl, rfl, rfl, ?_, rfl⟩
  exact (discardJobs_coil _).trans ((finishClose_coil hpending).trans hcoil)

/-- A rejected image leaves the station at rest, without a switching record (R146). -/
theorem RestRule.reject {s : State} (h : RestRule s) : RestRule (reject s) := by
  have hrelay : RestRule (s.withRelay RelayDriver.reset) :=
    ⟨h.meter, h.time, h.link, h.rate, h.sending, h.roster, h.table, h.tenants, rfl, rfl, h.closeInHand⟩
  exact (hrelay.withLoader _).withAlert _

/-! ## Every step -/

/-- Every command leaves a station without an installed image at rest: one with an installed image leaves that state by
a reset alone. -/
theorem RestUntilInstalled.exec {c : Instr} {s t : State} (h : RestUntilInstalled s) (hexec : exec c s = .next t) :
    RestUntilInstalled t := by
  intro hload
  cases c
  case powerOnReset =>
    obtain rfl := Host.Outcome.next.inj hexec
    exact restRule_reset.withPending _
  case restartReset straps =>
    obtain rfl := Host.Outcome.next.inj hexec
    split at hload
    · next hdue => rw [if_pos hdue]; exact restRule_restartStation straps hdue
    · next hdue => rw [if_neg hdue]; exact h hload
  case holdEnd straps =>
    obtain rfl := Host.Outcome.next.inj hexec
    split at hload
    · next hheld => rw [if_pos hheld]; exact (h (by simp [hheld])).withLoader _
    · next hheld => rw [if_neg hheld]; exact h hload
  case imageReadComplete im =>
    obtain rfl := Host.Outcome.next.inj hexec
    by_cases hread : s.loader.load = .reading
    · simp only [hread, if_true] at hload ⊢
      split at hload
      · simp at hload
      · next hbad => rw [if_neg hbad]; exact (h (by simp [hread])).reject
    · simp only [hread, if_false] at hload ⊢
      exact h hload
  all_goals
    rw [exec_loader hexec rfl] at hload
    rw [(h hload).exec hexec rfl]
    exact (h hload).withAlert _

/-- Settles O7: at rest nothing becomes due, and what leaves an installed image behind, a reset, leaves the station at
rest. -/
theorem stepKeepsRestUntilInstalled : Obligations.StepKeepsRestUntilInstalled := by
  intro s t h hstep
  rcases step_cases hstep with ⟨-, rfl⟩ | ⟨c, rest, -, hexec⟩
  · intro hload
    by_cases hs : s.loader.load = .installed
    · have hkept : (idle s).loader = s.loader := by unfold idle; split_ifs <;> simp [beginDueWork, apply_ite]
      exact absurd hs (by rwa [hkept] at hload)
    · rw [(h hs).idle]
      exact h hs
  · have hrest : RestUntilInstalled (s.withPending rest) := fun hl => (h hl).withPending rest
    exact hrest.exec hexec

end Sys2Proof.Machine
end

section
/-! PROOF. O4 and O16: what a power-on reset leaves. -/

namespace Sys2Proof.Machine

/-! ## The rules at the reset state -/

@[simp] theorem relayOutlet_stateReset (n : Nat) : relayOutlet State.reset n = RelayOutlet.blank := relayOutlet_reset rfl n

@[simp] theorem rosterRecord_stateReset (n : Nat) : rosterRecord State.reset n = RosterRecord.blank :=
  rosterRecord_reset rfl n

theorem alertRule_reset : AlertRule State.reset := by
  have hnone (k : EventKind) : latched State.reset k = false := by
    simp [latched, State.reset, AlertUnit.reset]
  have hhigh : State.reset.alert.low = false := rfl
  simp [AlertRule, hnone, hhigh]

theorem transmitRule_reset : TransmitRule State.reset := by
  constructor <;> simp [State.reset, Transceiver.reset, Monitor.reset]

theorem meterRule_reset : MeterRule State.reset := .of_reset rfl rfl nofun

/-- An outlet in UNKNOWN neither waits for the coil nor is worked by it (R130, R142). -/
theorem unknown_noJob (d : JobDir) : RelayState.unknown ≠ d.pending ∧ RelayState.unknown ≠ d.working := by
  cases d <;> simp [JobDir.pending, JobDir.working]

theorem relayRule_reset : RelayRule State.reset where
  outlets := rfl
  oneJob := by simp [State.reset, RelayDriver.reset]
  queued := by simp [State.reset, RelayDriver.reset]
  held := by simp [State.reset, RelayDriver.reset]
  pendingHasJob n d _ _ h := absurd (by simpa [RelayOutlet.blank] using h) (unknown_noJob d).1
  workingHasCoil n d _ _ h := absurd (by simpa [RelayOutlet.blank] using h) (unknown_noJob d).2
  verifyOpens := by simp [State.reset, RelayDriver.reset]
  taken _ _ := rfl

theorem shedRule_reset : ShedRule State.reset where
  shed := by simp [RelayOutlet.blank]
  tenants := by simp [State.reset, Reconciler.reset]

theorem tableRule_reset : TableRule State.reset where
  records := by simp [State.reset]
  own := by simp [RosterRecord.blank]
  limit := by simp [State.reset]
  order := by simp [State.reset]
  entries := by simp [State.reset]
  overflow := by simp [State.reset]
  station := by simp [State.reset, Loader.reset]

theorem excursionRule_reset : ExcursionRule State.reset where
  ids := by simp [State.reset, Reconciler.reset]
  shedding := by simp [State.reset, Reconciler.reset]
  recovering := by simp [State.reset, Reconciler.reset]
  records := by simp [State.reset]

/-- Settles O4: each rule holds of the power-on values. -/
theorem resetMeetsEveryRule : Obligations.ResetMeetsEveryRule :=
  ⟨alertRule_reset, transmitRule_reset, fun _ => restRule_reset, meterRule_reset, relayRule_reset, shedRule_reset,
    tableRule_reset, excursionRule_reset⟩

/-! ## The rows of the reset and the hold -/

/-- Settles O16: the reset state holds the power-on values, and the end of the hold samples the straps in HELD alone. -/
theorem powerOnResetAndHold : Obligations.PowerOnResetAndHold := by
  constructor
  · intro s
    refine ⟨State.reset.withPending s.pending, rfl, rfl, rfl, rfl, rfl, rfl, rfl, rfl, rfl, rfl, rfl, ?_, rfl, rfl,
      rfl, rfl, rfl, rfl⟩
    intro o ho
    obtain rfl := List.eq_of_mem_replicate ho
    exact ⟨rfl, rfl, rfl⟩
  · intro straps s
    constructor
    · intro hheld
      simp [exec, execHoldEnd, hheld, endHold, State.withLoader, stationOfStraps]
    · intro hheld
      simp [exec, execHoldEnd, hheld]

end Sys2Proof.Machine
end

section
/-! PROOF. O23: the acceptance of a converter frame, and the check word as its bytes build it up. -/

namespace Sys2Proof.Machine

/-- The check word after one byte more (R3, R24). -/
theorem checkWord_append (bs : List Byte) (x : Byte) : checkWord (bs ++ [x]) = checkStep (checkWord bs) x := by
  simp [checkWord, List.foldl_append]

/-- Both halves of the check word are remainders modulo 255 (R3, R24). -/
theorem checkWord_lt (bs : List Byte) : (checkWord bs).1 < 255 ∧ (checkWord bs).2 < 255 := by
  induction bs using List.reverseRecOn with
  | nil => decide
  | append_singleton bs x _ =>
    rw [checkWord_append]
    exact ⟨Nat.mod_lt _ (by decide), Nat.mod_lt _ (by decide)⟩

theorem checkMatches_iff (bytes : List Byte) (b a : Byte) :
    checkMatches bytes b a = true ↔ b.toNat = (checkWord bytes).2 ∧ a.toNat = (checkWord bytes).1 := by
  simp [checkMatches]

/-- The four conditions of acceptance (R3). -/
theorem frameAccepted_iff (last : Option Byte) (f : List Byte) : frameAccepted last f = true ↔
    (serialByte f 18).toNat = (checkWord (serialBytes f 0 18)).2 ∧
    (serialByte f 19).toNat = (checkWord (serialBytes f 0 18)).1 ∧
    (serialByte f 0).getLsbD 0 = true ∧ (serialByte f 0).getLsbD 1 = false ∧ last ≠ some (serialByte f 1) := by
  simp only [frameAccepted, frameCheck, frameReady, frameFault, Bool.and_eq_true, checkMatches_iff,
    Bool.not_eq_true', decide_eq_true_eq, and_assoc]
  rfl

/-- Settles O23: the bytes 0xFF and 0x00 show FAULT and not READY, whatever their check word. -/
theorem converterFrameAcceptance : Obligations.ConverterFrameAcceptance := by
  refine ⟨frameAccepted_iff, rfl, checkWord_append, checkWord_lt, fun last => ⟨?_, ?_⟩⟩
  · rw [Bool.eq_false_iff, Ne, frameAccepted_iff]
    rintro ⟨-, -, -, hfault, -⟩
    exact absurd hfault (by decide)
  · rw [Bool.eq_false_iff, Ne, frameAccepted_iff]
    rintro ⟨-, -, hready, -⟩
    exact absurd hready (by decide)

end Sys2Proof.Machine
end

section
/-! SUPPORT. The rows of a tick completion, taken one after another, are what the operations of the roster and of the tick
do together; and what these operations do where nothing is due. -/

namespace Sys2Proof.Machine

/-! ## Commands one after another -/

theorem afterAll_append (cs ds : List Instr) (s : State) : afterAll (cs ++ ds) s = afterAll ds (afterAll cs s) := by
  simp [afterAll]

theorem afterAll_cons {c : Instr} {s t : State} (h : exec c s = .next t) (cs : List Instr) :
    afterAll (c :: cs) s = afterAll cs t := by simp [afterAll, h]

theorem afterAll_single {c : Instr} {s t : State} (h : exec c s = .next t) : afterAll [c] s = t := by
  simp [afterAll, h]

/-- Rows that differ in their operand alone do what their meaning does, operand by operand. -/
theorem afterAll_map {α : Type} {row : α → Instr} {meaning : State → α → State}
    (h : ∀ s a, exec (row a) s = .next (meaning s a)) (l : List α) (s : State) :
    afterAll (l.map row) s = l.foldl meaning s := by
  induction l generalizing s with
  | nil => rfl
  | cons a l ih => rw [List.map_cons, afterAll_cons (h s a), ih, List.foldl_cons]

/-- The roster's rows, station by station, settle the roster (R52, R53). -/
theorem afterAll_rosterRows (s : State) : afterAll rosterRows s = settleRoster s := by
  have hlate (t : State) : afterAll ((List.range 16).map fun i => .stationLate (i + 1)) t =
      (List.range 16).foldl (fun s i => if lateDue s (i + 1) then becomeLate (i + 1) s else s) t :=
    afterAll_map (fun _ _ => rfl) _ t
  have hexpiry (t : State) : afterAll ((List.range 16).map fun i => .stationExpiry (i + 1)) t =
      (List.range 16).foldl (fun s i => if expiryDue s (i + 1) then expireStation (i + 1) s else s) t :=
    afterAll_map (fun _ _ => rfl) _ t
  simp only [rosterRows, afterAll_append, hlate, hexpiry, settleRoster, stationNumbers, List.foldl_map]

/-! ## Where nothing is due -/

/-- Without a verify sample no OPEN completes (R137). -/
theorem verifyOpen_rest {s : State} (h : verifyDue s = false) : verifyOpen s = s := by
  unfold verifyOpen
  split
  · next hcoil => simp [verifyDue, hcoil] at h
  · rfl

/-- With no record due the roster stays (R52, R53). -/
theorem settleRoster_rest {s : State} (hlate : ∀ n, lateDue s n = false) (hexpiry : ∀ n, expiryDue s n = false) :
    settleRoster s = s := by
  have hnoLate (n : Nat) : (if lateDue s n then becomeLate n s else s) = s := by simp [hlate n]
  have hnoExpiry (n : Nat) : (if expiryDue s n then expireStation n s else s) = s := by simp [hexpiry n]
  simp only [settleRoster]
  rw [List.foldl_fixed' (a := s) hnoLate, List.foldl_fixed' (a := s) hnoExpiry]

/-- Without a frame that has all its characters nothing completes (R24). -/
theorem completeFrame_rest {s : State} (h : completedFrame s = none) : completeFrame s = s := by
  simp [completeFrame, h]

end Sys2Proof.Machine
end

section
/-! PROOF. O22: a tick takes what is due and starts a read cycle. -/

namespace Sys2Proof.Machine

/-- With no work left a tick takes nothing first. -/
theorem takeDueWork_rest {s : State} (h : TickWorkTaken s) : takeDueWork s = s := by
  simp [takeDueWork, finishClose_none s h.inHand, verifyOpen_rest h.verify, settleRoster_rest h.late h.expiry, h.close]

/-- The open verify that is due, once no close is in hand (R138). -/
theorem exec_openVerify {s : State} (h : s.closeInHand = none) : exec .openVerify s = .next (verifyOpen s) := by
  cases hdue : verifyDue s
  · simp [exec, execOpenVerify, hdue, verifyOpen_rest hdue]
  · simp [exec, execOpenVerify, hdue, finishClose_none s h]

/-- What a tick takes first is the rest of a close in hand and then the rows of the tick completion, in their order. -/
theorem takeDueWork_eq (s : State) : takeDueWork s = afterAll tickRows (finishClose s) := by
  have hclose (t : State) : exec .periodClose t = .next (if closeDue t then closePeriod t else t) := rfl
  rw [tickRows, List.cons_append, afterAll_cons (exec_openVerify (by simp)), afterAll_append, afterAll_rosterRows,
    afterAll_single (hclose _)]
  rfl

/-- Settles O22: what a tick takes first is what the rows of the last tick completion do, and nothing where they are
taken. -/
theorem tickStartsAReadCycle : Obligations.TickStartsAReadCycle := by
  intro s
  refine ⟨fun hrun hread htaken => ?_, fun hrun hread => ?_, fun hno => ?_⟩
  · simp only [exec, execTick, hrun, hread, and_self, if_true, startRead, takeDueWork_rest htaken]
    rfl
  · simp only [exec, execTick, hrun, hread, and_self, if_true, startRead, takeDueWork_eq]
    rfl
  · have hidle : ¬ (s.time.running = true ∧ s.meter.reading = none) := by
      rintro ⟨hrun, hread⟩
      rcases hno with hstopped | hbusy
      · simp [hrun] at hstopped
      · exact hbusy hread
    simp [exec, execTick, hidle]

end Sys2Proof.Machine
end

section
/-! PROOF. O2: what an idle step takes, and the parts of a close. -/

namespace Sys2Proof.Machine

/-! ## A part of a close appends at most one record -/

/-- The Record Queue of `t` is that of `s`, or has one record more at the tail (R156). -/
def AtMostOneMore (s t : State) : Prop := t.records = s.records ∨ ∃ r, t.records = s.records ++ [r]

theorem appendRecord_oneMore {s t : State} (h : t.records = s.records) (r : ExcursionRecord) :
    AtMostOneMore s (appendRecord r t) := by
  unfold appendRecord
  split
  · exact .inr ⟨r, by simp [h]⟩
  · exact .inl (by simp [h])

theorem shedRound_oneMore (id : Nat) {s t : State} (h : t.records = s.records) : AtMostOneMore s (shedRound id t) := by
  have hshed (l : List Nat) : (l.foldl shedOutlet t).records = s.records := by
    rw [foldl_keeps State.records _ shedOutlet_records, h]
  unfold shedRound
  split
  · exact .inl h
  · simp only
    split_ifs
    · exact .inl h
    · exact .inl h
    · exact appendRecord_oneMore (hshed _) _
    · simpa [AtMostOneMore] using appendRecord_oneMore (hshed _) _

theorem runRound_oneMore (id : Nat) {s t : State} (h : t.records = s.records) : AtMostOneMore s (runRound id t) := by
  simpa [AtMostOneMore, runRound] using shedRound_oneMore id h

theorem restoreStep_oneMore (id : Nat) (s : State) : AtMostOneMore s (restoreStep id s) := by
  unfold restoreStep
  split
  · split
    · exact appendRecord_oneMore (by simp) _
    · exact .inl rfl
  · exact .inl rfl

theorem endExcursion_oneMore (t : Tenant) (s : State) : AtMostOneMore s (endExcursion t s) :=
  appendRecord_oneMore (by simp) _

theorem applyStanding_oneMore (c : StandingCase) (t : Tenant) (s : State) : AtMostOneMore s (applyStanding c t s) := by
  cases c
  case burst | straightOn | graceEnd | round => exact runRound_oneMore _ (by simp)
  case endOfExcess | releaseBare => exact endExcursion_oneMore t s
  case restoreAttempt => simpa [AtMostOneMore, applyStanding, attemptRestore] using restoreStep_oneMore t.id s
  all_goals exact .inl (by simp [applyStanding])

theorem tenantFigures_oneMore (id : Nat) (s : State) : AtMostOneMore s (tenantFigures id s) := by
  have hbegin (t : Tenant) {u : State} (h : u.records = s.records) : AtMostOneMore s (beginExcursion t u) := by
    simpa [AtMostOneMore, beginExcursion] using appendRecord_oneMore h _
  unfold tenantFigures
  split
  · exact .inl rfl
  · simp only
    split
    · exact .inl (by simp)
    · split_ifs
      · exact hbegin _ (by simp)
      · exact hbegin _ (by simp)
      · exact .inl (by simp)
      · exact .inl (by simp)

theorem tenantStanding_oneMore (id : Nat) (s : State) : AtMostOneMore s (tenantStanding id s) := by
  unfold tenantStanding
  split
  · exact .inl rfl
  · split
    · exact .inl rfl
    · exact applyStanding_oneMore ..

theorem tenantDeparture_oneMore (id : Nat) (s : State) : AtMostOneMore s (tenantDeparture id s) := by
  unfold tenantDeparture
  split
  · exact .inl rfl
  · split
    · simpa [AtMostOneMore] using endExcursion_oneMore _ s
    · exact .inl rfl

/-! ## The parts together are the whole -/

/-- The rest of a close that has come to the figures of a tenant, or to its end, is the whole work on the tenants left
(R77, R110). -/
theorem finishClose_figures (ids : List Nat) (s : State) :
    finishClose (s.withCloseInHand (some ⟨.figures, ids⟩)) = endClose (ids.foldl closeTenant s) := by
  cases ids with
  | nil => simp [finishClose]
  | cons id rest => simp [finishClose, finishTenant]

/-- The end of a close exchanges the report buffers and marks READY new (R34, R55). -/
theorem endClose_link (s : State) : (endClose s).link =
    { s.link with fill := s.link.ready, ready := some (reportSnapshot (endWarmupClose s)), readyNew := true } := by
  simp only [endClose, publishReport, withCloseInHand_link]
  split <;> simp

theorem workLeft_figures (ids : List Nat) (s : State) :
    workLeft (s.withCloseInHand (some ⟨.figures, ids⟩)) = 3 * ids.length + 1 := by
  cases ids <;> rfl

/-- What the parts of a close that work on a tenant have in common. -/
theorem partTaken_of_work {s u : State} {x : Option CloseWork} (hwork : workOn s = u.withCloseInHand x)
    (hlink : u.link = s.link) (hrecords : AtMostOneMore s u)
    (hrest : finishClose (u.withCloseInHand x) = finishClose s)
    (hless : workLeft (u.withCloseInHand x) < workLeft s) : PartTaken s (workOn s) where
  rest := by rw [hwork, hrest]
  less := by rwa [hwork]
  records := by rw [hwork]; exact hrecords
  reading := by simp
  link := ⟨by simp, by simp [hwork, hlink]⟩
  other := by simp

/-- The last part of a close is its end (R55, R81, R82). -/
theorem partTaken_endClose {s : State} {x : CloseStage} (hs : s.closeInHand = some ⟨x, []⟩) :
    PartTaken s (workOn s) := by
  have hwork : workOn s = endClose s := by simp [workOn, hs]
  exact {
    rest := by rw [hwork, finishClose_nil s x hs, finishClose_none _ (by simp)]
    less := by simp [hwork, workLeft, hs]
    records := .inl (by simp [hwork])
    reading := by simp
    link := ⟨by simp, by simp [hwork, endClose_link]⟩
    other := by simp }

/-- A part of a close in hand leaves the rest of it as it was, and there is less of it (R77, R110, R156). -/
theorem partTaken_workOn {s : State} (h : s.closeInHand ≠ none) : PartTaken s (workOn s) := by
  obtain ⟨⟨stage, ids⟩, hs⟩ := Option.ne_none_iff_exists'.mp h
  cases ids with
  | nil => exact partTaken_endClose hs
  | cons id rest =>
    have hleft := finishClose_cons s _ _ _ hs
    cases stage with
    | figures =>
      refine partTaken_of_work (x := some ⟨.standing, id :: rest⟩) (by simp [workOn, hs]) (by simp)
        (tenantFigures_oneMore id s) ?_ ?_
      · rw [hleft, finishClose_cons _ _ _ _ rfl]
        simp [finishTenant, closeTenant]
      · simp [workLeft, hs]
    | standing =>
      by_cases hrestore : attemptsRestore id s = true
      · refine partTaken_of_work (x := some ⟨.departure, id :: rest⟩) (by simp [workOn, hs, hrestore])
          (by simp) (tenantStanding_oneMore id s) ?_ ?_
        · rw [hleft, finishClose_cons _ _ _ _ rfl]
          simp [finishTenant, evaluateTenant, hrestore]
        · simp only [workLeft, hs, withCloseInHand_closeInHand, List.length_cons]
          omega
      · refine partTaken_of_work (x := some ⟨.figures, rest⟩) (by simp [workOn, hs, hrestore])
          (by simp) (tenantStanding_oneMore id s) ?_ ?_
        · rw [hleft, finishClose_figures]
          simp [finishTenant, evaluateTenant, hrestore]
        · rw [workLeft_figures]
          simp only [workLeft, hs, List.length_cons]
          omega
    | departure =>
      refine partTaken_of_work (x := some ⟨.figures, rest⟩) (by simp [workOn, hs]) (by simp)
        (tenantDeparture_oneMore id s) ?_ ?_
      · rw [hleft, finishClose_figures]
        simp [finishTenant]
      · rw [workLeft_figures]
        simp only [workLeft, hs, List.length_cons]
        omega

/-! ## The idle step -/

/-- The eleventh level at rest is that of a character whose levels not yet read are all recessive (R18). -/
theorem characterLevels_rest {read : List Bool} (h : read.length = 10) :
    characterLevels (read ++ [true]) 0 = characterLevels read (BitVec.allOnes 11) := by
  apply BitVec.eq_of_getLsbD_eq
  intro i hi
  rw [characterLevels_level _ _ i hi, characterLevels_level _ _ i hi]
  by_cases hread : i < 10
  · simp [h, hread, List.getD_eq_getElem?_getD, show i < 11 by omega]
  · obtain rfl : i = 10 := by omega
    simp [h, List.getD_eq_getElem?_getD]

/-- A bit time at rest that completes a character is the row CHARACTER with recessive levels (R18). -/
theorem restBit_completes {s : State} (hframe : completedFrame s = none) (hlisten : listening s = true)
    (h : s.link.inCharacter.length = 10) : .next (restBit s) = exec (.character (BitVec.allOnes 11)) s := by
  have hwithin : s.link.inCharacter ≠ [] := by
    rintro hnil
    simp [hnil] at h
  rw [restBit_within s hwithin, takeLevel_eleventh true s h.ge, characterLevels_rest h]
  simp [exec, execCharacter, takeCharacter, hlisten, completeFrame_rest hframe]

/-- The beginning of a close reaches the Outlet Meter, the Time Base, the Link Monitor and what is in hand (R8, R43,
R48, R77). -/
theorem beginClose_frame (s : State) : beginClose s = { s with
    meter := (beginClose s).meter
    time := (beginClose s).time
    monitor := (beginClose s).monitor
    closeInHand := (beginClose s).closeInHand } := by
  simp only [beginClose, closeMonitor]
  split_ifs <;> rfl

/-- The work of a tick completion at an idle step: the roster's rows, and then the beginning of a close that is due,
whose parts together are the row PERIOD_CLOSE (R52, R53, R77). -/
theorem beginDueWork_takes {s : State} (h : s.closeInHand = none) :
    (closeDue (afterAll rosterRows s) = false → beginDueWork s = afterAll rosterRows s) ∧
      (closeDue (afterAll rosterRows s) = true → ∃ v, beginDueWork s = v ∧ v.closeInHand ≠ none ∧
        exec .periodClose (afterAll rosterRows s) = .next (finishClose v) ∧
        v = { afterAll rosterRows s with
          meter := v.meter, time := v.time, monitor := v.monitor, closeInHand := v.closeInHand }) := by
  rw [afterAll_rosterRows]
  constructor <;> intro hdue
  · simp [beginDueWork, hdue]
  · refine ⟨beginClose (settleRoster s), by simp [beginDueWork, hdue], by simp [beginClose], ?_, beginClose_frame _⟩
    simp [exec, execPeriodClose, hdue, closePeriod, h]

/-- Settles O2: the order is that of the idle step, and each thing it takes is what its row does. -/
theorem idleStepTakesWhatIsDue : Obligations.IdleStepTakesWhatIsDue := by
  intro s hpending
  rw [step_idle s hpending]
  refine ⟨fun hframe => ?_, fun hframe hhand => ⟨_, rfl, ?_⟩, fun hframe hhand hverify => ?_,
    fun hframe hhand hverify hwork => ?_, fun hframe hhand hverify hwork hattempt => ?_,
    fun hframe hhand hverify hwork hattempt => ?_⟩
  · have hcomplete : (completedFrame s).isSome = true := by rwa [Option.isSome_iff_ne_none]
    simp [idle, hcomplete, exec, execFrameCompletion]
  · rw [show idle s = workOn s by simp [idle, hframe, hhand]]
    exact partTaken_workOn hhand
  · rw [exec_openVerify hhand]
    simp [idle, hframe, hhand, hverify]
  · have hidle : idle s = beginDueWork s := by simp [idle, hframe, hhand, hverify, hwork]
    obtain ⟨hroster, hclose⟩ := beginDueWork_takes hhand
    refine ⟨fun hdue => by rw [hidle, hroster hdue], fun hdue => ?_⟩
    obtain ⟨v, hv, hrest⟩ := hclose hdue
    exact ⟨v, by rw [hidle, hv], hrest⟩
  · have hbetween : betweenCharacters s = true := by
      simp only [attemptDue, Bool.and_eq_true] at hattempt
      exact hattempt.1
    simp [idle, hframe, hhand, hverify, hwork, hattempt, exec, execAttemptStart, hbetween, completeFrame_rest hframe]
  · have hidle : idle s = if listening s then restBit s else s := by
      simp [idle, hframe, hhand, hverify, hwork, hattempt]
    rw [hidle]
    refine ⟨fun hdeaf => by simp [hdeaf], fun hlisten hnil => ?_, fun hlisten hwithin hshort => ?_,
      fun hlisten hten => ?_⟩
    · rw [if_pos hlisten, restBit_between s hnil]
      rfl
    · rw [if_pos hlisten, restBit_within s hwithin, takeLevel_short true s hshort]
      rfl
    · rw [if_pos hlisten, restBit_completes hframe hlisten hten]

end Sys2Proof.Machine
end

section
/-! PROOF. O13: what an image installs stays. Each operation that a command can take is shown once to leave it; a close
does so because the tenant records carry different ids (R172). -/

namespace Sys2Proof.Machine

/-- What an image installs, as the station holds it: the Image Loader with its parameters, the alert mask, the installed
part of the tenant records, and the tenant and class of every outlet (R15, R74, R140, R149). -/
def installedPart (s : State) : Loader × EventSet ×
    List (Nat × Nat × Nat × Nat × Nat × Nat × Bool × StationSet × Nat × Nat × Nat × Nat) × List (Nat × Nat) :=
  (s.loader, s.alert.mask, s.recon.tenants.map Tenant.installed, s.relay.outlets.map fun o => (o.tenant, o.cls))

/-- Where the tenant records of `s` carry different ids, state `t` holds what an image has installed in `s`. -/
def ImageStays (s t : State) : Prop := (tenantIds s).Nodup → installedPart t = installedPart s

/-- The installed part holds the ids of the tenant records. -/
theorem tenantIds_of_installedPart {s t : State} (h : installedPart t = installedPart s) :
    tenantIds t = tenantIds s := by
  have hids (u : State) : tenantIds u = (installedPart u).2.2.1.map Prod.fst := by
    simp [tenantIds, installedPart, Tenant.installed, Function.comp_def]
  rw [hids, hids, h]

namespace ImageStays

variable {s t u : State}

theorem refl : ImageStays s s := fun _ => rfl

theorem trans (h : ImageStays s t) (g : ImageStays t u) : ImageStays s u := fun hids =>
  (g (by rwa [tenantIds_of_installedPart (h hids)])).trans (h hids)

theorem of_eq (h : ImageStays s t) (hu : installedPart u = installedPart t) : ImageStays s u := fun hids =>
  hu.trans (h hids)

/-- An operation that leaves the blocks concerned as they were. -/
theorem frames (h : ImageStays s t) (hloader : u.loader = t.loader := by simp)
    (hmask : u.alert.mask = t.alert.mask := by simp) (hrecon : u.recon = t.recon := by simp)
    (hrelay : u.relay = t.relay := by simp) : ImageStays s u :=
  h.of_eq (by simp [installedPart, hloader, hmask, hrecon, hrelay])

theorem raise (h : ImageStays s t) {k : EventKind} : ImageStays s (raise k t) := h.of_eq rfl

theorem moves (h : ImageStays s t) (hm : Moves t u) : ImageStays s u := by
  refine h.trans fun hids => ?_
  have houtlets := congrArg (List.map fun p : Nat × Nat × Bool => (p.1, p.2.1)) hm.outlets
  simp only [List.map_map, Function.comp_def, RelayOutlet.fixed] at houtlets
  simp only [installedPart, hm.loader, hm.alert.1, hm.installed hids, houtlets]

/-! ## Outlets, the coil and the close -/

theorem changeFlags {n : Nat} {f : RelayOutlet → RelayOutlet} (h : ImageStays s t)
    (hf : ∀ r, (f r).tenant = r.tenant ∧ (f r).cls = r.cls) : ImageStays s (changeFlags n f t) := by
  have hset : ImageStays s (setRelayOutlet n f t) := h.of_eq (by
    have hmap := setRelayOutlet_map (g := fun o => (o.tenant, o.cls)) (f := f) n t fun r => by simp [hf r]
    simp only [installedPart, setRelayOutlet_loader, setRelayOutlet_alert, setRelayOutlet_recon, hmap])
  exact hset.moves (.changeFlags .refl)

theorem lockOutlet (h : ImageStays s t) {n : Nat} : ImageStays s (lockOutlet n t) := by
  have hflags := h.changeFlags (n := n) (f := fun r => { r with lock := true, shed := none }) fun _ => ⟨rfl, rfl⟩
  simp only [Machine.lockOutlet]
  split
  · exact hflags.moves (.recoverDeparture .refl)
  · exact hflags

theorem unlockOutlet (h : ImageStays s t) {n : Nat} : ImageStays s (unlockOutlet n t) :=
  h.changeFlags fun _ => ⟨rfl, rfl⟩

theorem clearStuck (h : ImageStays s t) {n : Nat} : ImageStays s (clearStuck n t) :=
  h.moves (.compareDesired (.setRelay .refl))

theorem completeJob (h : ImageStays s t) {n : Nat} {x : RelayState} : ImageStays s (completeJob n x t) := by
  have hfreed : ImageStays s (t.withRelay { t.relay with coil := none }) := h.of_eq rfl
  exact hfreed.moves (.completeJob .refl)

theorem pulseEnds (h : ImageStays s t) : ImageStays s (pulseEnds t) := by
  unfold Machine.pulseEnds
  split
  · exact h.of_eq rfl
  · exact h

theorem settleEnds (h : ImageStays s t) : ImageStays s (settleEnds t) := by
  unfold Machine.settleEnds
  split
  · split
    · exact h.completeJob
    · exact h.of_eq rfl
  · exact h

theorem stuckResult (h : ImageStays s t) {n : Nat} : ImageStays s (stuckResult n t) := by
  have hstuck := (h.moves (.raise (.setShed .refl (n := n) (x := none)) (k := .relayFault))).completeJob
    (n := n) (x := .stuck)
  simp only [Machine.stuckResult]
  split
  · exact hstuck.moves (.recoverDeparture .refl)
  · exact hstuck

theorem verifyOpen (h : ImageStays s t) : ImageStays s (verifyOpen t) := by
  unfold Machine.verifyOpen
  split
  · split
    · exact h.completeJob
    · exact h.stuckResult
  · exact h

theorem endClose (h : ImageStays s t) : ImageStays s (endClose t) := by
  have hwarmup : ImageStays s (endWarmupClose t) := h.of_eq (by unfold endWarmupClose; split <;> rfl)
  have hpublish : ImageStays s (publishReport (endWarmupClose t)) := hwarmup.of_eq (by
    simp only [publishReport]
    split <;> rfl)
  exact hpublish.of_eq rfl

theorem finishClose (h : ImageStays s t) : ImageStays s (finishClose t) := by
  by_cases hhand : t.closeInHand = none
  · rwa [finishClose_none t hhand]
  · obtain ⟨u, hu, heq⟩ := finishClose_moves hhand
    rw [heq]
    exact (h.moves hu).endClose

theorem closePeriod (h : ImageStays s t) : ImageStays s (closePeriod t) := by
  have hbegin : ImageStays s (beginClose (Machine.finishClose t)) := h.finishClose.frames
  exact hbegin.finishClose

/-! ## The roster and the Contribution Table -/

theorem setLinkState (h : ImageStays s t) {l : LinkState} : ImageStays s (setLinkState l t) := h.frames

theorem testAlone (h : ImageStays s t) : ImageStays s (testAlone t) := by
  unfold Machine.testAlone
  split
  · exact (h.frames : ImageStays s (enterAlone t)).raise
  · exact h

theorem expireStation (h : ImageStays s t) {n : Nat} : ImageStays s (expireStation n t) := by
  have hclear : ImageStays s (clearOverflow n ((setRosterRecord n RosterRecord.blank t).withTable
      (t.table.filter fun e => e.source != n))) :=
    h.of_eq (by simp [installedPart, clearOverflow, Tenant.installed, Function.comp_def])
  exact hclear.testAlone

theorem foldl {α : Type} {g : State → α → State} (hg : ∀ {t : State} (a : α), ImageStays s t → ImageStays s (g t a))
    (h : ImageStays s t) (l : List α) : ImageStays s (l.foldl g t) := by
  induction l generalizing t with
  | nil => exact h
  | cons a l ih => exact ih (hg a h)

theorem settleRoster (h : ImageStays s t) : ImageStays s (settleRoster t) := by
  refine foldl (fun n h => ?_) (foldl (fun n h => ?_) h _) _
  · split
    · exact h.expireStation
    · exact h
  · split
    · exact h.frames
    · exact h

theorem setOverflow (h : ImageStays s t) {id : Nat} {f : Tenant → StationSet} :
    ImageStays s (setTenant id (fun r => { r with overflow := f r }) t) :=
  h.moves (.setTenant .refl)

theorem createEntry (h : ImageStays s t) {src : Nat} {e : ReportEntry} {r : Tenant} :
    ImageStays s (createEntry src e r t) := by
  have hadd (x : Entry) : ImageStays s (clearOverflowBit src e.tenant (addEntry x t)) :=
    (h.frames : ImageStays s (addEntry x t)).setOverflow
  simp only [Machine.createEntry]
  split
  · exact (hadd _).raise
  · exact hadd _

theorem applyToFullTable (h : ImageStays s t) {src : Nat} {e : ReportEntry} {r : Tenant} :
    ImageStays s (applyToFullTable src e r t) := by
  unfold Machine.applyToFullTable
  split
  · next v _ =>
    have hremove : ImageStays s (removeEntry v.source v.tenant t) := h.frames
    exact hremove.setOverflow.createEntry.raise
  · exact h.setOverflow.raise

theorem applyEntry (h : ImageStays s t) {src : Nat} {e : ReportEntry} : ImageStays s (applyEntry src t e) := by
  unfold Machine.applyEntry
  split
  · exact h
  · split_ifs
    · exact (h.of_eq rfl : ImageStays s (t.withTable _)).setOverflow
    · exact h.createEntry
    · exact h.applyToFullTable

theorem omitTenant (h : ImageStays s t) {src id : Nat} : ImageStays s (omitTenant src t id) :=
  (h.frames : ImageStays s (removeEntry src id t)).setOverflow

theorem takeReport (h : ImageStays s t) {src ticks : Nat} {es : List ReportEntry} :
    ImageStays s (takeReport src ticks es t) := by
  have hrecord : ImageStays s (setRosterRecord src ⟨.live, 0, clampTo 5 50 ticks⟩ t) := h.frames
  have hentries := foldl (g := Machine.applyEntry src) (fun _ h => h.applyEntry) hrecord es
  simp only [Machine.takeReport]
  split
  · exact (foldl (fun _ h => h.omitTenant) hentries _).setLinkState
  · exact foldl (fun _ h => h.omitTenant) hentries _

/-! ## The commands of the gateway -/

theorem respond (h : ImageStays s t) {c : Byte} {r : Result} {d : List Byte} : ImageStays s (respond c r d t) := h.frames

theorem queryStatusEffect (h : ImageStays s t) {arg : List Byte} : ImageStays s (queryStatusEffect arg t) := by
  unfold Machine.queryStatusEffect
  split
  · exact h.finishClose.respond
  · exact h.respond

theorem queryOutletEffect (h : ImageStays s t) {arg : List Byte} : ImageStays s (queryOutletEffect arg t) := by
  unfold Machine.queryOutletEffect
  split
  · exact h.finishClose.respond
  · exact h.respond

theorem lockOffEffect (h : ImageStays s t) {arg : List Byte} : ImageStays s (lockOffEffect arg t) := by
  unfold Machine.lockOffEffect
  split
  · exact h.respond
  · split
    · exact h.respond
    · exact h.finishClose.lockOutlet.respond

theorem unlockEffect (h : ImageStays s t) {arg : List Byte} : ImageStays s (unlockEffect arg t) := by
  unfold Machine.unlockEffect
  split
  · exact h.respond
  · exact h.finishClose.unlockOutlet.respond

theorem clearFaultEffect (h : ImageStays s t) {arg : List Byte} : ImageStays s (clearFaultEffect arg t) := by
  unfold Machine.clearFaultEffect
  split
  · exact h.respond
  · split
    · exact h.finishClose.clearStuck.respond
    · exact h.respond

theorem ackEventsEffect (h : ImageStays s t) {arg : List Byte} : ImageStays s (ackEventsEffect arg t) := by
  unfold Machine.ackEventsEffect
  split
  · exact h.respond
  · next set _ => exact (h.of_eq rfl : ImageStays s (t.withAlert (t.alert.acknowledge set))).respond

theorem endAlertEffect (h : ImageStays s t) {arg : List Byte} : ImageStays s (endAlertEffect arg t) := by
  unfold Machine.endAlertEffect
  split
  · exact (h.of_eq rfl : ImageStays s (startGap t)).respond
  · exact h.respond

theorem fetchRecordEffect (h : ImageStays s t) {arg : List Byte} : ImageStays s (fetchRecordEffect arg t) := h.frames

theorem restartEffect (h : ImageStays s t) {arg : List Byte} : ImageStays s (restartEffect arg t) := h.frames

theorem commandEffect (h : ImageStays s t) {code : Byte} {arg : List Byte} :
    ImageStays s (commandEffect code arg t) := by
  unfold Machine.commandEffect
  split
  · exact h.queryStatusEffect
  · exact h.queryOutletEffect
  · exact h.lockOffEffect
  · exact h.unlockEffect
  · exact h.clearFaultEffect
  · exact h.ackEventsEffect
  · exact h.endAlertEffect
  · exact h.fetchRecordEffect
  · exact h.restartEffect
  · exact h.respond

theorem receiveCommand (h : ImageStays s t) {arg : List Byte} {f : State → State} (hf : ImageStays s (f t)) :
    ImageStays s (receiveCommand arg f t) := by
  unfold Machine.receiveCommand
  split_ifs
  · exact h
  · exact h.raise
  · exact hf

/-! ## Frames, characters and transmissions -/

theorem deliverByKind (h : ImageStays s t) {b : List Byte} : ImageStays s (deliverByKind b t) := by
  unfold Machine.deliverByKind
  split
  · unfold deliverReport
    split_ifs
    · exact h.setLinkState.raise
    · exact h
    · exact h
    · exact h.takeReport
  · unfold deliverCommand
    split
    · split
      · exact h.receiveCommand h.commandEffect
      · exact h
    · exact h
  · exact h

theorem settleForReport (h : ImageStays s t) {b : List Byte} : ImageStays s (settleForReport b t) := by
  unfold Machine.settleForReport
  split
  · exact h.finishClose.settleRoster
  · exact h

theorem deliverFrame (h : ImageStays s t) {b : List Byte} : ImageStays s (deliverFrame b t) := by
  have hsettled := h.settleForReport (b := b)
  simp only [Machine.deliverFrame]
  split
  · have hadopted : ImageStays s (adoptRate (hearFrame (Machine.settleForReport b t))) := hsettled.frames
    exact hadopted.deliverByKind.testAlone
  · have hheard : ImageStays s (hearFrame (Machine.settleForReport b t)) := hsettled.frames
    exact hheard.deliverByKind

theorem completeFrame (h : ImageStays s t) : ImageStays s (completeFrame t) := by
  unfold Machine.completeFrame
  split
  · exact h
  · have htaken : ImageStays s (t.withLink { t.link with assembler := .waitQuiet }) := h.of_eq rfl
    simp only
    split
    · exact htaken.deliverFrame
    · exact htaken

theorem takeCharacter (h : ImageStays s t) {levels : BitVec 11} : ImageStays s (takeCharacter levels t) := by
  unfold Machine.takeCharacter
  split
  · exact h.completeFrame.frames
  · exact h

theorem enterMuted (h : ImageStays s t) : ImageStays s (enterMuted t) :=
  (h.of_eq rfl : ImageStays s ((Machine.setLinkState .muted t).withMonitor _)).raise

theorem countFault (h : ImageStays s t) : ImageStays s (countFault t) := by
  have hcounted : ImageStays s (t.withMonitor { t.monitor with faults := t.monitor.faults + 1 }) := h.of_eq rfl
  simp only [Machine.countFault]
  split
  · exact hcounted.enterMuted
  · exact hcounted

theorem faultFrame (h : ImageStays s t) {k : SendKind} {bit : Nat} : ImageStays s (faultFrame k bit t) := by
  have hdropped : ImageStays s (dropFrame (outFrame t k) bit t) := h.frames
  cases k
  case lineCheck =>
    simp only [Machine.faultFrame, checkFailed]
    split
    · exact hdropped.enterMuted
    · exact hdropped.of_eq rfl
    · exact hdropped
  case response | report => exact (hdropped.frames : ImageStays s (countAttempt _ _)).countFault

/-! ## Ticks -/

theorem startRead (h : ImageStays s t) : ImageStays s (startRead t) := by
  have hsettled := h.finishClose.verifyOpen.settleRoster
  have hdue : ImageStays s (takeDueWork t) := by
    simp only [takeDueWork]
    split
    · exact hsettled.closePeriod
    · exact hsettled
  exact (hdue.frames :
    ImageStays s ((takeDueWork t).withMeter { (takeDueWork t).meter with reading := some 1 }))

theorem missedRead (h : ImageStays s t) {c : Nat} : ImageStays s (endRead c (missFrame c t)) := by
  have hmiss : ImageStays s (missFrame c t) := h.of_eq (by
    simp only [missFrame]
    split <;> rfl)
  exact hmiss.frames

theorem appliedRead (h : ImageStays s t) {c : Nat} {f : List Byte} : ImageStays s (endRead c (applyFrame c f t)) := by
  have happlied : ImageStays s (applyFrame c f t) := h.of_eq (by
    simp only [applyFrame, takeVerifySample]
    split <;> rfl)
  exact happlied.frames

end ImageStays

/-- Every command that neither resets the station nor reaches the Image Loader leaves what an image has installed. -/
theorem imageStays_exec {c : Instr} {s t : State} (hexec : exec c s = .next t) (hc : loads c = false) :
    ImageStays s t := by
  have h : ImageStays s s := .refl
  have hif {p : Prop} [Decidable p] {u : State} (hu : ImageStays s u) : ImageStays s (if p then u else s) := by
    split
    · exact hu
    · exact h
  cases c
  case powerOnReset | restartReset | holdEnd | imageReadComplete => simp [loads] at hc
  all_goals obtain rfl := Host.Outcome.next.inj hexec
  case tick => exact hif h.startRead
  case captureCompletion f =>
    split
    · exact h
    · split
      · exact h.appliedRead
      · exact h.missedRead
  case outletUnmeasured =>
    split
    · exact h
    · exact hif h.missedRead
  case stationLate n => exact hif h.frames
  case stationExpiry n => exact hif h.expireStation
  case periodClose | graceExpiry | settleExpiry | restoreCounterExpiry | checkCountdownExpiry => exact hif h.closePeriod
  case character levels => exact h.takeCharacter
  case searchOnCharacterErrors levels => exact hif h.takeCharacter
  case assemblerArmed => exact hif h.completeFrame.frames
  case gapError =>
    split
    · exact hif h.frames
    · exact h
  case frameCompletion => exact h.completeFrame
  case queryStatus arg => exact h.receiveCommand h.queryStatusEffect
  case queryOutlet arg => exact h.receiveCommand h.queryOutletEffect
  case lockOff arg => exact h.receiveCommand h.lockOffEffect
  case unlock arg => exact h.receiveCommand h.unlockEffect
  case clearFault arg => exact h.receiveCommand h.clearFaultEffect
  case ackEvents arg => exact h.receiveCommand h.ackEventsEffect
  case endAlert arg => exact h.receiveCommand h.endAlertEffect
  case fetchRecord arg => exact h.receiveCommand h.fetchRecordEffect
  case restart arg => exact h.receiveCommand h.restartEffect
  case invalidCommand code arg => exact h.receiveCommand h.commandEffect
  case attemptStart => exact hif h.completeFrame.frames
  case yieldLine bit =>
    split
    · exact hif h.frames
    · exact h
  case transmitFault bit =>
    split
    · exact hif h.faultFrame
    · exact h
  case txFaultLimit bit =>
    split
    · exact hif h.faultFrame
    · exact h
  case transmitSuccess =>
    split
    · exact h.frames
    · exact h
  case dwellExpiry => exact hif h.frames
  case pulseEnd => exact h.pulseEnds
  case settleEnd => exact hif h.finishClose.settleEnds
  case openVerify => exact hif h.finishClose.verifyOpen
  case gapExpiry => exact hif (h.of_eq rfl)

/-- Settles O13: each command is made of operations that leave what an image has installed. -/
theorem installedValuesStay : Obligations.InstalledValuesStay := by
  intro c s t hids hexec hc
  have hloads : loads c = false := by cases c <;> simp [loads] at hc ⊢
  simpa only [installedPart, Prod.mk.injEq] using imageStays_exec hexec hloads hids

end Sys2Proof.Machine
end

section
/-! SUPPORT. What the end of a converter's read leaves, and a converter's frame as it is captured (R2 to R7). -/

namespace Sys2Proof.Machine

/-- Two states with equal blocks are one state. -/
theorem State.eq_of_blocks {s t : State} (hmeter : t.meter = s.meter) (htime : t.time = s.time)
    (hlink : t.link = s.link) (hmonitor : t.monitor = s.monitor) (hroster : t.roster = s.roster)
    (htable : t.table = s.table) (hrecon : t.recon = s.recon) (hrelay : t.relay = s.relay)
    (halert : t.alert = s.alert) (hrecords : t.records = s.records) (hhand : t.closeInHand = s.closeInHand)
    (hrestart : t.restartPending = s.restartPending) (hloader : t.loader = s.loader)
    (hpending : t.pending = s.pending) : t = s := by
  cases s
  cases t
  simp_all

/-! ## The bytes of a captured frame -/

/-- Bytes that are captured are read back as they were sent (R2, R171). -/
theorem serialByte_serialBytes (b : List Byte) {i n : Nat} (h : i < n) :
    serialByte (serialBytes b 0 n) i = serialByte b i := by
  simp [serialBytes, serialByte, h]

/-- The sample of a channel is its two bytes' value, clamped (R3, R4). -/
theorem sampleOf_captured (f : List Byte) {j : Nat} (h1 : 1 ≤ j) (h8 : j ≤ 8) :
    sampleOf (serialBytes f 0 20) j =
      min (leNat [serialByte f (2 + 2 * (j - 1)), serialByte f (3 + 2 * (j - 1))]) 40000 := by
  have hbytes : serialBytes (serialBytes f 0 20) (2 + 2 * (j - 1)) 2 =
      [serialByte f (2 + 2 * (j - 1)), serialByte f (3 + 2 * (j - 1))] := by
    have hfirst := serialByte_serialBytes f (show 2 + 2 * (j - 1) < 20 by omega)
    have hsecond := serialByte_serialBytes f (show 3 + 2 * (j - 1) < 20 by omega)
    rw [← hfirst, ← hsecond, show 3 + 2 * (j - 1) = 2 + 2 * (j - 1) + 1 by omega]
    rfl
  rw [sampleOf, frameChannel, hbytes]
  rfl

/-! ## The end of a read -/

/-- The accumulation of a tick completion leaves the held sample (R7). -/
@[simp] theorem accumulated_held (s : State) (c n : Nat) (o : MeterOutlet) : (accumulated s c n o).held = o.held := by
  unfold accumulated
  split <;> rfl

theorem accumulated_congr {s u : State} (hl : u.loader = s.loader) (c n : Nat) (o : MeterOutlet) :
    accumulated u c n o = accumulated s c n o := by simp [accumulated, hl]

/-- The end of a read leaves the figures of an outlet, or at a tick completion accumulates them (R2, R7). -/
theorem meterOutlet_endRead {s : State} (c : Nat) {n : Nat} (hn : 1 ≤ n) (hlength : s.meter.outlets.length = 24)
    (hcount : s.loader.params.converterCount ≤ 3) :
    meterOutlet (endRead c s) n = accumulated s c n (meterOutlet s n) := by
  unfold endRead accumulated
  split
  · next hc => simp [show ¬ s.loader.params.converterCount ≤ c by omega]
  · next hc =>
    have hplace : n - 1 < 24 ∧ n - 1 < 8 * s.loader.params.converterCount ↔
        s.loader.params.converterCount ≤ c ∧ n ≤ 8 * s.loader.params.converterCount := by omega
    rw [meterOutlet_completeTick]
    simp only [withMeter_meter, withMeter_loader, hlength, hplace, meterOutlet_withReading]

@[simp] theorem completeTick_converters (s : State) :
    (completeTick s).meter.converters = s.meter.converters := by simp [completeTick]

@[simp] theorem endRead_converter (c d : Nat) (s : State) : converter (endRead c s) d = converter s d := by
  unfold endRead converter
  split <;> simp

/-- The read cycle goes on to the next converter, or ends with the tick completion (R2, R7, R52). -/
theorem readWentOn_endRead (c : Nat) {s u : State} (htime : u.time = s.time) (hroster : u.roster = s.roster)
    (hloader : u.loader = s.loader) : ReadWentOn c s (endRead c u) := by
  unfold ReadWentOn endRead
  rw [hloader]
  split
  · simp [htime, hroster]
  · simp only [completeTick, withMeter_meter, withMeter_time, withMeter_roster, withTime_meter, withTime_time,
      withRoster_meter, withRoster_time, withRoster_roster, htime, hroster, true_and]
    rfl

/-- The record of a converter after one converter's record is replaced. -/
theorem converter_setConverter {c d : Nat} (x : Converter) (s : State) (hc : 1 ≤ c) (hd : 1 ≤ d)
    (hlength : c ≤ s.meter.converters.length) :
    converter (setConverter c x s) d = if d = c then x else converter s d := by
  simp only [converter, setConverter_converters, List.getD_eq_getElem?_getD, List.getElem?_set]
  by_cases h : d = c
  · subst h
    simp [show d - 1 < s.meter.converters.length by omega]
  · simp [h, show c - 1 ≠ d - 1 by omega]

/-- The eight outlets of a converter after a change of them, by channel (R4, R5). -/
theorem meterOutlet_channel {c j : Nat} (f : Nat → MeterOutlet → MeterOutlet) {s : State} (hc : 1 ≤ c) (hc3 : c ≤ 3)
    (hj : 1 ≤ j) (hj8 : j ≤ 8) (hlength : s.meter.outlets.length = 24) :
    meterOutlet (changeConverterOutlets c f s) (8 * (c - 1) + j) = f j (meterOutlet s (8 * (c - 1) + j)) := by
  rw [meterOutlet_changeConverterOutlets, if_pos (by omega)]
  congr 1
  omega

/-- The outlets of the other converters are as they were (R4, R5). -/
theorem meterOutlet_otherConverter {c n : Nat} (f : Nat → MeterOutlet → MeterOutlet) (s : State) (hn : 1 ≤ n)
    (hother : n ≤ 8 * (c - 1) ∨ 8 * c < n) : meterOutlet (changeConverterOutlets c f s) n = meterOutlet s n := by
  rw [meterOutlet_changeConverterOutlets, if_neg (by omega)]

end Sys2Proof.Machine
end

section
/-! PROOF. O24: an accepted converter frame. -/

namespace Sys2Proof.Machine

section

variable {c : Nat} {f : List Byte} {s : State}

theorem meterOutlet_applyFrame (n : Nat) : meterOutlet (applyFrame c f s) n = meterOutlet (changeConverterOutlets c
    (fun j o => { o with held := sampleOf f j, missed := 0, unmeasured := false }) s) n := by
  rw [meterOutlet_congr (applyFrame_meter c f s)]
  rfl

theorem converter_applyFrame {d : Nat} (hc : 1 ≤ c) (hd : 1 ≤ d) (hlength : c ≤ s.meter.converters.length) :
    converter (applyFrame c f s) d = if d = c then ⟨some f, some (frameSequence f)⟩ else converter s d := by
  rw [← converter_setConverter _ s hc hd hlength, converter, applyFrame_meter]
  rfl

/-- The coil that waits for the sample of one of the converter's outlets has it as its verify sample (R4, R137). -/
theorem applyFrame_relay_verify {j : Job} (hcoil : s.relay.coil = some ⟨j, .verify none⟩)
    (hlow : 8 * (c - 1) < j.outlet) (hhigh : j.outlet ≤ 8 * c) :
    (applyFrame c f s).relay =
      { s.relay with coil := some ⟨j, .verify (some (sampleOf f (j.outlet - 8 * (c - 1))))⟩ } := by
  simp [applyFrame, takeVerifySample, hcoil, appliedSample, hlow, hhigh]

/-- A coil that waits for no sample of the converter's outlets is left (R4, R137). -/
theorem applyFrame_relay_rest
    (h : ∀ j, s.relay.coil = some ⟨j, .verify none⟩ → j.outlet ≤ 8 * (c - 1) ∨ 8 * c < j.outlet) :
    (applyFrame c f s).relay = s.relay := by
  simp only [applyFrame, takeVerifySample, changeConverterOutlets_relay, setConverter_relay]
  split
  · next j hcoil =>
    have hother : ¬ (8 * (c - 1) < j.outlet ∧ j.outlet ≤ 8 * c) := by have := h j hcoil; omega
    simp [appliedSample, hother, ← hcoil]
  · simp

end

/-- Settles O24: the frame is applied to its outlets and handed to the coil, and the read goes on. -/
theorem acceptedFrameIsApplied : Obligations.AcceptedFrameIsApplied := by
  intro f c s hreading hc hcount hcount3 houtlets hconverters haccepted
  have hc3 : c ≤ 3 := by omega
  have happlied : (applyFrame c (serialBytes f 0 20) s).meter.outlets.length = 24 := by
    simp [applyFrame_meter, houtlets]
  have hread {n : Nat} (hn : 1 ≤ n) : meterOutlet (endRead c (applyFrame c (serialBytes f 0 20) s)) n =
      accumulated s c n (meterOutlet (applyFrame c (serialBytes f 0 20) s) n) := by
    rw [meterOutlet_endRead c hn happlied (by simpa using hcount3), accumulated_congr (s := s) (by simp)]
  have hchannel {j : Nat} (hj : 1 ≤ j) (hj8 : j ≤ 8) :
      meterOutlet (endRead c (applyFrame c (serialBytes f 0 20) s)) (8 * (c - 1) + j) =
        accumulated s c (8 * (c - 1) + j)
          { meterOutlet s (8 * (c - 1) + j) with
            held := sampleOf (serialBytes f 0 20) j, missed := 0, unmeasured := false } := by
    rw [hread (by omega), meterOutlet_applyFrame, meterOutlet_channel _ hc hc3 hj hj8 houtlets]
  refine ⟨endRead c (applyFrame c (serialBytes f 0 20) s), ?_, fun j hj hj8 => ?_, fun n hn hother => ?_, ?_,
    fun d hd hdc => ?_, readWentOn_endRead c (by simp) (by simp) (by simp), fun j hcoil hlow hhigh => ?_,
    fun hnone => ?_, ?_⟩
  · simp [exec, execCaptureCompletion, hreading, capturedBytes, Config.converterFrameBytes, haccepted]
  · rw [hchannel hj hj8, sampleOf_captured f hj hj8]
  · rw [hread hn, meterOutlet_applyFrame, meterOutlet_otherConverter _ _ hn hother]
  · rw [endRead_converter, converter_applyFrame hc hc (by omega), if_pos rfl, frameSequence,
      serialByte_serialBytes f (by omega)]
  · rw [endRead_converter, converter_applyFrame hc hd (by omega), if_neg hdc]
  · have hheld := congrArg MeterOutlet.held (hchannel (j := j.outlet - 8 * (c - 1)) (by omega) (by omega))
    rw [show 8 * (c - 1) + (j.outlet - 8 * (c - 1)) = j.outlet by omega, accumulated_held] at hheld
    rw [endRead_relay, applyFrame_relay_verify hcoil hlow hhigh, hheld]
  · rw [endRead_relay, applyFrame_relay_rest hnone]
  · apply State.eq_of_blocks <;> simp

end Sys2Proof.Machine
end

section
/-! PROOF. O25: a rejected converter frame. -/

namespace Sys2Proof.Machine

section

variable {c : Nat} {s : State}

theorem meterOutlet_missFrame (n : Nat) :
    meterOutlet (missFrame c s) n = meterOutlet (changeConverterOutlets c (fun _ => missTick) s) n := by
  rw [meterOutlet_congr (missFrame_meter c s)]
  rfl

theorem converter_missFrame {d : Nat} (hc : 1 ≤ c) (hd : 1 ≤ d) (hlength : c ≤ s.meter.converters.length) :
    converter (missFrame c s) d = if d = c then { converter s c with buffer := none } else converter s d := by
  rw [← converter_setConverter _ s hc hd hlength, converter, missFrame_meter]
  rfl

/-- SAMPLE_FAULT is due where one of the converter's outlets stands at four missed ticks (R6). -/
theorem unmeasuredDue_iff (hc : 1 ≤ c) (hc3 : c ≤ 3) (hlength : s.meter.outlets.length = 24) :
    unmeasuredDue s c = true ↔ ∃ j, 1 ≤ j ∧ j ≤ 8 ∧ (meterOutlet s (8 * (c - 1) + j)).missed = 4 := by
  have hplace {i : Nat} (hi : i < 8) :
      ((s.meter.outlets.drop (8 * (c - 1))).take 8)[i]? = some (meterOutlet s (8 * (c - 1) + (i + 1))) := by
    have hin : 8 * (c - 1) + i < s.meter.outlets.length := by omega
    simp [meterOutlet, hi, hin]
  have hlimit : Config.missedLimit = 5 := rfl
  simp only [unmeasuredDue, List.any_eq_true, decide_eq_true_eq, List.mem_iff_getElem?]
  constructor
  · rintro ⟨o, ⟨i, hi⟩, hmissed⟩
    have hi8 : i < 8 := by
      have hlt := (List.getElem?_eq_some_iff.mp hi).1
      simp only [List.length_take] at hlt
      omega
    obtain rfl := Option.some.inj ((hplace hi8).symm.trans hi)
    exact ⟨i + 1, by omega, by omega, by omega⟩
  · rintro ⟨j, hj, hj8, hmissed⟩
    obtain ⟨i, rfl⟩ : ∃ i, j = i + 1 := ⟨j - 1, by omega⟩
    exact ⟨_, ⟨i, hplace (by omega)⟩, by omega⟩

/-- SAMPLE_FAULT is raised where a rejection makes outlets UNMEASURED (R6). -/
theorem missFrame_alert_due (h : unmeasuredDue s c = true) :
    (missFrame c s).alert = (raise .sampleFault s).alert := by simp [missFrame, h, raise]

theorem missFrame_alert_rest (h : unmeasuredDue s c = false) : (missFrame c s).alert = s.alert := by
  simp [missFrame, h]

end

/-- Settles O25: the rejection is one missed tick of its outlets, and the row OUTLET_UNMEASURED is the rejection that
takes one of them from four missed ticks to five. -/
theorem rejectedFrameIsAMissedTick : Obligations.RejectedFrameIsAMissedTick := by
  intro f c s hreading hc hcount hcount3 houtlets hconverters hrejected
  have hc3 : c ≤ 3 := by omega
  have hread {n : Nat} (hn : 1 ≤ n) : meterOutlet (endRead c (missFrame c s)) n =
      accumulated s c n (meterOutlet (missFrame c s) n) := by
    rw [meterOutlet_endRead c hn (by simp [missFrame_meter, houtlets]) (by simpa using hcount3),
      accumulated_congr (s := s) (by simp)]
  refine ⟨endRead c (missFrame c s), ?_, fun j hj hj8 => ?_, fun n hn hother => ?_, ?_, fun d hd hdc => ?_,
    readWentOn_endRead c (by simp) (by simp) (by simp), fun hfour => ?_, fun hnone => ?_, ?_, ?_, ?_⟩
  · simp [exec, execCaptureCompletion, hreading, capturedBytes, Config.converterFrameBytes, hrejected]
  · rw [hread (by omega), meterOutlet_missFrame, meterOutlet_channel _ hc hc3 hj hj8 houtlets]
    simp [missTick, Config.missedLimit]
  · rw [hread hn, meterOutlet_missFrame, meterOutlet_otherConverter _ _ hn hother]
  · rw [endRead_converter, converter_missFrame hc hc (by omega), if_pos rfl]
  · rw [endRead_converter, converter_missFrame hc hd (by omega), if_neg hdc]
  · have hdue := (unmeasuredDue_iff hc hc3 houtlets).mpr hfour
    constructor
    · rw [endRead_alert, missFrame_alert_due hdue, raise_latches]
      rfl
    · simp [exec, execOutletUnmeasured, hreading, hdue]
  · have hdue : unmeasuredDue s c = false := by
      rw [Bool.eq_false_iff, Ne, unmeasuredDue_iff hc hc3 houtlets]
      rintro ⟨j, hj, hj8, hmissed⟩
      exact hnone j hj hj8 hmissed
    constructor
    · rw [endRead_alert, missFrame_alert_rest hdue]
    · simp [exec, execOutletUnmeasured, hreading, hdue]
  · cases hdue : unmeasuredDue s c <;> simp [missFrame_alert_due, missFrame_alert_rest, hdue]
  · cases hdue : unmeasuredDue s c <;> simp [missFrame_alert_due, missFrame_alert_rest, hdue]
  · apply State.eq_of_blocks <;> simp

end Sys2Proof.Machine
end

section
/-! PROOF. O27: what a period close does outside the tenant table. The work on the tenants is some moves; what they keep,
the close keeps. -/

namespace Sys2Proof.Machine

/-! ## The end of a close -/

@[simp] theorem endWarmupClose_tenants (s : State) : (endWarmupClose s).recon.tenants = s.recon.tenants := by
  unfold endWarmupClose
  split <;> rfl

@[simp] theorem endClose_tenants (s : State) : (endClose s).recon.tenants = s.recon.tenants := by simp [endClose]

/-- The end of a close leaves the mask and the end-alert gap, and raises REPORT_SUPERSEDED where an unsent report is
replaced in ALONE or JOINED (R34). -/
theorem endClose_alert (s : State) :
    (endClose s).alert.mask = s.alert.mask ∧ (endClose s).alert.gap = s.alert.gap ∧
      (latched (endClose s) .reportSuperseded = true ↔ latched s .reportSuperseded = true ∨
        s.link.readyNew = true ∧ (s.monitor.link = .alone ∨ s.monitor.link = .joined)) := by
  have hlatched (u : State) (x : Option CloseWork) (k : EventKind) : latched (u.withCloseInHand x) k = latched u k := rfl
  have hwarmup : latched (endWarmupClose s) .reportSuperseded = latched s .reportSuperseded := by simp [latched]
  have hwritten (x : Transceiver) (k : EventKind) : latched ((endWarmupClose s).withLink x) k =
      latched (endWarmupClose s) k := rfl
  simp only [endClose, publishReport, endWarmupClose_link, endWarmupClose_monitor, hlatched, withCloseInHand_alert]
  by_cases hlost : (s.link.readyNew && (decide (s.monitor.link = .alone) || decide (s.monitor.link = .joined))) = true
  · rw [if_pos hlost]
    simp only [Bool.and_eq_true, Bool.or_eq_true, decide_eq_true_eq] at hlost
    simp [hlost]
  · rw [if_neg hlost]
    simp only [Bool.and_eq_true, Bool.or_eq_true, decide_eq_true_eq] at hlost
    simp [hwritten, hwarmup, hlost]

/-- The report of a close holds the figures of the state that the close leaves (R55, R56). -/
theorem endClose_report (s : State) : (endClose s).link =
    { s.link with fill := s.link.ready, ready := some (reportSnapshot (endClose s)), readyNew := true } := by
  have hsnapshot {t u : State} (hmeter : t.meter = u.meter) (hloader : t.loader = u.loader)
      (hrelay : t.relay = u.relay) (htenants : t.recon.tenants = u.recon.tenants) :
      reportSnapshot t = reportSnapshot u := by
    simp [reportSnapshot, Function.comp_def, reportEntry, anyUnmeasured, shedOutlets, tenantOutlets, presentOutlets,
      relayOutlet, meterOutlet, hmeter, hloader, hrelay, htenants]
  rw [endClose_link, hsnapshot (t := endWarmupClose s) (u := endClose s) (by simp) (by simp) (by simp) (by simp)]

/-! ## The tenants' part of a close -/

/-- The whole close is its beginning, some moves, and its end. -/
theorem closePeriod_moves {s : State} (h : s.closeInHand = none) :
    ∃ u, Moves (beginClose s) u ∧ u.monitor = (closeMonitor s).monitor ∧ closePeriod s = endClose u := by
  refine ⟨(s.recon.tenants.map Tenant.id).foldl closeTenant (beginClose s), .closeTenants .refl _, ?_,
    closePeriod_eq s h⟩
  rw [foldl_keeps State.monitor _ closeTenant_monitor, beginClose, withCloseInHand_monitor]
  simp only [closeMonitor, countdownEnds, placeCheck, closeMeter_monitor]
  split_ifs <;> simp

/-- The Link Monitor's counts start afresh, and in MUTED the countdown falls to the next line check (R43, R48). -/
theorem closeMonitor_monitor (s : State) : (closeMonitor s).monitor = { s.monitor with
    charErrors := 0, heard := false
    countdown := if s.monitor.link = .muted ∧ s.monitor.check = none then s.monitor.countdown - 1
      else s.monitor.countdown
    check := if s.monitor.link = .muted ∧ s.monitor.check = none ∧ s.monitor.countdown ≤ 1 then
      some ⟨.periodic, 0⟩ else s.monitor.check } := by
  by_cases hmuted : s.monitor.link = .muted ∧ s.monitor.check = none
  · obtain ⟨hlink, hcheck⟩ := hmuted
    by_cases hlast : s.monitor.countdown ≤ 1
    · simp [closeMonitor, countdownEnds, placeCheck, hlink, hcheck, hlast]
    · simp [closeMonitor, countdownEnds, hlink, hcheck, hlast]
  · have hother : ¬ (s.monitor.link = .muted ∧ s.monitor.check = none ∧ s.monitor.countdown ≤ 1) :=
      fun h => hmuted ⟨h.1, h.2.1⟩
    simp [closeMonitor, countdownEnds, hmuted, hother]

/-- The averages of a close, outlet by outlet; a place without a record stands at 0 before and after (R8, R11). -/
theorem meterOutlet_closePeriod (s : State) {n : Nat} (hn : 1 ≤ n) : meterOutlet (closePeriod s) n =
    if n ≤ 8 * s.loader.params.converterCount then
      { meterOutlet s n with
        average := (meterOutlet s n).accumulator / s.loader.params.periodTicks, accumulator := 0 }
    else meterOutlet s n := by
  have hplace : n - 1 < 8 * s.loader.params.converterCount ↔ n ≤ 8 * s.loader.params.converterCount := by omega
  rw [meterOutlet_congr (closePeriod_meter s).1, meterOutlet_closeMeter]
  simp only [hplace]
  by_cases hin : n - 1 < s.meter.outlets.length
  · simp [hin]
  · have hblank : meterOutlet s n = MeterOutlet.blank := by
      rw [meterOutlet, List.getD_eq_default _ _ (by omega)]
    simp [hin, hblank, MeterOutlet.blank]

@[simp] theorem closeDue_finishClose (s : State) : closeDue (finishClose s) = closeDue s := by simp [closeDue]

@[simp] theorem closePeriod_finishClose (s : State) : closePeriod (finishClose s) = closePeriod s := by
  rw [closePeriod, finishClose_none (finishClose s) (by simp), closePeriod]

/-- Settles O27: the close is its beginning, the moves of the tenants' work, and its end. -/
theorem periodCloseMakesAveragesAndReport : Obligations.PeriodCloseMakesAveragesAndReport := by
  refine ⟨fun s hdue => ?_, fun s hdue => ?_, fun s hdue hhand => ?_⟩
  · simp [exec, execPeriodClose, execCheckCountdownExpiry, hdue]
  · constructor
    · simp [exec, execPeriodClose, hdue]
    · simp only [exec, execCheckCountdownExpiry, execPeriodClose, hdue, true_and, if_true, countdownEnds,
        decide_eq_true_eq]
      split_ifs <;> rfl
  · obtain ⟨u, hmoves, hmonitor, heq⟩ := closePeriod_moves hhand
    have hlink : u.link = s.link := hmoves.link.trans (beginClose_link s)
    obtain ⟨hmask, hgap, hlatch⟩ := hmoves.alert
    obtain ⟨hmaskEnd, hgapEnd, hlatchEnd⟩ := endClose_alert u
    have hbegun : (beginClose s).alert = s.alert := beginClose_alert s
    have hmonitorEq := hmonitor.trans (closeMonitor_monitor s)
    refine ⟨closePeriod s, by simp [exec, execPeriodClose, hdue], fun n hn => meterOutlet_closePeriod s hn, ?_, ?_, ?_,
      ?_, ?_, ?_, ?_, by simp, by simp, by simp, by simp, by simp, by simp, ?_, ?_, fun n => ?_⟩
    · rw [(closePeriod_meter s).1, closeMeter]
      rfl
    · rw [(closePeriod_meter s).1, closeMeter]
      rfl
    · rw [(closePeriod_meter s).2, closeMeter]
      rfl
    · have hreport := endClose_report u
      rw [← heq, hlink] at hreport
      rw [hreport, ← closePeriod_loader s]
      rfl
    · have hbefore : latched (beginClose s) .reportSuperseded = latched s .reportSuperseded := by
        rw [latched, hbegun, latched]
      rw [heq, hlatchEnd, hlatch, hbefore, hlink, hmonitorEq]
    · rw [heq, endClose_monitor, hmonitorEq]
    · rw [heq, endClose_tenants]
      exact hmoves.tenantIds.trans (by simp [tenantIds])
    · rw [heq, hmaskEnd, hmask, hbegun]
    · rw [heq, hgapEnd, hgap, hbegun]
    · have hfixed := hmoves.relayOutlet n
      simp only [relayOutlet, RelayOutlet.fixed, Prod.mk.injEq, beginClose_relay] at hfixed
      rw [heq, relayOutlet, endClose_relay, hfixed.2.2]
      rfl

end Sys2Proof.Machine
end

section
/-! PROOF. O59: the restart reset keeps the switching records and discards the queued jobs. -/

namespace Sys2Proof.Machine

/-! ## Discarding the queued jobs -/

/-- The outlet of a job returns to the relay state it had before the job was queued (R144). -/
def undoJob (s : State) (j : Job) : State := setRelayOutlet j.outlet (fun r => { r with relay := stateBeforeJob j }) s

/-- Discarding jobs leaves all of a switching record but its relay state (R144). -/
theorem foldl_undoJob_kept {γ : Type} {g : RelayOutlet → γ} (hg : ∀ r x, g { r with relay := x } = g r) (q : List Job)
    (s : State) (n : Nat) : g (relayOutlet (q.foldl undoJob s) n) = g (relayOutlet s n) :=
  relayOutlet_of_map (foldl_keeps (fun s : State => s.relay.outlets.map g) undoJob
    (fun s _ => setRelayOutlet_map _ s fun r => hg r _) q s) n

/-- An outlet without a job among those discarded keeps its relay state (R144). -/
theorem foldl_undoJob_other {q : List Job} (hq : ∀ j ∈ q, 1 ≤ j.outlet) {n : Nat} (hn : 1 ≤ n)
    (hother : ∀ j ∈ q, j.outlet ≠ n) (s : State) :
    (relayOutlet (q.foldl undoJob s) n).relay = (relayOutlet s n).relay := by
  induction q generalizing s with
  | nil => rfl
  | cons i q ih =>
    rw [List.forall_mem_cons] at hq hother
    rw [List.foldl_cons, ih hq.2 hother.2, undoJob, relayOutlet_setRelayOutlet _ _ _ _ hq.1 hn, if_neg]
    rintro ⟨rfl, -⟩
    exact hother.1 rfl

/-- An outlet with one job among those discarded returns to the state before it (R144). -/
theorem foldl_undoJob_own {q : List Job} {s : State} (hq : ∀ j ∈ q, 1 ≤ j.outlet ∧ j.outlet ≤ s.relay.outlets.length)
    (hone : (q.map Job.outlet).Nodup) {j : Job} (hj : j ∈ q) :
    (relayOutlet (q.foldl undoJob s) j.outlet).relay = stateBeforeJob j := by
  induction q generalizing s with
  | nil => simp at hj
  | cons i q ih =>
    rw [List.forall_mem_cons] at hq
    rw [List.map_cons, List.nodup_cons] at hone
    rcases List.mem_cons.mp hj with rfl | hlater
    · have hothers : ∀ k ∈ q, k.outlet ≠ j.outlet := fun k hk heq => hone.1 (heq ▸ List.mem_map_of_mem hk)
      rw [List.foldl_cons, foldl_undoJob_other (fun k hk => (hq.2 k hk).1) hq.1.1 hothers, undoJob,
        relayOutlet_setRelayOutlet _ _ _ _ hq.1.1 hq.1.1, if_pos ⟨rfl, hq.1.2⟩]
    · exact ih (by simpa [undoJob, setRelayOutlet] using hq.2) hone.2 hlater

/-! ## The reset -/

theorem restartDue_iff (s : State) :
    restartDue s = true ↔ s.restartPending = true ∧ s.link.slot = none ∧ s.relay.coil = none := by
  simp [restartDue, and_assoc]

/-- A close in hand, which takes no job while the restart is pending and leaves the slot, does not change whether the
reset is due (R144, R168). -/
theorem restartDue_finishClose {s : State} (h : restartDue s = true) : restartDue (finishClose s) = true := by
  obtain ⟨hpending, hslot, hcoil⟩ := (restartDue_iff s).mp h
  have hlink : (finishClose s).link.slot = s.link.slot := by
    by_cases hhand : s.closeInHand = none
    · rw [finishClose_none s hhand]
    · obtain ⟨u, hu, heq⟩ := finishClose_moves hhand
      rw [heq, endClose_link, hu.link]
  exact (restartDue_iff _).mpr ⟨by simpa using hpending, hlink.trans hslot, (finishClose_coil hpending).trans hcoil⟩

/-- Settles O59: every block but the Relay Driver is that of the reset state, and the Relay Driver's is that of `s` with
its queued jobs discarded, at most one for an outlet. -/
theorem restartResetKeepsTheRelays : Obligations.RestartResetKeepsTheRelays := by
  intro straps s hrule
  refine ⟨fun hpending hslot hcoil => ?_, fun hpending hslot hcoil hhand => ?_, fun hnot => ?_⟩
  · have hdue : restartDue s = true := (restartDue_iff s).mpr ⟨hpending, hslot, hcoil⟩
    simp [exec, execRestartReset, hdue, restartDue_finishClose hdue]
  · have hdue : restartDue s = true := (restartDue_iff s).mpr ⟨hpending, hslot, hcoil⟩
    have houtlet (n : Nat) : relayOutlet (restartStation straps s) n = relayOutlet (s.relay.queue.foldl undoJob s) n :=
      rfl
    have hqueued : ∀ j ∈ s.relay.queue, 1 ≤ j.outlet ∧ j.outlet ≤ s.relay.outlets.length := fun j hj => by
      obtain ⟨hlow, hhigh, -⟩ := hrule.queued j hj
      exact ⟨hlow, by rwa [hrule.outlets]⟩
    have hone : (s.relay.queue.map Job.outlet).Nodup := by simpa [hcoil] using hrule.oneJob
    refine ⟨restartStation straps s, by simp [exec, execRestartReset, hdue, hhand], rfl, rfl, rfl, rfl, rfl, rfl, rfl,
      rfl, rfl, rfl, rfl, rfl, rfl, rfl, rfl, (discardJobs_coil s).trans hcoil, rfl, fun n hn => ?_, fun j hj => ?_,
      fun n hn hother => ?_⟩
    · simpa [houtlet] using foldl_undoJob_kept (g := fun r => (r.tenant, r.cls, r.lock, r.shed)) (fun _ _ => rfl)
        s.relay.queue s n
    · rw [houtlet, foldl_undoJob_own hqueued hone hj]
      unfold stateBeforeJob
      cases j.origin <;> cases j.dir <;> rfl
    · rw [houtlet, foldl_undoJob_other (fun j hj => (hqueued j hj).1) hn hother]
  · have hdue : restartDue s = false := by
      rw [Bool.eq_false_iff, Ne, restartDue_iff]
      rintro ⟨hpending, hslot, hcoil⟩
      rcases hnot with h | h | h
      · simp [hpending] at h
      · exact h hslot
      · exact h hcoil
    simp [exec, execRestartReset, hdue]

end Sys2Proof.Machine
end

section
/-! SUPPORT. The image as it is read: an image is judged and installed by the bytes that the memory port clocks in, and
two images that agree in those are one image (R171, R172). -/

namespace Sys2Proof.Machine

/-- Two serial memories hold the same bytes below `m`. -/
def SameBytes (m : Nat) (a b : List Byte) : Prop := ∀ i, i < m → serialByte a i = serialByte b i

namespace SameBytes

variable {m : Nat} {a b : List Byte}

theorem byte (h : SameBytes m a b) {i : Nat} (hi : i < m) : imageByte a i = imageByte b i := by
  rw [imageByte, h i hi, imageByte]

theorem bytes (h : SameBytes m a b) {i n : Nat} (hn : i + n ≤ m) : serialBytes a i n = serialBytes b i n := by
  simp only [serialBytes, List.map_inj_left, List.mem_range]
  intro j hj
  exact h (i + j) (by omega)

theorem word (h : SameBytes m a b) {i : Nat} (hi : i + 2 ≤ m) : imageWord a i = imageWord b i := by
  rw [imageWord, h.bytes hi, imageWord]

theorem tenants (h : SameBytes m a b) (hm : 20 ≤ m) : imageTenants a = imageTenants b := h.byte (by omega)

theorem params (h : SameBytes m a b) (hm : 20 ≤ m) : imageParams a = imageParams b := by
  have hbyte {i : Nat} (hi : i < 20) : imageByte a i = imageByte b i := h.byte (by omega)
  have hword {i : Nat} (hi : i < 19) : imageWord a i = imageWord b i := h.word (by omega)
  simp [imageParams, hbyte, hword]

/-! ## The outlet entries -/

theorem outletTenant (h : SameBytes m a b) (hm : 92 ≤ m) {n : Nat} (hn : n ≤ 24) :
    imageOutletTenant a n = imageOutletTenant b n := by rw [imageOutletTenant, h.word (by omega), imageOutletTenant]

theorem outletClass (h : SameBytes m a b) (hm : 92 ≤ m) {n : Nat} (hn : n ≤ 24) :
    imageOutletClass a n = imageOutletClass b n := by
  rw [imageOutletClass, h.byte (by omega), imageOutletClass]

theorem outletOff (h : SameBytes m a b) (hm : 92 ≤ m) {n : Nat} (hn : n ≤ 24) :
    imageOutletOff a n = imageOutletOff b n := by
  rw [imageOutletOff, h _ (by omega), imageOutletOff]

/-! ## The tenant records -/

theorem tenantRecord (h : SameBytes m a b) {i : Nat} (hi : imageRecord (i + 1) ≤ m) :
    imageTenantRecord a i = imageTenantRecord b i := by
  have hend : imageRecord (i + 1) = imageRecord i + 11 := by
    simp only [imageRecord, Config.imageTenant]
    omega
  have hbyte {j : Nat} (hj : j < 11) : imageByte a (imageRecord i + j) = imageByte b (imageRecord i + j) :=
    h.byte (by omega)
  have hword {j : Nat} (hj : j < 10) : imageWord a (imageRecord i + j) = imageWord b (imageRecord i + j) :=
    h.word (by omega)
  have hid : imageTenantId a i = imageTenantId b i := congrArg (· % 4096) (hword (j := 0) (by omega))
  have henforce : serialByte a (imageRecord i + 8) = serialByte b (imageRecord i + 8) := h _ (by omega)
  simp [imageTenantRecord, hbyte, hword, hid, henforce]

theorem tenantRecords (h : SameBytes m a b) (hm : 20 ≤ m) (hall : imageRecord (imageTenants b) ≤ m) :
    imageTenantRecords a = imageTenantRecords b := by
  simp only [imageTenantRecords, h.tenants hm, List.map_inj_left, List.mem_range]
  intro i hi
  refine h.tenantRecord (le_trans ?_ hall)
  simp only [imageRecord, Config.imageTenant]
  omega

theorem tenantIds (h : SameBytes m a b) (hm : 20 ≤ m) (hall : imageRecord (imageTenants b) ≤ m) :
    imageTenantIds a = imageTenantIds b := by
  have hids (im : List Byte) : imageTenantIds im = (imageTenantRecords im).map Tenant.id := by
    simp [imageTenantIds, imageTenantRecords, Function.comp_def, imageTenantRecord]
  rw [hids, hids, h.tenantRecords hm hall]

end SameBytes

/-! ## The judgement -/

/-- The mark and the tenant count that let the memory port read the whole image (R171). -/
theorem imageReadLength_whole {im : List Byte} (hmark : imageByte im 0 = 0x7E ∧ imageByte im 1 = 0x18)
    (htenants : imageTenants im ≤ 24) : imageReadLength im = imageRecord (imageTenants im) + 2 :=
  if_pos ⟨hmark.1, hmark.2, htenants⟩

/-- The judgement of an image rests on the bytes that the memory port reads (R171, R172). -/
theorem imageAccepted_congr {a b : List Byte} (h : SameBytes (imageReadLength b) a b) :
    imageAccepted a = imageAccepted b := by
  have hm := imageReadLength_ge b
  have hmark : (imageByte a 0 = 0x7E ∧ imageByte a 1 = 0x18) = (imageByte b 0 = 0x7E ∧ imageByte b 1 = 0x18) := by
    rw [h.byte (show 0 < _ by omega), h.byte (show 1 < _ by omega)]
  have htenants := h.tenants hm
  have hlength : imageWord a 4 = imageWord b 4 := h.word (by omega)
  by_cases hwhole : (imageByte b 0 = 0x7E ∧ imageByte b 1 = 0x18) ∧ imageTenants b ≤ 24 ∧
      imageWord b 4 = imageRecord (imageTenants b)
  · obtain ⟨hok, hcount, hword⟩ := hwhole
    have hread := imageReadLength_whole hok hcount
    have hhead : 92 ≤ imageRecord (imageTenants b) := Nat.le_add_right ..
    have hids := h.tenantIds hm (by omega)
    have hentries : ∀ n ∈ outletNumbers, imageOutletTenant a n = imageOutletTenant b n := fun n hn => by
      simp only [outletNumbers, List.mem_map, List.mem_range] at hn
      exact h.outletTenant (by omega) (by omega)
    have hall {p q : Nat → Bool} (hpq : ∀ n ∈ outletNumbers, p n = q n) : outletNumbers.all p = outletNumbers.all q := by
      rw [Bool.eq_iff_iff, List.all_eq_true, List.all_eq_true]
      exact forall₂_congr fun n hn => by rw [hpq n hn]
    simp only [imageAccepted, hmark, htenants, hlength, hids]
    rw [h.bytes (show 0 + imageWord b 4 ≤ _ by omega), h (imageWord b 4) (by omega), h (imageWord b 4 + 1) (by omega),
      h.byte (show 6 < _ by omega), hall fun n hn => by rw [hentries n hn]]
  · have hfail {im : List Byte} (him : ¬ ((imageByte im 0 = 0x7E ∧ imageByte im 1 = 0x18) ∧ imageTenants im ≤ 24 ∧
        imageWord im 4 = imageRecord (imageTenants im))) : imageAccepted im = false := by
      rw [Bool.eq_false_iff]
      intro haccepted
      simp only [imageAccepted, Bool.and_eq_true, decide_eq_true_eq] at haccepted
      obtain ⟨⟨⟨⟨⟨⟨⟨hok, hcount⟩, hword⟩, -⟩, -⟩, -⟩, -⟩, -⟩ := haccepted
      exact him ⟨hok, hcount, hword⟩
    rw [hfail hwhole, hfail (by rwa [hmark, htenants, hlength])]

/-- What is read is what the memory holds (R171). -/
theorem sameBytes_imageRead (im : List Byte) : SameBytes (imageReadLength im) (imageRead im) im :=
  serialByte_imageRead im

@[simp] theorem imageAccepted_imageRead (im : List Byte) : imageAccepted (imageRead im) = imageAccepted im :=
  imageAccepted_congr (sameBytes_imageRead im)

/-- An accepted image is read to its last byte (R171). -/
theorem imageReadLength_accepted {im : List Byte} (h : imageAccepted im = true) :
    imageReadLength im = imageRecord (imageTenants im) + 2 := by
  simp only [imageAccepted, Bool.and_eq_true, decide_eq_true_eq] at h
  obtain ⟨⟨⟨⟨⟨⟨⟨hmark, htenants⟩, -⟩, -⟩, -⟩, -⟩, -⟩, -⟩ := h
  exact imageReadLength_whole hmark htenants

/-- An accepted image is installed as the memory holds it (R171, R174). -/
theorem install_imageRead {im : List Byte} (h : imageAccepted im = true) (s : State) :
    install (imageRead im) s = install im s := by
  have hsame := sameBytes_imageRead im
  have hm := imageReadLength_ge im
  have hlength := imageReadLength_accepted h
  have hhead : 92 ≤ imageReadLength im := by
    rw [hlength, imageRecord, Config.imageHead]
    omega
  have hparams := hsame.params hm
  have hrecords := hsame.tenantRecords hm (by omega)
  have hstart {n : Nat} (hn : n ≤ 24) : startOutlet (imageRead im) n = startOutlet im n := by
    simp [startOutlet, hsame.outletTenant hhead hn, hsame.outletClass hhead hn, hsame.outletOff hhead hn]
  have hjob {n : Nat} (hn : n ≤ 24) : startJob (imageRead im) n = startJob im n := by
    simp [startJob, hsame.outletOff hhead hn]
  have hkept {n : Nat} (hn : n ≤ 24) (r : RelayOutlet) : keptOutlet (imageRead im) n r = keptOutlet im n r := by
    simp [keptOutlet, hsame.outletTenant hhead hn, hsame.outletClass hhead hn]
  have houtlets {g g' : Nat → RelayOutlet} (hg : ∀ n, n ≤ 24 → g n = g' n) :
      outletNumbers.map g = outletNumbers.map g' := by
    simp only [outletNumbers, List.map_map, List.map_inj_left, List.mem_range, Function.comp]
    exact fun n hn => hg _ (by omega)
  have hcount : (imageParams im).converterCount ≤ 3 := (imageAccepted_ranges h).2.2
  have hpowerOn (u : State) (hu : u.loader.params = imageParams im) :
      installPowerOn (imageRead im) u = installPowerOn im u := by
    have hqueue : (presentOutlets u).map (startJob (imageRead im)) = (presentOutlets u).map (startJob im) := by
      simp only [presentOutlets, hu, List.map_map, List.map_inj_left, List.mem_range, Function.comp]
      exact fun n hn => hjob (by omega)
    rw [installPowerOn, hqueue, houtlets fun n hn => by rw [hstart hn], installPowerOn]
  have hrestart (u : State) : installRestart (imageRead im) u = installRestart im u := by
    simp only [installRestart]
    rw [houtlets fun n hn => by rw [hkept hn]]
  simp only [install, hparams, hrecords, hrestart]
  rw [hpowerOn _ rfl]

/-- An accepted image whose read ends is installed (R171, R172, R174). -/
theorem exec_imageReadComplete_accepted {im : List Byte} {s : State} (hload : s.loader.load = .reading)
    (h : imageAccepted im = true) : exec (.imageReadComplete im) s = .next (install im s) := by
  simp [exec, execImageReadComplete, hload, h, install_imageRead h]

end Sys2Proof.Machine
end

section
/-! SUPPORT. The drive of ALERT_N (R150), and what the start of the rate search leaves in the link (R39). -/

namespace Sys2Proof.Machine

/-! ## The drive of ALERT_N -/

/-- The sixteen event kinds in the order of their numbers (spec/09, "The sixteen event kinds"). -/
def eventKinds : List EventKind :=
  [.excess, .curtail, .restored, .unresolved, .viewDegraded, .unexpectedHost, .tableFull, .duplicate, .txFault,
    .linkAlone, .relayFault, .sampleFault, .recordLost, .commandOverrun, .reportSuperseded, .imageFault]

/-- Every place of a set of event kinds is some kind's. -/
theorem exists_number_eq {i : Nat} (h : i < 16) : ∃ k : EventKind, k.number = i := by
  have hall : ∀ i < 16, ∃ k ∈ eventKinds, k.number = i := by decide
  obtain ⟨k, -, hk⟩ := hall i h
  exact ⟨k, hk⟩

/-- Some kind is latched and unmasked exactly where a latch stands outside the mask (R149). -/
theorem unmasked_iff (latches mask : EventSet) :
    latches &&& ~~~mask ≠ 0 ↔ ∃ k : EventKind, latches.getLsbD k.number = true ∧ mask.getLsbD k.number = false := by
  constructor
  · intro hne
    by_contra hnone
    push Not at hnone
    refine hne (BitVec.eq_of_getLsbD_eq fun i hi => ?_)
    obtain ⟨k, rfl⟩ := exists_number_eq hi
    have hk := hnone k
    cases hlatch : latches.getLsbD k.number <;> simp_all
  · rintro ⟨k, hlatch, hmask⟩ hzero
    have hbit := congrArg (BitVec.getLsbD · k.number) hzero
    rw [BitVec.getLsbD_and, BitVec.getLsbD_not, hlatch, hmask, decide_eq_true k.number_lt] at hbit
    simp at hbit

/-- The condition of R150, kind by kind. -/
theorem drives_iff (a : AlertUnit) : a.drives = true ↔ a.gap = none ∧
    ∃ k : EventKind, a.latches.getLsbD k.number = true ∧ (k = .imageFault ∨ a.mask.getLsbD k.number = false) := by
  simp only [AlertUnit.drives, Bool.and_eq_true, Bool.or_eq_true, decide_eq_true_eq, Option.isNone_iff_eq_none,
    unmasked_iff]
  refine and_congr_right fun _ => ⟨?_, ?_⟩
  · rintro (⟨k, hlatch, hmask⟩ | hfault)
    · exact ⟨k, hlatch, .inr hmask⟩
    · exact ⟨.imageFault, hfault, .inl rfl⟩
  · rintro ⟨k, hlatch, rfl | hmask⟩
    · exact .inr hlatch
    · exact .inl ⟨k, hlatch, hmask⟩

/-- The level of ALERT_N is the one its condition gives (R150). -/
theorem alertRule_iff (s : State) : AlertRule s ↔ s.alert.low = s.alert.drives := by
  rw [Bool.eq_iff_iff, drives_iff]
  rfl

/-- A drive that has been taken afresh meets the rule (R150). -/
theorem alertRule_of_refresh {s : State} {a : AlertUnit} (h : s.alert = a.refresh) : AlertRule s := by
  rw [alertRule_iff, h]
  rfl

/-! ## The rate search -/

/-- The Link Monitor at the start of the rate search (R39). -/
theorem enterSearch_monitor (s : State) : (enterSearch s).monitor = { s.monitor with
    link := .search, rate := some (defaultRate s), searchPosition := 1, dwell := some 6000, charErrors := 0
    heard := false, faults := 0, check := none } := by
  simp only [enterSearch, setRate, withMonitor_monitor, withLink_monitor, setLinkState_monitor]
  rfl

/-- The Link Transceiver at the start of the rate search: nothing is sent or waits, and the receiver starts afresh
(R16, R27, R36). -/
theorem enterSearch_link (s : State) : (enterSearch s).link = { s.link with
    assembler := .waitQuiet, inCharacter := [], quiet := 0, gap := 0, sending := none, slot := none, send := none } := by
  have hnothing : permits .search = fun _ => false := by
    funext k
    cases k <;> rfl
  simp only [enterSearch, setRate, withMonitor_link, withLink_link, setLinkState_link, hnothing]
  cases hsending : s.link.sending <;> simp [abandonFrame, hsending]

end Sys2Proof.Machine
end

section
/-! PROOF. O18: the installation of an accepted image after a power-on reset. -/

namespace Sys2Proof.Machine

/-- The switching record that a list of one for each outlet number gives outlet `n`. -/
theorem getD_outletNumbers (g : Nat → RelayOutlet) {n : Nat} (hn : 1 ≤ n) :
    (outletNumbers.map g).getD (n - 1) RelayOutlet.blank = if n ≤ 24 then g n else RelayOutlet.blank := by
  by_cases h : n ≤ 24
  · simp [outletNumbers, List.getD_eq_getElem?_getD, show n - 1 < 24 by omega, Nat.sub_add_cancel hn, h]
  · rw [List.getD_eq_default _ _ (by simp [outletNumbers]; omega), if_neg h]

/-- The present outlets begin with outlet 1 (R11). -/
theorem presentOutlets_cons {s : State} (h : 1 ≤ s.loader.params.converterCount) :
    presentOutlets s = 1 :: (presentOutlets s).tail := by
  obtain ⟨n, hn⟩ : ∃ n, 8 * s.loader.params.converterCount = n + 1 :=
    ⟨8 * s.loader.params.converterCount - 1, by omega⟩
  simp [presentOutlets, hn, List.range_succ_eq_map]

section

variable {im : List Byte} {s : State}

/-- After a power-on reset every present outlet has its START job, of which the coil takes the first at once (R143). -/
theorem installPowerOn_eq (hpending : s.restartPending = false) (hcount : 1 ≤ s.loader.params.converterCount) :
    installPowerOn im s = setRelayOutlet 1 (fun r => { r with relay := (startJob im 1).dir.working })
      (s.withRelay
        { outlets := outletNumbers.map fun n => if present s n then startOutlet im n else RelayOutlet.blank
          queue := (presentOutlets s).tail.map (startJob im)
          coil := some ⟨startJob im 1, .pulse⟩ }) := by
  have hqueue : (presentOutlets s).map (startJob im) = startJob im 1 :: (presentOutlets s).tail.map (startJob im) := by
    conv_lhs => rw [presentOutlets_cons hcount]
    rfl
  exact coilTake_head _ _ _ hpending rfl hqueue

/-- The switching records of the installation, outlet by outlet (R143). -/
theorem relayOutlet_installPowerOn (hpending : s.restartPending = false)
    (hcount : 1 ≤ s.loader.params.converterCount) (hcount3 : s.loader.params.converterCount ≤ 3) {n : Nat}
    (hn : 1 ≤ n) : relayOutlet (installPowerOn im s) n =
      if n = 1 then { startOutlet im 1 with relay := (startJob im 1).dir.working }
      else if n ≤ 8 * s.loader.params.converterCount then startOutlet im n else RelayOutlet.blank := by
  have hplace {k : Nat} (hk : 1 ≤ k) : (outletNumbers.map fun n =>
      if present s n then startOutlet im n else RelayOutlet.blank).getD (k - 1) RelayOutlet.blank =
      if k ≤ 8 * s.loader.params.converterCount then startOutlet im k else RelayOutlet.blank := by
    rw [getD_outletNumbers _ hk]
    by_cases hin : k ≤ 8 * s.loader.params.converterCount
    · simp [present, hk, hin, show k ≤ 24 by omega]
    · simp [present, hin]
  rw [installPowerOn_eq hpending hcount, relayOutlet_setRelayOutlet _ _ _ _ le_rfl hn]
  simp only [relayOutlet, withRelay_relay, hplace hn, hplace le_rfl]
  by_cases h1 : n = 1
  · simp [h1, outletNumbers, show 1 ≤ 8 * s.loader.params.converterCount by omega]
  · simp [h1]

/-- No outlet is shed after a power-on reset (R143). -/
theorem shedOutlets_installPowerOn (hpending : s.restartPending = false)
    (hcount : 1 ≤ s.loader.params.converterCount) (hcount3 : s.loader.params.converterCount ≤ 3) (id : Nat) :
    shedOutlets (installPowerOn im s) id = [] := by
  simp only [shedOutlets, tenantOutlets, List.filter_eq_nil_iff, List.mem_filter, presentOutlets, List.mem_map]
  rintro n ⟨⟨i, -, rfl⟩, -⟩
  rw [relayOutlet_installPowerOn hpending hcount hcount3 (by omega)]
  split_ifs <;> simp [startOutlet, RelayOutlet.blank]

end

/-- The state in which an installation finds the Relay Driver: the parameters, the tick timer and the mask are installed
(R74, R149, R174). -/
def installing (im : List Byte) (s : State) : State :=
  ((s.withLoader { s.loader with load := .installed, params := imageParams im }).withTime
    { s.time with running := true }).withAlert { s.alert with mask := (imageParams im).alertMask }.refresh

@[simp] theorem installing_loader (im : List Byte) (s : State) :
    (installing im s).loader = { s.loader with load := .installed, params := imageParams im } := rfl

@[simp] theorem installing_restartPending (im : List Byte) (s : State) :
    (installing im s).restartPending = s.restartPending := rfl

/-- The installation after a power-on reset: the switching records, then the tenants as the image gives them, then the
rate search (R74, R82, R143, R174). -/
theorem install_powerOn {im : List Byte} {s : State} (h : s.loader.afterRestart = false)
    (hpending : s.restartPending = false) (haccepted : imageAccepted im = true) :
    install im s = enterSearch ((installPowerOn im (installing im s)).withRecon
      ⟨imageTenantRecords im, (imageParams im).expire, true⟩) := by
  obtain ⟨-, hcount, hcount3⟩ := imageAccepted_ranges haccepted
  have hnone (id : Nat) : shedOutlets (installPowerOn im (installing im s)) id = [] :=
    shedOutlets_installPowerOn (by simpa using hpending) (by simpa using hcount) (by simpa using hcount3) id
  have htenants : (imageTenantRecords im).map (startStanding (installPowerOn im (installing im s))) =
      imageTenantRecords im := List.map_id'' (fun t => by simp [startStanding, hnone]) _
  rw [← htenants, installing]
  simp [install, h]

/-- The Relay Driver after the installation: the START jobs of the present outlets, of which the coil has the first
(R143). -/
theorem install_powerOn_relay {im : List Byte} {s : State} (h : s.loader.afterRestart = false)
    (hpending : s.restartPending = false) (haccepted : imageAccepted im = true) :
    (install im s).relay = (installPowerOn im (installing im s)).relay := by
  rw [install_powerOn h hpending haccepted]
  simp

/-- Settles O18: the image is installed as the memory holds it, every present outlet gets its START job, and the rate
search starts. -/
theorem acceptedImageIsInstalledAfterPowerOn : Obligations.AcceptedImageIsInstalledAfterPowerOn := by
  intro im s hload hrestart hpending haccepted
  obtain ⟨-, hcount, hcount3⟩ := imageAccepted_ranges haccepted
  have hinstall := install_powerOn hrestart hpending haccepted
  have hrelay := install_powerOn_relay hrestart hpending haccepted
  have hjobs := installPowerOn_eq (im := im) (s := installing im s) (by simpa using hpending) (by simpa using hcount)
  have hframe := installPowerOn_onlyRelay im (installing im s)
  have halert : (install im s).alert = { s.alert with mask := (imageParams im).alertMask }.refresh := by
    rw [hinstall, hframe]
    simp [installing]
  have houtlet {n : Nat} (hn : 1 ≤ n) : relayOutlet (install im s) n =
      if n = 1 then { startOutlet im 1 with relay := (startJob im 1).dir.working }
      else if n ≤ 8 * imageByte im 6 then startOutlet im n else RelayOutlet.blank := by
    rw [relayOutlet, hrelay]
    exact relayOutlet_installPowerOn (by simpa using hpending) (by simpa using hcount) (by simpa using hcount3) hn
  refine ⟨install im s, exec_imageReadComplete_accepted hload haccepted, by simp, by simp, ?_, ?_, ?_, ?_, ?_,
    alertRule_of_refresh halert, ?_, ?_, ?_, ?_, fun n hn hpresent => ?_, fun n habsent => ?_, by simp, ?_, ?_, ?_, ?_,
    ?_, ?_⟩
  · rw [hinstall, enterSearch_monitor, hframe]
    simp [installing, defaultRate]
  · rw [hinstall, enterSearch_link, hframe]
    simp [installing]
  · rw [halert]
    rfl
  · rw [halert]
    rfl
  · rw [halert]
    rfl
  · rw [hinstall]
    simp
  · rw [hrelay, hjobs]
    rfl
  · rw [hrelay, hjobs]
    simp [presentOutlets, setRelayOutlet, startJob, Function.comp_def]
  · rw [houtlet le_rfl, if_pos rfl]
    cases hoff : imageOutletOff im 1 <;> simp [startOutlet, startJob, hoff, JobDir.working]
  · rw [houtlet (by omega), if_neg (by omega), if_pos hpresent]
    rfl
  · have hbyte : 1 ≤ imageByte im 6 := hcount
    rw [houtlet (by omega), if_neg (by omega), if_neg (by omega)]
    rfl
  all_goals
    rw [hinstall, hframe]
    simp [installing]

end Sys2Proof.Machine
end

section
/-! SUPPORT. What holds of the link through whatever a completed frame, a period close and a command of the gateway do
to it: each of them reaches the Link Transceiver and the Link Monitor by a few operations alone. -/

namespace Sys2Proof.Machine

/-- A predicate that each of the operations keeps by which closes, commands and completed frames reach the Link
Transceiver and the Link Monitor. -/
structure LinkInvariant (P : State → Prop) : Prop where
  /-- It speaks of these two blocks alone. -/
  frame : ∀ {s t : State}, P s → t.link = s.link → t.monitor = s.monitor → P t
  /-- The Link Monitor's counts, rate and timer change freely (R40, R48). -/
  counts : ∀ {s : State} {m : Monitor}, P s → m.link = s.monitor.link → m.check = s.monitor.check → P (s.withMonitor m)
  /-- The link state changes (R36). -/
  linkState : ∀ {s : State} (l : LinkState), P s → P (setLinkState l s)
  /-- A line check is placed where it is permitted (R42, R43). -/
  check : ∀ {s : State} {k : CheckKind}, P s → permits s.monitor.link .lineCheck = true → P (placeCheck k s)
  /-- The report of a close fills READY (R34). -/
  report : ∀ {s : State}, P s → P (endClose s)
  /-- A command is answered (R33). -/
  answer : ∀ {s : State} {c : Byte} {r : Result} {d : List Byte}, P s → P (respond c r d s)
  /-- A frame that has been judged leaves the frame assembler (R24). -/
  judged : ∀ {s : State}, P s → P (s.withLink { s.link with assembler := .waitQuiet })

namespace LinkInvariant

variable {P : State → Prop} (hP : LinkInvariant P) {s t : State}
include hP

theorem congr (h : P s) (hlink : t.link = s.link := by simp) (hmonitor : t.monitor = s.monitor := by simp) : P t :=
  hP.frame h hlink hmonitor

theorem raise (h : P s) {k : EventKind} : P (raise k s) := hP.congr h

/-! ## The link state -/

theorem enterAlone (h : P s) : P (enterAlone s) := hP.counts (hP.linkState .alone h) rfl rfl

theorem testAlone (h : P s) : P (testAlone s) := by
  unfold Machine.testAlone
  split
  · exact hP.raise (hP.enterAlone h)
  · exact h

theorem adoptRate (h : P s) : P (adoptRate s) :=
  hP.check (hP.counts (hP.linkState .joined h) rfl rfl) rfl

/-! ## The period close -/

theorem finishClose (h : P s) : P (finishClose s) := by
  by_cases hhand : s.closeInHand = none
  · rwa [finishClose_none s hhand]
  · obtain ⟨u, hu, heq⟩ := finishClose_moves hhand
    rw [heq]
    exact hP.report (hP.congr h hu.link (hu.keeps (π := State.monitor) fun hm => by cases hm <;> rfl))

/-- The Link Monitor's counts at a close; in MUTED a periodic line check is placed where none is outstanding (R43). -/
theorem beginClose (h : P s) : P (beginClose s) := by
  have hmeter : P (closeMeter s) := hP.congr h
  have hmonitor : P (closeMonitor (closeMeter s)) := by
    simp only [closeMonitor]
    split
    · next hends =>
      simp only [countdownEnds, closeMeter_monitor, decide_eq_true_eq] at hends
      exact hP.check (hP.counts (hP.counts hmeter rfl rfl) rfl rfl) (by simp [hends.1, permits])
    · split
      · exact hP.counts (hP.counts hmeter rfl rfl) rfl rfl
      · exact hP.counts hmeter rfl rfl
  exact hP.congr hmonitor rfl rfl

theorem closePeriod (h : P s) : P (closePeriod s) := hP.finishClose (hP.beginClose (hP.finishClose h))

theorem workOn (h : P s) : P (workOn s) := by
  unfold Machine.workOn
  split
  · exact h
  · exact hP.report h
  all_goals exact hP.congr h

/-! ## The commands of the gateway -/

theorem queryStatusEffect (h : P s) {arg : List Byte} : P (queryStatusEffect arg s) := by
  unfold Machine.queryStatusEffect
  split
  · exact hP.answer (hP.finishClose h)
  · exact hP.answer h

theorem queryOutletEffect (h : P s) {arg : List Byte} : P (queryOutletEffect arg s) := by
  unfold Machine.queryOutletEffect
  split
  · exact hP.answer (hP.finishClose h)
  · exact hP.answer h

theorem lockOffEffect (h : P s) {arg : List Byte} : P (lockOffEffect arg s) := by
  unfold Machine.lockOffEffect
  split
  · exact hP.answer h
  · next n _ =>
    split
    · exact hP.answer h
    · exact hP.answer (hP.congr (hP.finishClose h) (t := lockOutlet n (Machine.finishClose s)))

theorem unlockEffect (h : P s) {arg : List Byte} : P (unlockEffect arg s) := by
  unfold Machine.unlockEffect
  split
  · exact hP.answer h
  · next n _ => exact hP.answer (hP.congr (hP.finishClose h) (t := unlockOutlet n (Machine.finishClose s)))

theorem clearFaultEffect (h : P s) {arg : List Byte} : P (clearFaultEffect arg s) := by
  unfold Machine.clearFaultEffect
  split
  · exact hP.answer h
  · next n _ =>
    split
    · exact hP.answer (hP.congr (hP.finishClose h) (t := clearStuck n (Machine.finishClose s)))
    · exact hP.answer h

theorem ackEventsEffect (h : P s) {arg : List Byte} : P (ackEventsEffect arg s) := by
  unfold Machine.ackEventsEffect
  split
  · exact hP.answer h
  · next set _ => exact hP.answer (hP.congr h (t := s.withAlert (s.alert.acknowledge set)))

theorem endAlertEffect (h : P s) {arg : List Byte} : P (endAlertEffect arg s) := by
  unfold Machine.endAlertEffect
  split
  · exact hP.answer (hP.congr h (t := startGap s))
  · exact hP.answer h

theorem fetchRecordEffect (h : P s) {arg : List Byte} : P (fetchRecordEffect arg s) := by
  unfold Machine.fetchRecordEffect
  split
  · split
    · exact hP.answer h
    · next r rest _ => exact hP.answer (hP.congr h (t := s.withRecords rest))
  · exact hP.answer h

theorem restartEffect (h : P s) {arg : List Byte} : P (restartEffect arg s) := by
  unfold Machine.restartEffect
  split
  · exact hP.congr (hP.answer h (c := 0x09) (r := .done) (d := [])) rfl rfl
  · exact hP.answer h

theorem commandEffect (h : P s) {code : Byte} {arg : List Byte} : P (commandEffect code arg s) := by
  unfold Machine.commandEffect
  split
  · exact hP.queryStatusEffect h
  · exact hP.queryOutletEffect h
  · exact hP.lockOffEffect h
  · exact hP.unlockEffect h
  · exact hP.clearFaultEffect h
  · exact hP.ackEventsEffect h
  · exact hP.endAlertEffect h
  · exact hP.fetchRecordEffect h
  · exact hP.restartEffect h
  · exact hP.answer h

theorem receiveCommand (h : P s) {arg : List Byte} {f : State → State} (hf : P (f s)) : P (receiveCommand arg f s) := by
  unfold Machine.receiveCommand
  split_ifs
  · exact h
  · exact hP.raise h
  · exact hf

/-! ## The roster, and a frame that completes -/

theorem expireStation (h : P s) {n : Nat} : P (expireStation n s) :=
  hP.testAlone (hP.congr h (t := clearOverflow n ((setRosterRecord n RosterRecord.blank s).withTable _)))

theorem settleRoster (h : P s) : P (settleRoster s) := by
  refine List.foldlRecOn _ _ (List.foldlRecOn _ _ h fun t ht n _ => ?_) fun t ht n _ => ?_
  · split
    · exact hP.congr ht
    · exact ht
  · split
    · exact hP.expireStation ht
    · exact ht

theorem takeReport (h : P s) {src ticks : Nat} {es : List ReportEntry} : P (takeReport src ticks es s) := by
  have hrecord : P (setRosterRecord src ⟨.live, 0, clampTo 5 50 ticks⟩ s) := hP.congr h
  have hentries := List.foldlRecOn es (applyEntry src) hrecord fun t ht e _ => hP.congr ht (t := applyEntry src t e)
  simp only [Machine.takeReport]
  have homitted := List.foldlRecOn (omittedTenants (es.foldl (applyEntry src)
    (setRosterRecord src ⟨.live, 0, clampTo 5 50 ticks⟩ s)) es) (omitTenant src) hentries
    fun t ht id _ => hP.congr ht (t := omitTenant src t id)
  split
  · exact hP.linkState .joined homitted
  · exact homitted

theorem deliverByKind (h : P s) {b : List Byte} : P (deliverByKind b s) := by
  unfold Machine.deliverByKind
  split
  · unfold deliverReport
    split_ifs
    · exact hP.raise (hP.linkState .duplicate h)
    · exact h
    · exact h
    · exact hP.takeReport h
  · unfold deliverCommand
    split
    · split
      · exact hP.receiveCommand h (hP.commandEffect h)
      · exact h
    · exact h
  · exact h

theorem hearFrame (h : P s) : P (hearFrame s) := hP.counts h rfl rfl

theorem settleForReport (h : P s) {b : List Byte} : P (settleForReport b s) := by
  unfold Machine.settleForReport
  split
  · exact hP.settleRoster (hP.finishClose h)
  · exact h

theorem deliverFrame (h : P s) {b : List Byte} : P (deliverFrame b s) := by
  have hheard := hP.hearFrame (hP.settleForReport h (b := b))
  simp only [Machine.deliverFrame]
  split
  · exact hP.testAlone (hP.deliverByKind (hP.adoptRate hheard))
  · exact hP.deliverByKind hheard

theorem completeFrame (h : P s) : P (completeFrame s) := by
  unfold Machine.completeFrame
  split
  · exact h
  · simp only
    split
    · exact hP.deliverFrame (hP.judged h)
    · exact hP.judged h

/-! ## What comes before a tick -/

theorem takeDueWork (h : P s) : P (takeDueWork s) := by
  have hsettled := hP.settleRoster (hP.congr (hP.finishClose h) (t := verifyOpen (Machine.finishClose s)))
  simp only [Machine.takeDueWork]
  split
  · exact hP.closePeriod hsettled
  · exact hsettled

theorem beginDueWork (h : P s) : P (beginDueWork s) := by
  have hsettled := hP.settleRoster h
  simp only [Machine.beginDueWork]
  split
  · exact hP.beginClose hsettled
  · exact hsettled

end LinkInvariant

/-! ## A line without a frame of the own and without a character in progress -/

/-- Nothing is being driven, and no character is in progress (R18, R26). -/
def BetweenFrames (s : State) : Prop := s.link.sending = none ∧ s.link.inCharacter = []

/-- While the receiver listens nothing of the own is being driven (R26). -/
theorem sending_of_listening {s : State} (h : listening s = true) : s.link.sending = none := by
  simp only [listening, Bool.and_eq_true, Option.isNone_iff_eq_none] at h
  exact h.2

theorem betweenFrames_of_between {s : State} (h : betweenCharacters s = true) : BetweenFrames s := by
  simp only [betweenCharacters, Bool.and_eq_true, List.isEmpty_iff] at h
  exact ⟨sending_of_listening h.1, h.2⟩

theorem betweenFrames_invariant : LinkInvariant BetweenFrames where
  frame h hlink _ := by rwa [BetweenFrames, hlink]
  counts h _ _ := h
  linkState l h := by
    obtain ⟨hsending, hcharacter⟩ := h
    simp [BetweenFrames, setLinkState_link, hsending, hcharacter]
  check h _ := h
  report h := by rwa [BetweenFrames, endClose_link]
  answer h := by
    unfold respond
    split <;> exact h
  judged h := h

end Sys2Proof.Machine
end

section
/-! SUPPORT. The frames that the station sends: the bits of a frame, what may be sent and when, and the exchange of the
report buffers (R17, R27, R28, R35). -/

namespace Sys2Proof.Machine

/-! ## The bits of a frame (R17) -/

/-- Every character of a frame begins with a dominant bit (R17). -/
theorem frameBit_start (frame : List Byte) (k : Nat) : frameBit frame (k * 11) = false := by
  simp [frameBit, characterBit]

/-- The recessive bits right before a bit of a frame all stand behind the start bit of one character (R17, R19). -/
theorem recessiveRun_le_ten (frame : List Byte) (bit : Nat) : recessiveRun frame bit ≤ 10 := by
  obtain ⟨hle, hrun, -⟩ := recessiveRun_spec frame bit
  by_contra hlong
  have hbit := hrun ((bit - 1) / 11 * 11) (by omega) (by omega)
  simp [frameBit_start] at hbit

/-! ## What may be sent (R27, R28) -/

/-- In ALONE and JOINED everything may be sent, in MUTED a line check, and elsewhere nothing (R27). -/
theorem permits_iff (l : LinkState) (k : SendKind) :
    permits l k = true ↔ (l = .alone ∨ l = .joined) ∨ l = .muted ∧ k = .lineCheck := by
  cases l <;> cases k <;> decide

/-- In ALONE and JOINED everything may be sent (R27). -/
theorem permits_sends {l : LinkState} (h : l = .alone ∨ l = .joined) (k : SendKind) : permits l k = true :=
  (permits_iff l k).mpr (.inl h)

/-- The transmit candidate: the first of the three (R28). -/
theorem candidate_eq (s : State) : candidate s =
    ((if permits s.monitor.link .lineCheck then s.monitor.check.map fun c => (.lineCheck, c.attempt) else none).or
    ((if permits s.monitor.link .response then s.link.slot.map fun r => (.response, r.attempt) else none).or
    (if permits s.monitor.link .report then reportCandidate s.link else none))) := by
  simp only [candidate, Option.orElse_eq_orElse, Option.orElse_eq_or]

/-- The transmit candidate is permitted, and its frame is there (R27, R28). -/
theorem candidate_some {s : State} {k : SendKind} {n : Nat} (h : candidate s = some (k, n)) :
    permits s.monitor.link k = true ∧ (k = .lineCheck → s.monitor.check ≠ none) ∧
      (k = .response → s.link.slot ≠ none) ∧ (k = .report → s.link.readyNew = true ∨ s.link.send ≠ none) := by
  simp only [candidate_eq, Option.or_eq_some_iff, Option.ite_none_right_eq_some, Option.map_eq_some_iff] at h
  rcases h with ⟨hpermits, c, hc, heq⟩ | ⟨-, ⟨hpermits, r, hr, heq⟩ | ⟨-, hpermits, hreport⟩⟩
  · cases heq
    simp [hpermits, hc]
  · cases heq
    simp [hpermits, hr]
  · unfold reportCandidate at hreport
    split at hreport
    · next hnew =>
      cases hreport
      simp [hpermits, hnew]
    · obtain ⟨f, hf, heq⟩ := Option.map_eq_some_iff.mp hreport
      cases heq
      simp [hpermits, hf]

/-! ## The exchange of the report buffers (R35) -/

/-- The exchange of READY with SEND leaves the levels of a character in progress (R35). -/
theorem takeReady_inCharacter (x : Transceiver) : (takeReady x).inCharacter = x.inCharacter := by
  unfold takeReady
  split <;> rfl

/-- After the exchange of READY with SEND the report that can be sent is in SEND (R35). -/
theorem takeReady_send {x : Transceiver} (hready : x.readyNew = true → x.ready ≠ none)
    (h : x.readyNew = true ∨ x.send ≠ none) : (takeReady x).send ≠ none := by
  unfold takeReady
  split
  · next hnew => simpa using hready hnew
  · next hold => exact h.resolve_left hold

end Sys2Proof.Machine
end

section
/-! PROOF. O6: what is driven and what waits is permitted in the link state that holds, and the quiet and gap times stay
in their ranges. Each operation that reaches the Link Transceiver or the Link Monitor is shown once to keep the rule. -/

namespace Sys2Proof.Machine

namespace TransmitRule

variable {s t : State}

/-! ## The parts that the rule speaks of -/

/-- The rule speaks of the Link Transceiver and the Link Monitor alone. -/
theorem congr (h : TransmitRule s) (hlink : t.link = s.link := by simp) (hmonitor : t.monitor = s.monitor := by simp) :
    TransmitRule t := by
  obtain ⟨⟩ := h
  constructor <;> simpa only [hlink, hmonitor]

/-- Of the Link Monitor it speaks of the link state and the outstanding line check alone (R27, R42). -/
theorem of_monitor (h : TransmitRule s) (hlink : t.link = s.link) (hstate : t.monitor.link = s.monitor.link)
    (hpermits : t.monitor.check ≠ none → permits s.monitor.link .lineCheck = true)
    (hheld : s.link.sending = some .lineCheck → t.monitor.check ≠ none) : TransmitRule t := by
  obtain ⟨hdriven, hslot, hsend, -, -, hresponse, hreport, hready, hcharacter, hshort, hquiet, hgap⟩ := h
  rw [← hlink] at hdriven hslot hsend hresponse hreport hready hcharacter hshort hquiet hgap hheld
  rw [← hstate] at hdriven hslot hsend hpermits
  exact ⟨hdriven, hslot, hsend, hpermits, hheld, hresponse, hreport, hready, hcharacter, hshort, hquiet, hgap⟩

/-- The Link Monitor's counts, rate and timer may change freely. -/
theorem withCounts (h : TransmitRule s) {m : Monitor} (hstate : m.link = s.monitor.link := by rfl)
    (hcheck : m.check = s.monitor.check := by rfl) : TransmitRule (s.withMonitor m) :=
  h.of_monitor rfl hstate (fun hm => h.check (by rwa [← hcheck]))
    (fun hs => by simpa only [withMonitor_monitor, hcheck] using h.checkHeld hs)

/-- A line check that is not being sent may end (R42, R43). -/
theorem withoutCheck (h : TransmitRule s) {m : Monitor} (hsending : s.link.sending = none)
    (hstate : m.link = s.monitor.link := by rfl) (hcheck : m.check = none := by rfl) : TransmitRule (s.withMonitor m) :=
  h.of_monitor rfl hstate (fun hm => absurd hcheck hm) (fun hs => by simp [hsending] at hs)

/-- The receiver's fields: a character is in progress beside no frame of the own, and its levels, the quiet time and
inside a frame the gap time stay below their limits (R18, R19, R22). -/
theorem withReceiver (h : TransmitRule s) {a : Assembler} {c : List Bool} {q g : Nat}
    (hcharacter : s.link.sending ≠ none → c = []) (hshort : c.length < 11) (hquiet : q ≤ 255)
    (hgap : ∀ b, a = .inFrame b → linkComplete b = false → g < 3 ∧ q ≤ g) :
    TransmitRule (s.withLink { s.link with assembler := a, inCharacter := c, quiet := q, gap := g }) :=
  ⟨h.driven, h.slot, h.send, h.check, h.checkHeld, h.responseHeld, h.reportHeld, h.readyHeld, hcharacter, hshort,
    hquiet, hgap⟩

/-- A character that ends leaves no level in progress, and the quiet and gap times at 0 (R18, R19, R22). -/
theorem withAssembler (h : TransmitRule s) {a : Assembler} :
    TransmitRule (s.withLink { s.link with assembler := a, inCharacter := [], quiet := 0, gap := 0 }) :=
  h.withReceiver (fun _ => rfl) (by simp) (by simp) (by simp)

/-- The engine stops driving (R26). -/
theorem stopSending (h : TransmitRule s) : TransmitRule (s.withLink { s.link with sending := none }) :=
  ⟨by simp, h.slot, h.send, h.check, by simp, by simp, by simp, h.readyHeld, by simp, h.short, h.quiet, h.gap⟩

/-- What waits and is not being driven may be withdrawn (R32, R33, R35). -/
theorem withWaiting (h : TransmitRule s) {r : Option Response} {f : Option SendFrame} (hsending : s.link.sending = none)
    (hslot : r ≠ none → s.link.slot ≠ none) (hsend : f ≠ none → s.link.send ≠ none) :
    TransmitRule (s.withLink { s.link with slot := r, send := f }) :=
  ⟨h.driven, fun hr => h.slot (hslot hr), fun hf => h.send (hsend hf), h.check, h.checkHeld,
    by simp [hsending], by simp [hsending], h.readyHeld, h.character, h.short, h.quiet, h.gap⟩

/-! ## The link state -/

/-- A change of the link state leaves what the new one permits, and ends what it does not (R27, R36). -/
theorem setLinkState (h : TransmitRule s) (l : LinkState) : TransmitRule (setLinkState l s) := by
  have hlink := setLinkState_link l s
  have hmonitor := setLinkState_monitor l s
  by_cases hdriven : s.link.sending.any (fun k => !permits l k) = true
  · rw [if_pos hdriven] at hlink
    constructor
    case readyHeld => simpa [hlink, abandonFrame] using h.readyHeld
    all_goals simp +contextual [hlink, hmonitor, abandonFrame]
  · rw [if_neg hdriven] at hlink
    have hpermits (k : SendKind) (hk : s.link.sending = some k) : permits l k = true := by
      simpa [hk] using hdriven
    constructor <;> simp only [hlink, hmonitor]
    case driven => exact hpermits
    case slot => exact fun hr => by_contra fun hno => hr (by simp [hno])
    case send => exact fun hf => by_contra fun hno => hf (by simp [hno])
    case check => exact fun hc => by_contra fun hno => hc (by simp [hno])
    case checkHeld => exact fun hk => by rw [if_pos (hpermits _ hk)]; exact h.checkHeld hk
    case responseHeld => exact fun hk => by rw [if_pos (hpermits _ hk)]; exact h.responseHeld hk
    case reportHeld => exact fun hk => by rw [if_pos (hpermits _ hk)]; exact h.reportHeld hk
    case readyHeld => exact h.readyHeld
    case character => exact h.character
    case short => exact h.short
    case quiet => exact h.quiet
    case gap => exact h.gap

theorem setRate (h : TransmitRule s) {r : Rate} : TransmitRule (setRate r s) :=
  (h.withCounts (m := { s.monitor with rate := some r })).withAssembler

theorem enterSearch (h : TransmitRule s) : TransmitRule (enterSearch s) := (h.setLinkState .search).setRate.withCounts

/-- A line check is placed where it is permitted (R42, R43). -/
theorem placeCheck (h : TransmitRule s) {k : CheckKind} (hpermits : permits s.monitor.link .lineCheck = true) :
    TransmitRule (placeCheck k s) :=
  h.of_monitor rfl rfl (fun _ => hpermits) (fun _ => by simp [Machine.placeCheck])

theorem enterMuted (h : TransmitRule s) (hsending : s.link.sending = none) : TransmitRule (enterMuted s) := by
  have hnone : (Machine.setLinkState .muted s).link.sending = none := by simp [setLinkState_link, hsending]
  exact (((h.setLinkState .muted).withoutCheck hnone :
    TransmitRule ((Machine.setLinkState .muted s).withMonitor { (Machine.setLinkState .muted s).monitor with
      faults := 0, countdown := Config.checkSpacing, check := none }))).congr rfl rfl

/-- A report fills READY and marks it new (R34). -/
theorem endClose (h : TransmitRule s) : TransmitRule (endClose s) := by
  obtain ⟨⟩ := h
  constructor
  case readyHeld => simp [endClose_link]
  all_goals simpa only [endClose_link, endClose_monitor]

/-- An answer is placed where it is permitted (R33, R161). -/
theorem respond (h : TransmitRule s) {c : Byte} {r : Result} {d : List Byte} : TransmitRule (respond c r d s) := by
  unfold Machine.respond
  split
  · next hpermits =>
    exact ⟨h.driven, fun _ => hpermits, h.send, h.check, h.checkHeld, fun _ => by simp, h.reportHeld, h.readyHeld,
      h.character, h.short, h.quiet, h.gap⟩
  · exact h

/-- Closes, commands and completed frames keep the rule. -/
theorem invariant : LinkInvariant TransmitRule where
  frame h hlink hmonitor := h.congr hlink hmonitor
  counts h hstate hcheck := h.withCounts hstate hcheck
  linkState l h := h.setLinkState l
  check h hpermits := h.placeCheck hpermits
  report h := h.endClose
  answer h := h.respond
  judged h := h.withReceiver h.character h.short h.quiet nofun

/-! ## Characters and quiet time -/

theorem reportCharError (h : TransmitRule s) : TransmitRule (reportCharError s) := by
  have hcounted := h.withCounts
    (m := { s.monitor with charErrors := min Config.charErrorLimit (s.monitor.charErrors + 1) })
  simp only [Machine.reportCharError]
  split
  · exact hcounted.enterSearch
  · exact hcounted

theorem judgeLevels (h : TransmitRule s) {levels : BitVec 11} : TransmitRule (judgeLevels levels s) := by
  cases hjudged : judgeCharacter levels with
  | glitch =>
    rw [judgeLevels_glitch levels s hjudged]
    exact h.withReceiver (fun _ => rfl) (by simp) (by simp)
      fun b hb hshort => ⟨(h.gap b hb hshort).1, Nat.zero_le _⟩
  | error =>
    rw [judgeLevels_error levels s hjudged]
    exact h.withAssembler.reportCharError
  | good x =>
    rw [judgeLevels_good levels x s hjudged]
    exact h.withAssembler

theorem takeCharacter (h : TransmitRule s) {levels : BitVec 11} : TransmitRule (takeCharacter levels s) := by
  unfold Machine.takeCharacter
  split
  · exact (invariant.completeFrame h).judgeLevels
  · exact h

/-- A level of a character in progress is read only while no frame of the own is being driven (R26). -/
theorem takeLevel (h : TransmitRule s) {level : Bool} (hsending : s.link.sending = none) :
    TransmitRule (takeLevel level s) := by
  rcases Nat.lt_or_ge s.link.inCharacter.length 10 with hshort | hlong
  · rw [takeLevel_short level s hshort]
    exact h.withReceiver (fun hs => absurd hsending hs) (by simp; omega) h.quiet h.gap
  · rw [takeLevel_eleventh level s hlong]
    exact h.judgeLevels

/-- Inside a frame the quiet time stays within the gap time, and the third bit time of it drops the frame (R20, R22). -/
theorem quietFor (h : TransmitRule s) {n : Nat} : TransmitRule (quietFor n s) := by
  refine h.withReceiver h.character h.short (Nat.min_le_left ..) fun b hb hshort => ?_
  cases ha : s.link.assembler with
  | inFrame c =>
    rw [ha] at hb
    simp only [assemblerAfterQuiet] at hb
    split at hb
    · split at hb <;> simp at hb
    · next hgap =>
      obtain rfl : c = b := by simpa using hb
      obtain ⟨hgapBefore, hquietBefore⟩ := h.gap c ha hshort
      simp only [hshort, true_and, Config.gapQuiet] at hgap ⊢
      omega
  | waitQuiet =>
    simp only [ha, assemblerAfterQuiet] at hb
    split at hb <;> cases hb
  | armed => simp [ha, assemblerAfterQuiet] at hb

theorem restBit (h : TransmitRule s) (hsending : s.link.sending = none) : TransmitRule (restBit s) := by
  unfold Machine.restBit
  split
  · exact h.quietFor
  · exact h.takeLevel hsending

theorem armAssembler (h : TransmitRule s) : TransmitRule (armAssembler s) := by
  unfold Machine.armAssembler
  split
  · exact h.quietFor
  · exact h

/-! ## Sending -/

/-- READY marked new is exchanged with SEND (R35). -/
theorem takeReady (h : TransmitRule s) (hpermits : permits s.monitor.link .report = true)
    (hsending : s.link.sending = none) : TransmitRule (s.withLink (takeReady s.link)) := by
  unfold Machine.takeReady
  split
  · exact ⟨h.driven, h.slot, fun _ => hpermits, h.check, h.checkHeld, h.responseHeld, by simp [hsending], by simp,
      h.character, h.short, h.quiet, h.gap⟩
  · exact h

/-- The engine begins a frame that is permitted and there, with no character in progress (R26, R27, R28). -/
theorem startSending (h : TransmitRule s) {k : SendKind} (hcharacter : s.link.inCharacter = [])
    (hpermits : permits s.monitor.link k = true) (hcheck : k = .lineCheck → s.monitor.check ≠ none)
    (hslot : k = .response → s.link.slot ≠ none) (hsend : k = .report → s.link.send ≠ none) :
    TransmitRule (s.withLink { s.link with sending := some k }) :=
  ⟨fun j hj => by obtain rfl := Option.some.inj hj; exact hpermits, h.slot, h.send, h.check,
    fun hj => hcheck (Option.some.inj hj), fun hj => hslot (Option.some.inj hj), fun hj => hsend (Option.some.inj hj),
    h.readyHeld, fun _ => hcharacter, h.short, h.quiet, h.gap⟩

theorem startAttempt (h : TransmitRule s) (hsending : s.link.sending = none) (hcharacter : s.link.inCharacter = []) :
    TransmitRule (startAttempt s) := by
  unfold Machine.startAttempt
  split
  · exact h
  · next k n hcandidate =>
    obtain ⟨hpermits, hcheck, hslot, hreport⟩ := candidate_some hcandidate
    have hquiet := h.quietFor (n := startThreshold s.loader.station n - s.link.quiet)
    cases k with
    | lineCheck => exact hquiet.startSending hcharacter hpermits hcheck nofun nofun
    | response => exact hquiet.startSending hcharacter hpermits nofun hslot nofun
    | report =>
      exact (hquiet.takeReady hpermits hsending).startSending ((takeReady_inCharacter _).trans hcharacter) hpermits
        nofun nofun fun _ => takeReady_send hquiet.readyHeld (hreport rfl)

theorem countAttempt (h : TransmitRule s) {k : SendKind} : TransmitRule (countAttempt k s) := by
  obtain ⟨⟩ := h
  cases k <;> constructor <;> simp only [Machine.countAttempt, withMonitor_link, withMonitor_monitor, withLink_link,
    withLink_monitor, ne_eq, Option.map_eq_none_iff] <;> assumption

theorem yieldFrame (h : TransmitRule s) {k : SendKind} {bit : Nat} : TransmitRule (yieldFrame k bit s) := by
  have hstopped : TransmitRule (s.withLink { s.link with
      sending := none, assembler := copySoFar (outFrame s k) bit
      inCharacter := characterSoFar (outFrame s k) bit, quiet := 0, gap := 0 }) :=
    h.stopSending.withReceiver (by simp) (by simp [characterSoFar]; omega) (by simp) (by simp)
  exact hstopped.countAttempt.takeLevel (by cases k <;> rfl)

theorem dropFrame (h : TransmitRule s) {frame : List Byte} {bit : Nat} : TransmitRule (dropFrame frame bit s) := by
  have hrun := recessiveRun_le_ten frame bit
  refine h.stopSending.withReceiver (by simp) (by simp) ?_ nofun
  unfold quietAfterFault
  split
  · exact h.quiet
  · omega

theorem checkFailed (h : TransmitRule s) (hsending : s.link.sending = none) : TransmitRule (checkFailed s) := by
  unfold Machine.checkFailed
  split
  · exact h.enterMuted hsending
  · exact h.withoutCheck hsending
  · exact h

theorem countFault (h : TransmitRule s) (hsending : s.link.sending = none) : TransmitRule (countFault s) := by
  have hcounted := h.withCounts (m := { s.monitor with faults := s.monitor.faults + 1 })
  simp only [Machine.countFault]
  split
  · exact hcounted.enterMuted hsending
  · exact hcounted

theorem faultFrame (h : TransmitRule s) {k : SendKind} {bit : Nat} : TransmitRule (faultFrame k bit s) := by
  have hdropped := h.dropFrame (frame := outFrame s k) (bit := bit)
  cases k with
  | lineCheck => exact hdropped.checkFailed rfl
  | response | report => exact hdropped.countAttempt.countFault rfl

theorem checkPassed (h : TransmitRule s) (hsending : s.link.sending = none) : TransmitRule (checkPassed s) := by
  unfold Machine.checkPassed
  split
  · exact h.withoutCheck hsending
  · have hended := h.withoutCheck (m := { s.monitor with check := none, faults := 0, countdown := 0 }) hsending
    simp only
    split
    · exact invariant.enterAlone hended
    · exact hended.setLinkState .joined
  · exact h

theorem sentFrame (h : TransmitRule s) {k : SendKind} : TransmitRule (sentFrame k s) := by
  have hsent := h.stopSending.withAssembler (a := .waitQuiet)
  cases k with
  | lineCheck => exact hsent.checkPassed rfl
  | response => exact (hsent.withWaiting (r := none) rfl nofun id).withCounts
  | report => exact (hsent.withWaiting (f := none) rfl id nofun).withCounts

/-! ## The rate search -/

theorem nextDwell (h : TransmitRule s) : TransmitRule (nextDwell s) := by
  unfold Machine.nextDwell
  split
  · exact h.setRate.withCounts
  · have hdefault := (h.setRate (r := defaultRate s)).withCounts
      (m := { (Machine.setRate (defaultRate s) s).monitor with dwell := none })
    exact (invariant.enterAlone hdefault).placeCheck (by simp [Machine.enterAlone, setLinkState_monitor, permits])

/-! ## Every step -/

/-- Every command keeps the rule. -/
theorem exec {c : Instr} (h : TransmitRule s) (hexec : exec c s = .next t) : TransmitRule t := by
  have hif {p : Prop} [Decidable p] {u : State} (hu : p → TransmitRule u) : TransmitRule (if p then u else s) := by
    split
    · next hp => exact hu hp
    · exact h
  cases c
  all_goals obtain rfl := Host.Outcome.next.inj hexec
  case powerOnReset => exact transmitRule_reset.congr
  case holdEnd straps => exact hif fun _ => h.congr rfl rfl
  case imageReadComplete im =>
    refine hif fun _ => ?_
    split
    · obtain ⟨relay, recon, heq⟩ := install_eq (imageRead im) s
      rw [heq]
      exact TransmitRule.enterSearch (h.congr rfl rfl)
    · exact (h.congr rfl rfl : TransmitRule (reject s))
  case tick =>
    refine hif fun _ => ?_
    exact invariant.congr (invariant.takeDueWork h)
      (t := (takeDueWork s).withMeter { (takeDueWork s).meter with reading := some 1 })
  case captureCompletion f =>
    split
    · exact h
    · split <;> exact h.congr
  case outletUnmeasured =>
    split
    · exact h
    · exact hif fun _ => h.congr
  case stationLate n => exact hif fun _ => h.congr
  case stationExpiry n => exact hif fun _ => invariant.expireStation h
  case periodClose | graceExpiry | settleExpiry | restoreCounterExpiry | checkCountdownExpiry =>
    exact hif fun _ => invariant.closePeriod h
  case character levels => exact h.takeCharacter
  case searchOnCharacterErrors levels => exact hif fun _ => h.takeCharacter
  case assemblerArmed => exact hif fun _ => (invariant.completeFrame h).armAssembler
  case gapError =>
    split
    · exact hif fun _ => h.quietFor
    · exact h
  case frameCompletion => exact invariant.completeFrame h
  case queryStatus arg => exact invariant.receiveCommand h (invariant.queryStatusEffect h)
  case queryOutlet arg => exact invariant.receiveCommand h (invariant.queryOutletEffect h)
  case lockOff arg => exact invariant.receiveCommand h (invariant.lockOffEffect h)
  case unlock arg => exact invariant.receiveCommand h (invariant.unlockEffect h)
  case clearFault arg => exact invariant.receiveCommand h (invariant.clearFaultEffect h)
  case ackEvents arg => exact invariant.receiveCommand h (invariant.ackEventsEffect h)
  case endAlert arg => exact invariant.receiveCommand h (invariant.endAlertEffect h)
  case fetchRecord arg => exact invariant.receiveCommand h (invariant.fetchRecordEffect h)
  case restart arg => exact invariant.receiveCommand h (invariant.restartEffect h)
  case invalidCommand code arg => exact invariant.receiveCommand h (invariant.commandEffect h)
  case attemptStart =>
    refine hif fun hbetween => ?_
    obtain ⟨hsending, hcharacter⟩ := betweenFrames_invariant.completeFrame (betweenFrames_of_between hbetween)
    exact (invariant.completeFrame h).startAttempt hsending hcharacter
  case yieldLine bit =>
    split
    · exact hif fun _ => h.yieldFrame
    · exact h
  case transmitFault bit =>
    split
    · exact hif fun _ => h.faultFrame
    · exact h
  case txFaultLimit bit =>
    split
    · exact hif fun _ => h.faultFrame
    · exact h
  case transmitSuccess =>
    split
    · exact h.sentFrame
    · exact h
  case dwellExpiry => exact hif fun _ => h.nextDwell
  case pulseEnd => exact h.congr
  case settleEnd => exact hif fun _ => (invariant.finishClose h).congr
  case openVerify => exact hif fun _ => (invariant.finishClose h).congr
  case gapExpiry => exact hif fun _ => h.congr
  case restartReset straps => exact hif fun _ => transmitRule_reset.congr rfl rfl

theorem idle (h : TransmitRule s) : TransmitRule (idle s) := by
  unfold Machine.idle
  split_ifs
  case pos => exact invariant.completeFrame h
  case pos => exact invariant.workOn h
  case pos => exact h.congr
  case pos => exact invariant.beginDueWork h
  case pos hdue =>
    obtain ⟨hsending, hcharacter⟩ := betweenFrames_of_between (by
      simp only [attemptDue, Bool.and_eq_true] at hdue
      exact hdue.1)
    exact h.startAttempt hsending hcharacter
  case pos hlisten => exact h.restBit (sending_of_listening hlisten)
  case neg => exact h

end TransmitRule

/-- Settles O6: permission is withdrawn at each change of the link state, an attempt begins a frame that is permitted and
there, and inside a frame the quiet time stays within the gap time. -/
theorem stepKeepsTransmitRule : Obligations.StepKeepsTransmitRule := by
  intro s t h hstep
  rcases step_cases hstep with ⟨-, rfl⟩ | ⟨c, rest, -, hexec⟩
  · exact h.idle
  · exact (h.congr : TransmitRule (s.withPending rest)).exec hexec

end Sys2Proof.Machine
end

section
/-! PROOF. O15: a frame as it is sent is assembled, valid and read back, and one level of a character read wrong is
found. -/

namespace Sys2Proof.Machine

/-! ## Bytes and the count of their ones -/

theorem toByte_toNat {n : Nat} (h : n < 256) : (toByte n).toNat = n := by simp [toByte, Nat.mod_eq_of_lt h]

/-- The count of the ones of the low bits, the highest of them apart. -/
theorem countOnes_succ (n v : Nat) : countOnes (n + 1) v = countOnes n v + (v.testBit n).toNat := by
  induction n generalizing v with
  | zero =>
    rcases Nat.mod_two_eq_zero_or_one v with h | h <;> simp [countOnes, h]
  | succ n ih =>
    calc countOnes (n + 2) v = v % 2 + countOnes (n + 1) (v / 2) := rfl
      _ = v % 2 + (countOnes n (v / 2) + ((v / 2).testBit n).toNat) := by rw [ih]
      _ = v % 2 + countOnes n (v / 2) + (v.testBit (n + 1)).toNat := by rw [Nat.testBit_succ]; omega
      _ = countOnes (n + 1) v + (v.testBit (n + 1)).toNat := rfl

/-- The count reads the low bits alone. -/
theorem countOnes_congr {n u v : Nat} (h : ∀ i, i < n → u.testBit i = v.testBit i) : countOnes n u = countOnes n v := by
  induction n with
  | zero => rfl
  | succ n ih => rw [countOnes_succ, countOnes_succ, h n (by omega), ih fun i hi => h i (by omega)]

/-- One bit turned over makes an odd count even and an even one odd. -/
theorem countOnes_flip {n i : Nat} (v : Nat) (hi : i < n) :
    (countOnes n (v ^^^ 2 ^ i) + countOnes n v) % 2 = 1 := by
  induction n generalizing i v with
  | zero => omega
  | succ n ih =>
    simp only [countOnes, Nat.xor_div_two, Nat.xor_mod_two_eq]
    cases i with
    | zero =>
      simp only [pow_zero, Nat.reduceDiv, Nat.xor_zero]
      omega
    | succ i =>
      have hflip := ih (v / 2) (i := i) (by omega)
      rw [show 2 ^ (i + 1) / 2 = 2 ^ i by omega]
      omega

/-! ## Characters (R18) -/

/-- The levels that carry a byte hold it in their data bits, and an odd number of ones in data and parity (R17, R18). -/
theorem characterLevels_data {x : Byte} {levels : BitVec 11}
    (h : ∀ i, i < 11 → levels.getLsbD i = characterBit x i) :
    toByte (levels.toNat / 2) = x ∧ countOnes 9 (levels.toNat / 2) % 2 = 1 := by
  have hdata (i : Nat) (hi : i < 8) : (levels.toNat / 2).testBit i = x.toNat.testBit i := by
    rw [← Nat.testBit_succ]
    simpa [characterBit, BitVec.getLsbD, show i + 1 ≤ 8 by omega] using h (i + 1) (by omega)
  have hparity : (levels.toNat / 2).testBit 8 = parityBit x := by
    rw [← Nat.testBit_succ]
    simpa [characterBit, BitVec.getLsbD] using h 9 (by omega)
  constructor
  · refine BitVec.eq_of_getLsbD_eq fun i hi => ?_
    rw [toByte, BitVec.getLsbD_ofNat, decide_eq_true hi, Bool.true_and, hdata i hi, BitVec.getLsbD]
  · have hbit : (parityBit x).toNat = 1 - countOnes 8 x.toNat % 2 := by
      rcases Nat.mod_two_eq_zero_or_one (countOnes 8 x.toNat) with hones | hones <;> simp [parityBit, hones]
    rw [countOnes_succ, countOnes_congr hdata, hparity, hbit]
    omega

/-- A recessive start bit makes a glitch (R18). -/
theorem judgeCharacter_start {levels : BitVec 11} (h : levels.getLsbD 0 = true) : judgeCharacter levels = .glitch := by
  rw [judgeCharacter, if_pos h]

/-- A dominant stop bit is a framing error (R18). -/
theorem judgeCharacter_stop {levels : BitVec 11} (hstart : levels.getLsbD 0 = false)
    (hstop : levels.getLsbD 10 = false) : judgeCharacter levels = .error := by
  rw [judgeCharacter, if_neg (by simp only [hstart, Bool.false_eq_true, not_false_eq_true]), if_pos (by rw [hstop]; rfl)]

/-- Between a dominant start bit and a recessive stop bit the parity decides (R18). -/
theorem judgeCharacter_parity {levels : BitVec 11} (hstart : levels.getLsbD 0 = false)
    (hstop : levels.getLsbD 10 = true) : judgeCharacter levels =
      if countOnes 9 (levels.toNat / 2) % 2 = 0 then .error else .good (toByte (levels.toNat / 2)) := by
  rw [judgeCharacter, if_neg (by simp only [hstart, Bool.false_eq_true, not_false_eq_true]),
    if_neg (by simp only [hstop, Bool.not_true, Bool.false_eq_true, not_false_eq_true])]
  simp only [beq_iff_eq]

/-- A character read as it is sent is good (R18). -/
theorem judgeCharacter_sent {x : Byte} {levels : BitVec 11} (h : ∀ i, i < 11 → levels.getLsbD i = characterBit x i) :
    judgeCharacter levels = .good x := by
  obtain ⟨hbyte, hodd⟩ := characterLevels_data h
  rw [judgeCharacter_parity (h 0 (by omega)) (h 10 (by omega)), if_neg (by omega), hbyte]

/-- One level read wrong is found: at the start bit as a glitch, at the stop bit as a framing error, and elsewhere as a
parity error (R18). -/
theorem judgeCharacter_flip {x : Byte} {levels : BitVec 11} (h : ∀ i, i < 11 → levels.getLsbD i = characterBit x i)
    {i : Nat} (hi : i < 11) :
    judgeCharacter (levels ^^^ BitVec.twoPow 11 i) = if i = 0 then .glitch else .error := by
  have hlevel (j : Nat) (hj : j < 11) :
      (levels ^^^ BitVec.twoPow 11 i).getLsbD j = (characterBit x j ^^ decide (j = i)) := by
    rw [BitVec.getLsbD_xor, BitVec.getLsbD_twoPow, h j hj, decide_eq_true hi, Bool.true_and]
    simp only [eq_comm]
  obtain rfl | ⟨i, rfl⟩ : i = 0 ∨ ∃ j, i = j + 1 := by cases i <;> simp
  · exact judgeCharacter_start (hlevel 0 (by omega))
  · have hstart := hlevel 0 (by omega)
    rw [if_neg (by omega)]
    by_cases hstop : i + 1 = 10
    · refine judgeCharacter_stop hstart ?_
      rw [hlevel 10 (by omega), hstop]
      rfl
    · have hdata : (levels ^^^ BitVec.twoPow 11 (i + 1)).toNat / 2 = levels.toNat / 2 ^^^ 2 ^ i := by
        rw [BitVec.toNat_xor, BitVec.toNat_twoPow, Nat.mod_eq_of_lt (Nat.pow_lt_pow_right (by omega) hi),
          Nat.xor_div_two, Nat.pow_succ, Nat.mul_div_cancel _ (by omega)]
      have hflip := countOnes_flip (levels.toNat / 2) (show i < 9 by omega)
      have hodd := (characterLevels_data h).2
      have hrecessive := hlevel 10 (by omega)
      rw [decide_eq_false (by omega)] at hrecessive
      rw [judgeCharacter_parity hstart hrecessive, hdata, if_pos (by omega)]

/-! ## Frames (R20, R21, R24) -/

/-- Past the Length the frame assembler takes every byte (R23). -/
theorem assembleByte_long (xs : List Byte) {b : List Byte} (h : 3 ≤ b.length) :
    xs.foldl assembleByte (.inFrame b) = .inFrame (b ++ xs) := by
  induction xs generalizing b with
  | nil => simp
  | cons x xs ih =>
    have hkept : linkDropped (b ++ [x]) = false := by
      simp only [linkDropped, List.length_append, List.length_singleton, Bool.or_eq_false_iff, Bool.and_eq_false_iff,
        decide_eq_false_iff_not]
      omega
    rw [List.foldl_cons, assembleByte, if_neg (by simp [hkept]), ih (by simp; omega)]
    simp

/-- The bytes of a frame over which its check word is computed: Kind to the last payload byte (R24). -/
def frameBody (kind source : Nat) (payload : List Byte) : List Byte :=
  toByte kind :: toByte source :: toByte payload.length :: payload

theorem linkFrame_eq (kind source : Nat) (payload : List Byte) : linkFrame kind source payload =
    Config.sync :: (frameBody kind source payload ++ checkBytes (frameBody kind source payload)) := rfl

@[simp] theorem frameBody_length (kind source : Nat) (payload : List Byte) :
    (frameBody kind source payload).length = payload.length + 3 := rfl

theorem linkLength_frameBody (kind source : Nat) {payload : List Byte} (h : payload.length ≤ 200) (rest : List Byte) :
    linkLength (frameBody kind source payload ++ rest) = payload.length := toByte_toNat (by omega)

/-- The frame assembler takes SYNC, a known Kind, the Source and a Length up to 200, and then all the rest (R20, R23). -/
theorem assembleByte_frame {kind source : Nat} {payload : List Byte} (hkind : 1 ≤ kind ∧ kind ≤ 4)
    (hlength : payload.length ≤ 200) : (linkFrame kind source payload).foldl assembleByte .armed =
      .inFrame (frameBody kind source payload ++ checkBytes (frameBody kind source payload)) := by
  have hkindByte := toByte_toNat (show kind < 256 by omega)
  have hlengthByte := toByte_toNat (show payload.length < 256 by omega)
  have hkept : ¬ (kind = 0 ∨ 4 < kind) := by omega
  have hshort : ¬ 200 < payload.length := by omega
  simp only [linkFrame_eq, frameBody, List.cons_append, List.foldl_cons]
  simp [assembleByte, linkDropped, linkKind, linkLength, Config.payloadLimit, hkindByte, hlengthByte, hkept, hshort,
    assembleByte_long]

/-- Settles O15: the early checks drop no frame that is sent, its check bytes are below 255 each and so are read as they
were computed, and a level turned over makes the parity even. -/
theorem sentFramesAreReceived : Obligations.SentFramesAreReceived := by
  refine ⟨fun kind source payload hkind hkind4 hsource hlength => ⟨_, assembleByte_frame ⟨hkind, hkind4⟩ hlength, ?_⟩,
    fun x levels h => ⟨judgeCharacter_sent h, fun i hi => judgeCharacter_flip h hi⟩⟩
  obtain ⟨hA, hB⟩ := checkWord_lt (frameBody kind source payload)
  have hfield := linkLength_frameBody kind source hlength (checkBytes (frameBody kind source payload))
  have hbody : (frameBody kind source payload).length = 3 + payload.length := by simp [Nat.add_comm]
  have hnext : 4 + payload.length = (frameBody kind source payload).length + 1 := by omega
  refine ⟨?_, ?_, toByte_toNat (by omega), toByte_toNat hsource, ?_⟩
  · rw [linkComplete, hfield]
    simp [checkBytes]
  · rw [linkValid, hfield, ← hbody, List.take_left, checkMatches_iff, hnext,
      List.getD_append_right _ _ _ _ le_rfl, List.getD_append_right _ _ _ _ (Nat.le_succ _), Nat.sub_self,
      Nat.succ_sub le_rfl, Nat.sub_self]
    exact ⟨toByte_toNat (by omega), toByte_toNat (by omega)⟩
  · rw [linkPayload, hfield]
    simp [frameBody]

end Sys2Proof.Machine
end

section
/-! SUPPORT. The changes of the link state as whole states, and a receiver that listens to the line for others. -/

namespace Sys2Proof.Machine

/-! ## The link states (R36) -/

/-- ALONE and JOINED withdraw nothing (R27, R36). -/
theorem setLinkState_sends {l : LinkState} (h : l = .alone ∨ l = .joined) (s : State) :
    setLinkState l s = s.withMonitor { s.monitor with link := l } := by
  simp [setLinkState, withdraw, permits_sends h, State.withLink, State.withMonitor]

/-- In ALONE the counts of the period start afresh (R40, R47, R48). -/
theorem enterAlone_eq (s : State) :
    enterAlone s = s.withMonitor { s.monitor with link := .alone, charErrors := 0, heard := false } := by
  simp [enterAlone, setLinkState_sends (.inl rfl), State.withMonitor]

/-- The rate that has been proved is adopted (R41, R42). -/
theorem adoptRate_eq (s : State) : adoptRate s =
    s.withMonitor { s.monitor with link := .joined, dwell := none, check := some ⟨.entry, 0⟩ } := by
  simp [adoptRate, placeCheck, setLinkState_sends (.inr rfl), State.withMonitor]

/-- MUTED withdraws the response and the report, and ends the line check (R27, R36, R44). -/
theorem enterMuted_eq {s : State} (h : s.link.sending = none) : enterMuted s = raise .txFault { s with
    link := { s.link with slot := none, send := none }
    monitor := { s.monitor with link := .muted, faults := 0, countdown := 64, check := none } } := by
  simp [enterMuted, setLinkState, withdraw, h, permits, State.withMonitor, State.withLink, Config.checkSpacing]

/-- DUPLICATE withdraws all that waits (R27, R36, R49). -/
theorem enterDuplicate_eq {s : State} (h : s.link.sending = none) : enterDuplicate s = raise .duplicate { s with
    link := { s.link with slot := none, send := none }
    monitor := { s.monitor with link := .duplicate, check := none } } := by
  simp [enterDuplicate, setLinkState, withdraw, h, permits, State.withMonitor, State.withLink]

/-- The start of the rate search as one state (R16, R36, R39). -/
theorem enterSearch_eq (s : State) : enterSearch s = { s with
    link := { s.link with
      assembler := .waitQuiet, inCharacter := [], quiet := 0, gap := 0, sending := none, slot := none, send := none }
    monitor := { s.monitor with
      link := .search, rate := some (defaultRate s), searchPosition := 1, dwell := some 6000, charErrors := 0
      heard := false, faults := 0, check := none } } := by
  have hframe : enterSearch s = { s with link := (enterSearch s).link, monitor := (enterSearch s).monitor } := rfl
  rw [hframe, enterSearch_link, enterSearch_monitor]

theorem allAbsent_iff (s : State) : allAbsent s = true ↔ ∀ r ∈ s.roster, r.state = .absent := by simp [allAbsent]

/-- JOINED with every record ABSENT is left for ALONE with LINK_ALONE (R47). -/
theorem testAlone_absent {s : State} (hlink : s.monitor.link = .joined) (habsent : ∀ r ∈ s.roster, r.state = .absent) :
    testAlone s = raise .linkAlone
      (s.withMonitor { s.monitor with link := .alone, charErrors := 0, heard := false }) := by
  rw [testAlone, if_pos ⟨hlink, (allAbsent_iff s).mpr habsent⟩, enterAlone_eq]

/-- Elsewhere, and with a record LIVE or LATE, the test of R47 has no effect. -/
theorem testAlone_rest {s : State} (h : s.monitor.link = .joined → ¬ ∀ r ∈ s.roster, r.state = .absent) :
    testAlone s = s := by
  rw [testAlone, if_neg]
  rintro ⟨hlink, habsent⟩
  exact h hlink ((allAbsent_iff s).mp habsent)

/-! ## Character errors (R48) -/

/-- The next character error is the sixteenth of a period without a frame, in ALONE (R48). -/
def SearchesNext (s : State) : Prop := s.monitor.link = .alone ∧ s.monitor.charErrors = 15 ∧ s.monitor.heard = false

/-- A character error is counted, up to 255 (R48). -/
theorem reportCharError_counted {s : State} (h : ¬ SearchesNext s) : reportCharError s =
    s.withMonitor { s.monitor with charErrors := min 255 (s.monitor.charErrors + 1) } := by
  refine if_neg ?_
  rintro ⟨hlink, herrors, hheard⟩
  simp only [withMonitor_monitor, Config.charErrorLimit, Config.searchErrors] at herrors
  exact h ⟨hlink, by omega, hheard⟩

/-- The sixteenth error of a period without a frame starts the rate search (R39, R48). -/
theorem reportCharError_searches {s : State} (h : SearchesNext s) : reportCharError s = enterSearch s := by
  obtain ⟨hlink, herrors, hheard⟩ := h
  have hsixteen : min Config.charErrorLimit (s.monitor.charErrors + 1) = Config.searchErrors := by rw [herrors]; rfl
  calc reportCharError s
      = enterSearch (s.withMonitor
          { s.monitor with charErrors := min Config.charErrorLimit (s.monitor.charErrors + 1) }) :=
        if_pos ⟨hlink, hsixteen, hheard⟩
    _ = enterSearch s := by rw [enterSearch_eq, enterSearch_eq]; rfl

/-! ## A free line -/

namespace LineFree

variable {s : State}

theorem listening (h : LineFree s) : listening s = true := by
  simp [Machine.listening, receiverRuns, h.sending, Option.isSome_iff_ne_none, h.rate]

theorem completeFrame (h : LineFree s) : completeFrame s = s := completeFrame_rest h.frame

/-- Quiet time is counted between characters (R19). -/
theorem betweenCharacters (h : LineFree s) (hcharacter : s.link.inCharacter = []) : betweenCharacters s = true := by
  simp [Machine.betweenCharacters, h.listening, hcharacter]

/-- While a character is in progress no quiet time is counted (R18, R26). -/
theorem withinCharacter (h : LineFree s) (hcharacter : s.link.inCharacter ≠ []) :
    Machine.betweenCharacters s = false := by
  simp [Machine.betweenCharacters, h.listening, hcharacter]

/-- A character is judged with the levels of it that have been read already (R18, R26). -/
theorem exec_character (h : LineFree s) (levels : BitVec 11) : exec (.character levels) s =
    .next (judgeLevels (characterLevels s.link.inCharacter levels) s) := by
  simp [exec, execCharacter, takeCharacter, h.listening, h.completeFrame]

theorem exec_searchOnCharacterErrors (h : LineFree s) (levels : BitVec 11) : exec (.searchOnCharacterErrors levels) s =
    if sixteenthError levels s = true then exec (.character levels) s else .next s := by
  rw [h.exec_character]
  by_cases hsixteenth : sixteenthError levels s = true <;>
    simp [exec, execSearchOnCharacterErrors, takeCharacter, h.listening, h.completeFrame, hsixteenth]

end LineFree

end Sys2Proof.Machine
end

section
/-! PROOF. O37: glitches, errors and good characters. -/

namespace Sys2Proof.Machine

/-- Inside a frame the early checks look at the Kind and at the Length (R23). -/
theorem assembleByte_inFrame (b : List Byte) (x : Byte) : assembleByte (.inFrame b) x =
    if b = [] ∧ (x = 0 ∨ 4 < x.toNat) ∨ b.length = 2 ∧ 200 < x.toNat then .waitQuiet else .inFrame (b ++ [x]) := by
  have hdropped : linkDropped (b ++ [x]) = true ↔
      b = [] ∧ (x = 0 ∨ 4 < x.toNat) ∨ b.length = 2 ∧ 200 < x.toNat := by
    match b with
    | [] => simp [linkDropped, linkKind, BitVec.toNat_eq]
    | [_] => simp [linkDropped]
    | [_, _] => simp [linkDropped, linkLength, Config.payloadLimit]
    | _ :: _ :: _ :: _ => simp [linkDropped]
  simp only [assembleByte, hdropped]

/-- Levels that are the same from the first unread one on make the same character (R18, R26). -/
theorem characterLevels_congr {read : List Bool} {given levels : BitVec 11}
    (h : ∀ i, read.length ≤ i → i < 11 → given.getLsbD i = levels.getLsbD i) :
    characterLevels read given = characterLevels read levels := by
  refine BitVec.eq_of_getLsbD_eq fun i hi => ?_
  rw [characterLevels_level read given i hi, characterLevels_level read levels i hi]
  split
  · rfl
  · exact h i (by omega) hi

/-- The error that starts the search is the sixteenth (R48). -/
theorem sixteenthError_iff {levels : BitVec 11} {s : State} (h : GoesOn levels s) :
    sixteenthError levels s = true ↔ judgeCharacter levels = .error ∧ SearchesNext s := by
  simp [sixteenthError, SearchesNext, characterLevels_agree _ _ h.agree, Config.searchErrors]

/-- A character that goes on from the levels already read is judged as it is given (R18, R26). -/
theorem exec_character_goesOn {levels : BitVec 11} {s : State} (hfree : LineFree s) (hlevels : GoesOn levels s) :
    exec (.character levels) s = .next (judgeLevels levels s) := by
  rw [hfree.exec_character, characterLevels_agree _ _ hlevels.agree]

/-- Settles O37: each judgement of a character moves the frame assembler, and the sixteenth error starts the search. -/
theorem charactersMoveTheAssembler : Obligations.CharactersMoveTheAssembler := by
  refine ⟨fun levels s hfree hlevels => ⟨fun hglitch => ?_, fun herror hno => ?_, fun x hgood => ?_⟩,
    fun levels s hfree hlevels herror hlink herrors hheard => ?_, fun given levels s hfree hlevels hunread => ?_⟩
  · rw [exec_character_goesOn hfree hlevels, judgeLevels_glitch levels s hglitch]
    rfl
  · rw [exec_character_goesOn hfree hlevels, judgeLevels_error levels s herror, reportCharError_counted]
    · rfl
    · exact hno
  · rw [exec_character_goesOn hfree hlevels, judgeLevels_good levels x s hgood]
    cases hassembler : s.link.assembler with
    | waitQuiet => rfl
    | armed => rfl
    | inFrame b =>
      rw [assembleByte_inFrame]
      rfl
  · have hnext : SearchesNext s := ⟨hlink, herrors, hheard⟩
    have hsearch : exec (.searchOnCharacterErrors levels) s = exec (.character levels) s := by
      rw [hfree.exec_searchOnCharacterErrors, if_pos ((sixteenthError_iff hlevels).mpr ⟨herror, hnext⟩)]
    refine ⟨hsearch, ?_⟩
    rw [hsearch, exec_character_goesOn hfree hlevels, judgeLevels_error levels s herror,
      reportCharError_searches, enterSearch_eq]
    · simp [State.withLink, hfree.sending, defaultRate]
    · exact hnext
  · have hsame := characterLevels_congr hunread
    have hcharacter : exec (.character given) s = exec (.character levels) s := by
      rw [hfree.exec_character, hfree.exec_character, hsame]
    refine ⟨hcharacter, ?_⟩
    have hsixteenth : sixteenthError given s = sixteenthError levels s := by
      rw [sixteenthError, hsame]
      rfl
    rw [hfree.exec_searchOnCharacterErrors, hfree.exec_searchOnCharacterErrors, hcharacter, hsixteenth]

end Sys2Proof.Machine
end

section
/-! PROOF. O38: quiet arms the frame assembler, and a gap drops the frame. -/

namespace Sys2Proof.Machine

/-- A waiting frame assembler is armed once the quiet time is 3 or more (R20). -/
theorem passQuiet_waitQuiet {n : Nat} {x : Transceiver} (hassembler : x.assembler = .waitQuiet)
    (hquiet : 3 ≤ min 255 (x.quiet + n)) : passQuiet n x =
      { x with assembler := .armed, quiet := min 255 (x.quiet + n), gap := min 3 (x.gap + n) } := by
  have harmed (g : Nat) : assemblerAfterQuiet .waitQuiet (min Config.quietLimit (x.quiet + n)) g = .armed :=
    if_pos hquiet
  simp only [passQuiet, hassembler, harmed]
  rfl

/-- The third recessive bit time after a stop bit drops a frame that lacks characters (R22). -/
theorem passQuiet_gap {n : Nat} {x : Transceiver} {b : List Byte} (hassembler : x.assembler = .inFrame b)
    (hlacks : linkComplete b = false) (hgap : 3 ≤ x.gap + n) : passQuiet n x = { x with
      assembler := if 3 ≤ min 255 (x.quiet + n) then .armed else .waitQuiet
      quiet := min 255 (x.quiet + n), gap := 3 } := by
  have hthree : min 3 (x.gap + n) = 3 := by omega
  simp [passQuiet, assemblerAfterQuiet, hassembler, hlacks, Config.armQuiet, Config.quietLimit, Config.gapQuiet, hthree]

/-- Settles O38: the rows bring the quiet and the gap time to their thresholds. -/
theorem quietArmsAndGapsDrop : Obligations.QuietArmsAndGapsDrop := by
  intro s hfree
  refine ⟨fun hcharacter hassembler hquiet => ⟨min 3 (s.link.gap + (3 - s.link.quiet)), ?_⟩, fun hcharacter => ?_,
    fun b hcharacter hassembler hlacks hgap hquiet => ⟨s.link.quiet + (3 - s.link.gap), by omega, ?_⟩⟩
  · have hrise : min 255 (s.link.quiet + (3 - s.link.quiet)) = max 3 s.link.quiet := by omega
    simp only [exec, execAssemblerArmed, hfree.betweenCharacters hcharacter, if_true, hfree.completeFrame, armAssembler,
      hassembler, quietFor, Config.armQuiet]
    rw [passQuiet_waitQuiet hassembler (by omega), hrise]
    rfl
  · have hwithin := hfree.withinCharacter hcharacter
    constructor
    · simp [exec, execAssemblerArmed, hwithin]
    · cases hassembler : s.link.assembler <;> simp [exec, execGapError, hwithin, hassembler]
  · have hrise : min 255 (s.link.quiet + (3 - s.link.gap)) = s.link.quiet + (3 - s.link.gap) := by omega
    simp only [exec, execGapError, hassembler, hfree.betweenCharacters hcharacter, hlacks, and_self, if_true, quietFor,
      Config.gapQuiet]
    rw [passQuiet_gap hassembler hlacks (by omega), hrise]
    simp only [show 3 ≤ s.link.quiet + (3 - s.link.gap) ↔ s.link.quiet + (3 - s.link.gap) = 3 by omega]
    rfl

end Sys2Proof.Machine
end

section
/-! SUPPORT. A frame that has completed, from its judgement to its delivery. -/

namespace Sys2Proof.Machine

/-- A frame that has all its characters stands in the frame assembler of a receiver that listens (R21, R26). -/
theorem completedFrame_some {s : State} {b : List Byte} (h : completedFrame s = some b) :
    s.link.assembler = .inFrame b ∧ listening s = true ∧ linkComplete b = true := by
  unfold completedFrame at h
  split at h
  · next c hassembler =>
    obtain ⟨hheld, hc⟩ := Option.ite_none_right_eq_some.mp h
    obtain rfl := Option.some.inj hc
    simpa [hassembler] using hheld
  · cases h

/-- While a frame completes nothing of the own is being driven (R26). -/
theorem sending_of_completedFrame {s : State} {b : List Byte} (h : completedFrame s = some b) :
    s.link.sending = none := sending_of_listening (completedFrame_some h).2.1

/-- An invalid frame leaves the frame assembler and nothing else (R24). -/
theorem completeFrame_invalid {s : State} {b : List Byte} (h : completedFrame s = some b) (hvalid : linkValid b = false) :
    completeFrame s = s.withLink { s.link with assembler := .waitQuiet } := by
  simp [completeFrame, h, hvalid]

/-- A valid frame that brings no report is heard by the Link Monitor and delivered by its kind; after a frame that has
ended the search R47 is tested (R25, R41, R48). -/
theorem completeFrame_heard {s : State} {b : List Byte} (h : completedFrame s = some b) (hvalid : linkValid b = true)
    (hreport : bringsReport b s = false) : completeFrame s =
      if s.monitor.link = .search then testAlone (deliverByKind b (heard s)) else deliverByKind b (heard s) := by
  have hbrings : bringsReport b (s.withLink { s.link with assembler := .waitQuiet }) = false := hreport
  have hunsettled : settleForReport b (s.withLink { s.link with assembler := .waitQuiet }) =
      s.withLink { s.link with assembler := .waitQuiet } := by simp [settleForReport, hbrings]
  simp only [completeFrame, h, hvalid, if_true, deliverFrame, hunsettled, adoptRate_eq]
  by_cases hsearch : s.monitor.link = .search
  · rw [if_pos hsearch, if_pos (by exact hsearch)]
    simp [heard, hsearch, hearFrame, State.withMonitor, State.withLink]
  · rw [if_neg hsearch, if_neg (by exact hsearch)]
    simp [heard, hsearch, hearFrame, State.withMonitor, State.withLink]

theorem heard_link (s : State) : (heard s).link = { s.link with assembler := .waitQuiet } := rfl

/-- Outside SEARCH the hearing of a frame sets frame heard (R48). -/
theorem heard_monitor_rest {s : State} (h : s.monitor.link ≠ .search) :
    (heard s).monitor = { s.monitor with heard := true } := by simp [heard, h]

/-- In SEARCH it ends the search (R41, R42). -/
theorem heard_monitor_search {s : State} (h : s.monitor.link = .search) : (heard s).monitor =
    { s.monitor with heard := true, link := .joined, dwell := none, check := some ⟨.entry, 0⟩ } := by simp [heard, h]

/-- A RESPONSE and a LINE_CHECK go to the Link Monitor alone (R25). -/
theorem deliverByKind_heardOnly {b : List Byte} (hkind : linkKind b = 3 ∨ linkKind b = 4) (s : State) :
    deliverByKind b s = s := by
  rcases hkind with hkind | hkind <;> simp [deliverByKind, hkind]

/-- Only a REPORT brings a report (R58). -/
theorem bringsReport_otherKind {b : List Byte} (hkind : linkKind b ≠ 1) (s : State) : bringsReport b s = false := by
  simp [bringsReport, hkind]

/-- A report with the own number is malformed (R59). -/
theorem bringsReport_ownNumber {b : List Byte} {s : State} (hown : linkSource b = s.loader.station) :
    bringsReport b s = false := by simp [bringsReport, reportMalformed, hown]

end Sys2Proof.Machine
end

section
/-! PROOF. O39: invalid frames, and frames that are only heard or prove the rate. -/

namespace Sys2Proof.Machine

/-- Settles O39: such a frame is delivered to the Link Monitor alone, which in SEARCH adopts the rate and then tests
R47. -/
theorem framesThatAreOnlyHeard : Obligations.FramesThatAreOnlyHeard := by
  refine ⟨fun b s hframe => ⟨fun hvalid => ?_, fun hvalid hkind hlink => ?_⟩, fun b s hframe hvalid hkind hsearch => ?_⟩
  · simp only [exec, execFrameCompletion, completeFrame_invalid hframe hvalid]
    rfl
  · rw [exec, execFrameCompletion, completeFrame_heard hframe hvalid (bringsReport_otherKind (by omega) s), if_neg hlink,
      deliverByKind_heardOnly hkind, heard, if_neg hlink]
  · refine ⟨testAlone (heard s), ?_, ?_⟩
    · rw [exec, execFrameCompletion, completeFrame_heard hframe hvalid (bringsReport_otherKind (by omega) s),
        if_pos hsearch, deliverByKind_heardOnly hkind]
    · have hjoined : (heard s).monitor.link = .joined := by rw [heard_monitor_search hsearch]
      by_cases habsent : ∀ r ∈ s.roster, r.state = .absent
      · rw [testAlone_absent hjoined habsent, if_pos habsent, heard_monitor_search hsearch]
        exact ⟨⟨rfl, rfl⟩, rfl, rfl, rfl⟩
      · rw [testAlone_rest (s := heard s) fun _ => habsent, if_neg habsent, heard_monitor_search hsearch]
        exact ⟨⟨rfl, rfl⟩, rfl, rfl, by rw [heard, if_pos hsearch]⟩

end Sys2Proof.Machine
end

section
/-! PROOF. O40: a report with the own number. -/

namespace Sys2Proof.Machine

/-- A report with the own number makes ALONE, JOINED and MUTED DUPLICATE (R49). -/
theorem deliverByKind_ownNumber {b : List Byte} {s : State} (hkind : linkKind b = 1)
    (hown : linkSource b = s.loader.station) : deliverByKind b s =
      if s.monitor.link = .alone ∨ s.monitor.link = .joined ∨ s.monitor.link = .muted then enterDuplicate s else s := by
  simp [deliverByKind, hkind, deliverReport, hown]

/-- Settles O40: the report is not taken, since it is malformed here, and R47 finds no JOINED after a search. -/
theorem ownNumberReportMakesDuplicate : Obligations.OwnNumberReportMakesDuplicate := by
  intro b s hframe hvalid hkind hown
  have hsending : (heard s).link.sending = none := by rw [heard_link]; exact sending_of_completedFrame hframe
  have hexec : exec .frameCompletion s = .next (completeFrame s) := rfl
  rw [hexec, completeFrame_heard hframe hvalid (bringsReport_ownNumber hown),
    deliverByKind_ownNumber (s := heard s) hkind hown]
  refine ⟨fun hlink => ?_, fun hsearch => ?_, fun hduplicate => ?_⟩
  · have hrest : s.monitor.link ≠ .search := by rcases hlink with h | h | h <;> simp [h]
    have hheard := heard_monitor_rest hrest
    rw [if_neg hrest, if_pos (by simpa only [hheard] using hlink), enterDuplicate_eq hsending, hheard]
    exact ⟨_, rfl, rfl, rfl, rfl, rfl, rfl⟩
  · have hheard := heard_monitor_search hsearch
    rw [if_pos hsearch, if_pos (by simp [hheard]), enterDuplicate_eq hsending, hheard,
      testAlone_rest (by simp)]
    exact ⟨_, rfl, rfl, rfl, rfl, rfl, rfl, rfl⟩
  · have hrest : s.monitor.link ≠ .search := by simp [hduplicate]
    have hheard := heard_monitor_rest hrest
    rw [if_neg hrest, if_neg (by simp [hheard, hduplicate]), heard, if_neg hrest]

end Sys2Proof.Machine
end

section
/-! PROOF. O43: the access delays. -/

namespace Sys2Proof.Machine

/-- Settles O43: five is invertible modulo sixteen, with thirteen as its inverse. -/
theorem accessDelaysVisitEverySlot : Obligations.AccessDelaysVisitEverySlot := by
  intro station attempt
  simp only [startThreshold, accessDelay, Config.idleInterval, Config.accessSlot]
  refine ⟨trivial, by omega, by omega, by omega, fun slot hslot => ?_⟩
  refine ⟨13 * (slot + 15 * (station + 5 * attempt)) % 16, by omega, by omega, ?_⟩
  intro m hm hvisit
  omega

end Sys2Proof.Machine
end

section
/-! PROOF. O44: the frames that are driven, and the attempt start. -/

namespace Sys2Proof.Machine

/-! ## The bytes of a report entry -/

/-- A byte holds a number modulo 256. -/
theorem toByte_mod (n : Nat) : toByte (n % 256) = toByte n := by
  apply BitVec.eq_of_toNat_eq
  simp [toByte]

/-- The five bytes of an entry whose figures fit their fields (R57). -/
theorem encodeEntry_eq {e : ReportEntry} (htenant : e.tenant < 4096) (hvalue : e.value < 1048576) :
    encodeEntry e = [toByte (e.tenant % 256), toByte (e.tenant / 256 + 16 * e.shed.toNat + 32 * e.unmeasured.toNat),
      toByte (e.value % 256), toByte (e.value / 256 % 256), toByte (e.value / 65536)] := by
  have hhigh : e.tenant / 256 % 16 = e.tenant / 256 := by omega
  have hflags (b : Bool) (n : Nat) : (if b then n else 0) = n * b.toNat := by cases b <;> simp
  rw [encodeEntry, toByte_mod, toByte_mod, toByte_mod, hhigh, hflags, hflags,
    show e.value / 65536 % 16 = e.value / 65536 by omega]

/-! ## The candidate (R28) -/

/-- A line check request comes first (R28). -/
theorem candidate_lineCheck {s : State} {c : LineCheck} (hcheck : s.monitor.check = some c)
    (hpermits : permits s.monitor.link .lineCheck = true) : candidate s = some (.lineCheck, c.attempt) := by
  simp [candidate_eq, hcheck, hpermits]

/-- A full slot comes second (R28). -/
theorem candidate_response {s : State} {r : Response} (hcheck : s.monitor.check = none) (hslot : s.link.slot = some r)
    (hpermits : permits s.monitor.link .response = true) : candidate s = some (.response, r.attempt) := by
  simp [candidate_eq, hcheck, hslot, hpermits]

/-- A report comes last (R28). -/
theorem candidate_report {s : State} (hcheck : s.monitor.check = none) (hslot : s.link.slot = none)
    (hpermits : permits s.monitor.link .report = true) : candidate s = reportCandidate s.link := by
  simp [candidate_eq, hcheck, hslot, hpermits]

/-- Outside ALONE and JOINED nothing may be sent but a line check in MUTED (R27). -/
theorem candidate_none {s : State} (hlink : ¬ (s.monitor.link = .alone ∨ s.monitor.link = .joined))
    (hcheck : s.monitor.check = none ∨ s.monitor.link ≠ .muted) : candidate s = none := by
  have hpermits (k : SendKind) : permits s.monitor.link k = true ↔ s.monitor.link = .muted ∧ k = .lineCheck := by
    simp [permits_iff, hlink]
  rcases hcheck with hcheck | hlink
  · simp [candidate_eq, hpermits, hcheck]
  · simp [candidate_eq, hpermits, hlink]

/-! ## The attempt start (R29) -/

theorem startThreshold_le (station attempt : Nat) : startThreshold station attempt ≤ 254 := by
  simp only [startThreshold, accessDelay, Config.idleInterval, Config.accessSlot]
  omega

/-- The exchange of READY with SEND does not look at the receiver (R35). -/
theorem takeReady_passQuiet (n : Nat) (x : Transceiver) : takeReady (passQuiet n x) = { takeReady x with
    assembler := (passQuiet n x).assembler, quiet := (passQuiet n x).quiet, gap := (passQuiet n x).gap } := by
  cases h : x.readyNew <;> simp [takeReady, passQuiet, h]

/-- An attempt start drives the candidate, with the quiet time at its threshold or past it (R29, R35). -/
theorem startAttempt_begins {s : State} {k : SendKind} {n : Nat} (h : candidate s = some (k, n))
    (hquiet : s.link.quiet ≤ 255) : ∃ a g, startAttempt s = { s with
      link := { (if k = .report then takeReady s.link else s.link) with
        sending := some k, quiet := max s.link.quiet (startThreshold s.loader.station n)
        assembler := a, gap := g } } := by
  have hlimit := startThreshold_le s.loader.station n
  have hrise : min Config.quietLimit (s.link.quiet + (startThreshold s.loader.station n - s.link.quiet)) =
      max s.link.quiet (startThreshold s.loader.station n) := by
    simp only [Config.quietLimit]
    omega
  refine ⟨(passQuiet (startThreshold s.loader.station n - s.link.quiet) s.link).assembler,
    (passQuiet (startThreshold s.loader.station n - s.link.quiet) s.link).gap, ?_⟩
  rw [← hrise]
  simp only [startAttempt, h, beginFrame, quietFor, withLink_link]
  split
  · rw [takeReady_passQuiet]
    rfl
  · rfl

/-- Without a candidate no attempt starts (R28). -/
theorem startAttempt_none {s : State} (h : candidate s = none) : startAttempt s = s := by simp [startAttempt, h]

theorem LineFree.exec_attemptStart {s : State} (h : LineFree s) (hcharacter : s.link.inCharacter = []) :
    exec .attemptStart s = .next (startAttempt s) := by
  simp [exec, execAttemptStart, h.betweenCharacters hcharacter, h.completeFrame]

/-- Settles O44: the candidate is the first that is present and permitted, and its threshold is at most 254, below the
limit of the quiet time. -/
theorem attemptStartBeginsTheCandidate : Obligations.AttemptStartBeginsTheCandidate := by
  refine ⟨fun s => ⟨rfl, fun r hslot => ?_, fun f hsend hfits => ?_⟩, fun s hfree hcharacter => ?_,
    fun s hfree hcharacter hquiet => ⟨fun c hcheck hlink => ?_, fun r hcheck hslot hlink => ?_,
      fun r hcheck hslot hnew hready hlink => ?_, fun f hcheck hslot hold hsend hlink => ?_, fun hlink hcheck => ?_,
      fun hcheck hslot hold hsend => ?_⟩⟩
  · simp only [outFrame, hslot, encodeResponse]
    cases r.result <;> rfl
  · have hentries : f.snapshot.entries.flatMap encodeEntry = f.snapshot.entries.flatMap fun e =>
        [toByte (e.tenant % 256), toByte (e.tenant / 256 + 16 * e.shed.toNat + 32 * e.unmeasured.toNat),
          toByte (e.value % 256), toByte (e.value / 256 % 256), toByte (e.value / 65536)] :=
      List.flatMap_congr fun e he => encodeEntry_eq (hfits e he).1 (hfits e he).2
    simp only [outFrame, hsend, encodeReport, hentries]
    rfl
  · simp [exec, execAttemptStart, hfree.withinCharacter hcharacter]
  · have hpermits : permits s.monitor.link .lineCheck = true := by
      rw [permits_iff]
      exact hlink.imp_right fun hmuted => ⟨hmuted, rfl⟩
    obtain ⟨a, g, hbegins⟩ := startAttempt_begins (candidate_lineCheck hcheck hpermits) hquiet
    exact ⟨a, g, by rw [hfree.exec_attemptStart hcharacter, hbegins]; rfl⟩
  · obtain ⟨a, g, hbegins⟩ := startAttempt_begins (candidate_response hcheck hslot (permits_sends hlink _)) hquiet
    exact ⟨a, g, by rw [hfree.exec_attemptStart hcharacter, hbegins]; rfl⟩
  · have hcandidate : candidate s = some (.report, 0) := by
      rw [candidate_report hcheck hslot (permits_sends hlink _), reportCandidate, if_pos hnew]
    obtain ⟨a, g, hbegins⟩ := startAttempt_begins hcandidate hquiet
    refine ⟨a, g, ?_⟩
    rw [hfree.exec_attemptStart hcharacter, hbegins]
    simp [takeReady, hnew, hready]
  · have hcandidate : candidate s = some (.report, f.attempt) := by
      rw [candidate_report hcheck hslot (permits_sends hlink _), reportCandidate, hold, hsend]
      rfl
    obtain ⟨a, g, hbegins⟩ := startAttempt_begins hcandidate hquiet
    refine ⟨a, g, ?_⟩
    rw [hfree.exec_attemptStart hcharacter, hbegins]
    simp [takeReady, hold]
  · rw [hfree.exec_attemptStart hcharacter, startAttempt_none (candidate_none hlink hcheck)]
  · have hcandidate : candidate s = none := by
      simp [candidate_eq, hcheck, hslot, reportCandidate, hold, hsend]
    rw [hfree.exec_attemptStart hcharacter, startAttempt_none hcandidate]

end Sys2Proof.Machine
end

section
/-! SUPPORT. A frame of the own that ends before its last bit: the attempt count, and the bit at which it ends. -/

namespace Sys2Proof.Machine

/-- The attempt count of the frame's kind rises modulo 16, and all else stays (R29, R30, R31). -/
theorem countAttempt_eq (k : SendKind) (s : State) : countAttempt k s = { s with
    link := { s.link with
      slot := if k = .response then s.link.slot.map (fun r => { r with attempt := (r.attempt + 1) % 16 })
        else s.link.slot
      send := if k = .report then s.link.send.map (fun f => { f with attempt := (f.attempt + 1) % 16 })
        else s.link.send }
    monitor := { s.monitor with
      check := if k = .lineCheck then s.monitor.check.map (fun c => { c with attempt := (c.attempt + 1) % 16 })
        else s.monitor.check } } := by
  cases k <;> rfl

theorem drivenBit_iff (s : State) (k : SendKind) (bit : Nat) (level : Bool) : drivenBit s k bit level = true ↔
    bit < 11 * (outFrame s k).length ∧ frameBit (outFrame s k) bit = level := by simp [drivenBit]

end Sys2Proof.Machine
end

section
/-! PROOF. O45: a yield. -/

namespace Sys2Proof.Machine

@[simp] theorem characterSoFar_length (frame : List Byte) (bit : Nat) : (characterSoFar frame bit).length = bit % 11 := by
  simp [characterSoFar]

/-- The levels read of the character in which the frame's bit `bit` stands, by the character's first bit (R26). -/
theorem characterSoFar_eq (frame : List Byte) (bit : Nat) : characterSoFar frame bit =
    (List.range (bit % 11)).map fun i => frameBit frame (bit - bit % 11 + i) := by
  rw [characterSoFar, show bit / 11 * 11 = bit - bit % 11 by omega]

/-- The station stops driving, with the attempt count one higher (R26, R30). -/
theorem stopDriving_eq (k : SendKind) (bit : Nat) (s : State) : stopDriving k bit s = { s with
    link := { s.link with
      sending := none, quiet := 0, gap := 0, assembler := copySoFar (outFrame s k) bit
      inCharacter := characterSoFar (outFrame s k) bit
      slot := if k = .response then s.link.slot.map (fun r => { r with attempt := (r.attempt + 1) % 16 })
        else s.link.slot
      send := if k = .report then s.link.send.map (fun f => { f with attempt := (f.attempt + 1) % 16 })
        else s.link.send }
    monitor := { s.monitor with
      check := if k = .lineCheck then s.monitor.check.map (fun c => { c with attempt := (c.attempt + 1) % 16 })
        else s.monitor.check } } := by
  rw [stopDriving, countAttempt_eq]
  rfl

/-- A yield comes at a bit that was sent recessive (R30). -/
theorem exec_yieldLine {bit : Nat} {s : State} {k : SendKind} (hsending : s.link.sending = some k)
    (hbit : bit < 11 * (outFrame s k).length) (hlevel : frameBit (outFrame s k) bit = true) :
    exec (.yieldLine bit) s = .next (takeLevel false (stopDriving k bit s)) := by
  have hdriven := (drivenBit_iff s k bit true).mpr ⟨hbit, hlevel⟩
  simp [exec, execYieldLine, hsending, hdriven, yieldFrame]

/-- A yield at a stop bit leaves a character with a dominant stop bit (R18, R30). -/
theorem judgeCharacter_yieldedStop {frame : List Byte} {bit : Nat} (h : bit % 11 = 10) :
    judgeCharacter (characterLevels (characterSoFar frame bit ++ [false]) 0) = .error := by
  have hlength : (characterSoFar frame bit).length = 10 := by rw [characterSoFar_length, h]
  apply judgeCharacter_stop
  · have hstart : (characterSoFar frame bit)[0]? = some (frameBit frame (bit / 11 * 11)) := by
      simp [characterSoFar, h]
    rw [characterLevels_level _ _ _ (by omega), if_pos (by simp), List.getD_append _ _ _ _ (by omega),
      List.getD_eq_getElem?_getD, hstart]
    exact frameBit_start frame _
  · rw [characterLevels_level _ _ _ (by omega), if_pos (by simp [hlength]), List.getD_append_right _ _ _ _ hlength.le,
      hlength]
    rfl

/-- Settles O45: before the stop bit the dominant level is one more level of the character in progress; at the stop bit
it makes a framing error. -/
theorem yieldKeepsTheFrame : Obligations.YieldKeepsTheFrame := by
  intro bit s k hsending hbit hlevel yielded searches
  rw [exec_yieldLine hsending hbit hlevel, stopDriving_eq]
  refine ⟨fun hwithin => ?_, fun hstop hno => ?_, fun hstop hsearches => ?_⟩
  · rw [takeLevel_short _ _ (by simpa using hwithin), ← characterSoFar_eq]
    rfl
  · rw [takeLevel_eleventh _ _ (by simp [hstop]), judgeLevels_error _ _ (judgeCharacter_yieldedStop hstop),
      reportCharError_counted]
    · rfl
    · exact hno
  · rw [takeLevel_eleventh _ _ (by simp [hstop]), judgeLevels_error _ _ (judgeCharacter_yieldedStop hstop),
      reportCharError_searches, enterSearch_eq]
    · rfl
    · exact hsearches

end Sys2Proof.Machine
end

section
/-! PROOF. O46: transmit faults, their limit, and failed line checks. -/

namespace Sys2Proof.Machine

/-- The quiet time after a fault counts from the last dominant bit, which every character of the frame begins with
(R19, R31). -/
theorem faultQuiet (frame : List Byte) (bit quiet : Nat) :
    FaultQuiet frame bit quiet (quietAfterFault frame bit quiet) := by
  unfold FaultQuiet quietAfterFault
  by_cases hfirst : bit = 0
  · simp [hfirst]
  · obtain ⟨hle, hrun, hdominant⟩ := recessiveRun_spec frame bit
    have hlt : recessiveRun frame bit < bit := by
      refine lt_of_le_of_ne hle fun hall => ?_
      have hstart := hrun 0 (by omega) (by omega)
      rw [← Nat.zero_mul 11, frameBit_start] at hstart
      cases hstart
    rw [if_neg hfirst, if_neg hfirst]
    exact ⟨hlt, hdominant hlt, hrun⟩

/-- A fault comes at a bit that was sent dominant (R31). -/
theorem exec_transmitFault {bit : Nat} {s : State} {k : SendKind} (hsending : s.link.sending = some k)
    (hbit : bit < 11 * (outFrame s k).length) (hlevel : frameBit (outFrame s k) bit = false) :
    exec (.transmitFault bit) s = .next (faultFrame k bit s) := by
  have hdriven := (drivenBit_iff s k bit false).mpr ⟨hbit, hlevel⟩
  simp [exec, execTransmitFault, hsending, hdriven]

/-- The third consecutive fault is the row TX_FAULT_LIMIT (R44). -/
theorem exec_txFaultLimit {bit : Nat} {s : State} {k : SendKind} (hsending : s.link.sending = some k)
    (hbit : bit < 11 * (outFrame s k).length) (hlevel : frameBit (outFrame s k) bit = false) (hkind : k ≠ .lineCheck)
    (hfaults : s.monitor.faults = 2) : exec (.txFaultLimit bit) s = .next (faultFrame k bit s) := by
  have hdriven := (drivenBit_iff s k bit false).mpr ⟨hbit, hlevel⟩
  simp [exec, execTxFaultLimit, hsending, hdriven, hkind, hfaults, Config.faultLimit]

/-- A fault on a response or a report is counted (R44). -/
theorem faultFrame_counted {k : SendKind} (hkind : k ≠ .lineCheck) (bit : Nat) (s : State) :
    faultFrame k bit s = countFault (countAttempt k (dropFrame (outFrame s k) bit s)) := by
  cases k
  case lineCheck => exact absurd rfl hkind
  all_goals rfl

/-- Below the limit the count rises (R44). -/
theorem countFault_below {s : State} (h : s.monitor.faults < 2) :
    countFault s = s.withMonitor { s.monitor with faults := s.monitor.faults + 1 } := by
  refine if_neg ?_
  simp only [withMonitor_monitor, Config.faultLimit]
  omega

/-- The third fault takes the link state to MUTED (R44). -/
theorem countFault_limit {s : State} (h : s.monitor.faults = 2) :
    countFault s = enterMuted (s.withMonitor { s.monitor with faults := s.monitor.faults + 1 }) := by
  refine if_pos ?_
  simp only [withMonitor_monitor, Config.faultLimit]
  omega

theorem check_of_kind {s : State} {x : CheckKind} (h : s.monitor.check.map LineCheck.kind = some x) :
    ∃ n, s.monitor.check = some ⟨x, n⟩ := by
  obtain ⟨c, hcheck, rfl⟩ := Option.map_eq_some_iff.mp h
  exact ⟨c.attempt, hcheck⟩

/-- What a fault leaves that takes the link state to MUTED: nothing waits, and no line check is outstanding (R36, R42,
R44, R45). -/
theorem faultFrame_muted {k : SendKind} {bit : Nat} {s : State}
    (h : k ≠ .lineCheck ∧ s.monitor.faults = 2 ∨ k = .lineCheck ∧ s.monitor.check.map LineCheck.kind = some .entry) :
    faultFrame k bit s = raise .txFault { s with
      link := { s.link with
        sending := none, assembler := .waitQuiet, inCharacter := [], gap := 0
        quiet := quietAfterFault (outFrame s k) bit s.link.quiet, slot := none, send := none }
      monitor := { s.monitor with link := .muted, faults := 0, countdown := 64, check := none } } := by
  rcases h with ⟨hkind, hfaults⟩ | ⟨rfl, hentry⟩
  · rw [faultFrame_counted hkind, countAttempt_eq, countFault_limit (by exact hfaults), enterMuted_eq rfl]
    rfl
  · obtain ⟨n, hcheck⟩ := check_of_kind hentry
    have hfailed : faultFrame .lineCheck bit s = enterMuted (dropFrame (outFrame s .lineCheck) bit s) := by
      simp only [faultFrame, checkFailed, dropFrame_monitor, hcheck]
    rw [hfailed, enterMuted_eq rfl]
    rfl

/-- Settles O46: the third fault and the failed entry check lead to MUTED alike. -/
theorem faultsAreCountedToMuted : Obligations.FaultsAreCountedToMuted := by
  refine ⟨fun bit s k hsending hbit hlevel hkind hfaults => ⟨_, faultQuiet _ bit _, ?_⟩,
    fun bit s k hsending hbit hlevel => ⟨fun hmuted => ?_, fun hkind hperiodic => ⟨_, faultQuiet _ bit _, ?_⟩⟩⟩
  · rw [exec_transmitFault hsending hbit hlevel, faultFrame_counted hkind, countAttempt_eq,
      countFault_below (by exact hfaults)]
    simp [dropFrame, State.withMonitor, hkind]
  · refine ⟨faultFrame k bit s, _, exec_transmitFault hsending hbit hlevel, fun hkind => ?_, faultQuiet _ bit _, ?_⟩
    · have hfaults : s.monitor.faults = 2 := by simpa [hkind] using hmuted
      exact exec_txFaultLimit hsending hbit hlevel hkind hfaults
    · rw [faultFrame_muted hmuted]
      exact ⟨rfl, rfl, rfl, rfl, rfl, rfl⟩
  · obtain ⟨n, hcheck⟩ := check_of_kind hperiodic
    subst hkind
    rw [exec_transmitFault hsending hbit hlevel]
    simp only [faultFrame, checkFailed, dropFrame_monitor, hcheck]
    rfl

end Sys2Proof.Machine
end

section
/-! PROOF. O47: a success. -/

namespace Sys2Proof.Machine

/-- Settles O47: a passed periodic check finds ALONE or JOINED by the roster, and neither withdraws anything. -/
theorem successEndsTheFrame : Obligations.SuccessEndsTheFrame := by
  intro s quieted
  have hexec {k : SendKind} (hsending : s.link.sending = some k) :
      exec .transmitSuccess s = .next (sentFrame k s) := by simp [exec, execTransmitSuccess, hsending]
  refine ⟨fun hsending => hexec hsending, fun hsending => hexec hsending, fun hsending hentry => ?_,
    fun hsending hperiodic => ?_, fun hnone => by simp [exec, execTransmitSuccess, hnone]⟩
  · obtain ⟨n, hcheck⟩ := check_of_kind hentry
    rw [hexec hsending]
    simp only [sentFrame, checkPassed, withLink_monitor, hcheck]
    rfl
  · obtain ⟨n, hcheck⟩ := check_of_kind hperiodic
    rw [hexec hsending]
    simp only [sentFrame, checkPassed, withLink_monitor, hcheck, allAbsent_iff, enterAlone_eq,
      setLinkState_sends (.inr rfl)]
    by_cases habsent : ∀ r ∈ s.roster, r.state = .absent
    · rw [if_pos (by exact habsent), if_pos habsent]
      rfl
    · rw [if_neg (by exact habsent), if_neg habsent]
      rfl

end Sys2Proof.Machine
end

section
/-! PROOF. O48: the rate search from dwell to dwell. -/

namespace Sys2Proof.Machine

/-- Before the fourth dwell the search goes on at the next rate of the sweep (R39, R40). -/
theorem nextDwell_next {s : State} {r : Rate} (hposition : s.monitor.searchPosition < 4)
    (hrate : (sweep (defaultRate s))[s.monitor.searchPosition]? = some r) : nextDwell s = { s with
      link := { s.link with assembler := .waitQuiet, inCharacter := [], quiet := 0, gap := 0 }
      monitor := { s.monitor with
        rate := some r, searchPosition := s.monitor.searchPosition + 1, dwell := some 6000 } } := by
  have hget : (sweep (defaultRate s)).getD s.monitor.searchPosition (defaultRate s) = r := by
    rw [List.getD_eq_getElem?_getD, hrate]
    rfl
  simp only [nextDwell, if_pos hposition, hget]
  rfl

/-- The fourth dwell ends in ALONE at the default rate (R40, R42). -/
theorem nextDwell_last {s : State} (hposition : s.monitor.searchPosition = 4) : nextDwell s = { s with
    link := { s.link with assembler := .waitQuiet, inCharacter := [], quiet := 0, gap := 0 }
    monitor := { s.monitor with
      link := .alone, rate := some (defaultRate s), dwell := none, check := some ⟨.entry, 0⟩
      charErrors := 0, heard := false } } := by
  have hno : ¬ s.monitor.searchPosition < 4 := by omega
  simp only [nextDwell, if_neg hno, enterAlone_eq]
  rfl

theorem sweep_length (d : Rate) : (sweep d).length = 4 := by cases d <;> rfl

/-- Settles O48: the sweep has four rates, so that a position with a next rate is before the fourth dwell. -/
theorem dwellExpiryMovesTheSweep : Obligations.DwellExpiryMovesTheSweep := by
  intro s d hdefault quieted order
  have horder : order = sweep d := by cases d <;> rfl
  refine ⟨fun hsearch hdwell _ => ?_, fun hlink => by simp [exec, execDwellExpiry, hlink]⟩
  have hexec : exec .dwellExpiry s = .next (nextDwell s) := by
    simp [exec, execDwellExpiry, hsearch, Option.isSome_iff_ne_none, hdwell]
  rw [hexec]
  refine ⟨fun r hrate => ?_, fun hlast => ?_⟩
  · rw [horder, ← hdefault] at hrate
    have hposition := (List.getElem?_eq_some_iff.mp hrate).1
    rw [nextDwell_next (by rwa [sweep_length] at hposition) hrate]
  · rw [nextDwell_last hlast, ← hdefault]
    rfl

end Sys2Proof.Machine
end

section
/-! SUPPORT. What a period close, the coil's completions and the gateway's commands leave of the tenants' overflow masks:
R62 has a mask change by reports and expiries alone. -/

namespace Sys2Proof.Machine

/-- The tenants carry the same ids in `t` as in `s`, and every mask of `t` stood under its id in `s`. -/
structure MasksKept (s t : State) : Prop where
  ids : tenantIds t = tenantIds s
  masks : ∀ u ∈ t.recon.tenants, ∃ v ∈ s.recon.tenants, v.id = u.id ∧ v.overflow = u.overflow

namespace MasksKept

variable {s t u : State}

theorem refl : MasksKept s s := ⟨rfl, fun r hr => ⟨r, hr, rfl, rfl⟩⟩

theorem trans (h : MasksKept s t) (g : MasksKept t u) : MasksKept s u where
  ids := g.ids.trans h.ids
  masks r hr := by
    obtain ⟨r', hr', hid', hmask'⟩ := g.masks r hr
    obtain ⟨r'', hr'', hid'', hmask''⟩ := h.masks r' hr'
    exact ⟨r'', hr'', hid''.trans hid', hmask''.trans hmask'⟩

/-- An operation that leaves the tenant records. -/
theorem frames (h : MasksKept s t) (htenants : u.recon.tenants = t.recon.tenants := by simp) : MasksKept s u :=
  h.trans ⟨by simp [tenantIds, htenants], fun r hr => ⟨r, htenants ▸ hr, rfl, rfl⟩⟩

/-- A change of the record of tenant `id` into records that carry its id and a mask that stands under it. -/
theorem replace (h : MasksKept s t) {id : Nat} {f : Tenant → Tenant}
    (hf : ∀ r ∈ t.recon.tenants, r.id = id →
      (f r).id = id ∧ ∃ v ∈ t.recon.tenants, v.id = id ∧ v.overflow = (f r).overflow) :
    MasksKept s (Machine.setTenant id f t) := by
  refine h.trans ⟨setTenant_map id f t fun r hr hid => (hf r hr hid).1.trans hid.symm, fun r hr => ?_⟩
  simp only [Machine.setTenant, withRecon_recon, List.mem_map] at hr
  obtain ⟨r', hr', rfl⟩ := hr
  split
  · next hid =>
    obtain ⟨hid', v, hv, hvid, hmask⟩ := hf r' hr' hid
    exact ⟨v, hv, hvid.trans hid'.symm, hmask⟩
  · exact ⟨r', hr', rfl, rfl⟩

theorem setTenant (h : MasksKept s t) {id : Nat} {f : Tenant → Tenant}
    (hf : ∀ r, (f r).id = r.id ∧ (f r).overflow = r.overflow := by exact fun _ => ⟨rfl, rfl⟩) :
    MasksKept s (setTenant id f t) :=
  h.replace fun r hr hid => ⟨(hf r).1.trans hid, r, hr, hid, (hf r).2.symm⟩

/-! ## The work of a close -/

theorem endExcursion (h : MasksKept s t) (r : Tenant) : MasksKept s (endExcursion r t) :=
  (h.setTenant (id := r.id) (f := fun u => { u with standing := standingByDemand u })).frames (by simp [Machine.endExcursion])

theorem enterCurtail (h : MasksKept s t) {id n : Nat} : MasksKept s (enterCurtail id n t) :=
  (h.setTenant (id := id) (f := fun u => { u with standing := .curtail, settle := n })).frames (by simp [Machine.enterCurtail])

theorem runRound (h : MasksKept s t) {id : Nat} : MasksKept s (runRound id t) :=
  (h.frames : MasksKept s (shedRound id t)).setTenant

theorem attemptRestore (h : MasksKept s t) {id : Nat} : MasksKept s (attemptRestore id t) :=
  (h.frames : MasksKept s (restoreStep id t)).setTenant

theorem recoverDeparture (h : MasksKept s t) {id : Nat} : MasksKept s (recoverDeparture id t) := by
  unfold Machine.recoverDeparture
  split
  · exact h
  · split_ifs
    · exact h.setTenant
    · exact (h.setTenant (id := id) (f := fun u => { u with standing := standingByDemand u })).frames
    · exact h

theorem applyStanding (h : MasksKept s t) {c : StandingCase} {r : Tenant} : MasksKept s (applyStanding c r t) := by
  cases c
  case burst => exact h.enterCurtail.runRound
  case straightOn | graceEnd => exact h.setTenant.enterCurtail.runRound
  case endOfExcess | releaseBare => exact h.endExcursion _
  case round => exact h.runRound
  case renewedExcess => exact h.enterCurtail
  case restoreAttempt => exact h.attemptRestore
  all_goals exact h.setTenant

theorem tenantFigures (h : MasksKept s t) (id : Nat) : MasksKept s (tenantFigures id t) := by
  unfold Machine.tenantFigures
  split
  · exact h
  · next r hr =>
    have hfigures : MasksKept s (Machine.setTenant id (fun _ => closeFigures t r) t) :=
      by
      have hid := findTenant_id hr
      exact h.replace fun _ _ _ => ⟨hid, r, findTenant_mem hr, hid, rfl⟩
    simp only
    split
    · exact hfigures
    · split_ifs <;> exact hfigures.frames

theorem tenantStanding (h : MasksKept s t) (id : Nat) : MasksKept s (tenantStanding id t) := by
  unfold Machine.tenantStanding
  split
  · exact h
  · split
    · exact h
    · exact h.applyStanding

theorem tenantDeparture (h : MasksKept s t) (id : Nat) : MasksKept s (tenantDeparture id t) := by
  unfold Machine.tenantDeparture
  split
  · exact h
  · next r _ =>
    split
    · exact (h.endExcursion r).frames
    · exact h

theorem evaluateTenant (h : MasksKept s t) {id : Nat} : MasksKept s (evaluateTenant id t) := by
  unfold Machine.evaluateTenant
  split
  · exact (h.tenantStanding id).tenantDeparture id
  · exact h.tenantStanding id

theorem closeTenant (h : MasksKept s t) {id : Nat} : MasksKept s (closeTenant t id) := (h.tenantFigures id).evaluateTenant

theorem finishTenant (h : MasksKept s t) {x : CloseStage} {id : Nat} : MasksKept s (finishTenant x id t) := by
  cases x
  · exact h.closeTenant
  · exact h.evaluateTenant
  · exact h.tenantDeparture id

theorem finishClose (h : MasksKept s t) : MasksKept s (finishClose t) := by
  unfold Machine.finishClose
  split
  · exact h
  · exact h.frames
  · next x id rest _ =>
    have hwork : MasksKept s (rest.foldl Machine.closeTenant (Machine.finishTenant x id t)) :=
      List.foldlRecOn _ _ h.finishTenant fun _ h _ _ => h.closeTenant
    exact hwork.frames

theorem closePeriod (h : MasksKept s t) : MasksKept s (closePeriod t) :=
  (h.finishClose.frames : MasksKept s (beginClose (Machine.finishClose t))).finishClose

theorem workOn (h : MasksKept s t) : MasksKept s (workOn t) := by
  unfold Machine.workOn
  split
  · exact h
  · exact h.frames
  · next id _ _ => exact (h.tenantFigures id).frames
  · next id _ _ => exact (h.tenantStanding id).frames
  · next id _ _ => exact (h.tenantDeparture id).frames

/-! ## The coil's completions and the gateway's commands -/

theorem lockOutlet (h : MasksKept s t) (n : Nat) : MasksKept s (lockOutlet n t) := by
  simp only [Machine.lockOutlet]
  split
  · exact (h.frames : MasksKept s (changeFlags n _ t)).recoverDeparture
  · exact h.frames

theorem verifyOpen (h : MasksKept s t) : MasksKept s (verifyOpen t) := by
  unfold Machine.verifyOpen
  split
  · split
    · exact h.frames
    · simp only [stuckResult]
      split
      · exact (h.frames : MasksKept s (completeJob _ _ (raise .relayFault (setRelayOutlet _ _ t)))).recoverDeparture
      · exact h.frames
  · exact h

theorem commandEffect (h : MasksKept s t) {code : Byte} {arg : List Byte} : MasksKept s (commandEffect code arg t) := by
  unfold Machine.commandEffect
  split
  · unfold queryStatusEffect
    split
    · exact h.finishClose.frames
    · exact h.frames
  · unfold queryOutletEffect
    split
    · exact h.finishClose.frames
    · exact h.frames
  · unfold lockOffEffect
    split
    · exact h.frames
    · next n _ =>
      split
      · exact h.frames
      · exact (h.finishClose.lockOutlet n).frames
  · unfold unlockEffect
    split
    · exact h.frames
    · exact h.finishClose.frames
  · unfold clearFaultEffect
    split
    · exact h.frames
    · split
      · exact h.finishClose.frames
      · exact h.frames
  all_goals exact h.frames

end MasksKept

end Sys2Proof.Machine
end

section
/-! SUPPORT. Stations in a set, records of the roster, and the victim of a full table (R50, R62, R66). -/

namespace Sys2Proof.Machine

/-! ## Sets of stations -/

/-- The set after a station has been added. -/
theorem hasStation_addStation (m : StationSet) {n : Nat} (hn : 1 ≤ n) (k : Nat) :
    hasStation (addStation m n) k = (hasStation m k || decide (k = n ∧ n ≤ 16)) := by
  by_cases hk : 1 ≤ k
  · have hplace : n - 1 = k - 1 ↔ k = n := by omega
    by_cases h16 : n ≤ 16
    · simp [hasStation, addStation, hk, hplace, h16, show n - 1 < 16 by omega]
    · simp [hasStation, addStation, hk, h16, show ¬ n - 1 < 16 by omega]
  · have hother : k ≠ n := by omega
    simp [hasStation, hk, hother]

/-- The set after a station has been taken out. -/
theorem hasStation_dropStation (m : StationSet) {n : Nat} (hn : 1 ≤ n) (k : Nat) :
    hasStation (dropStation m n) k = (hasStation m k && decide (k ≠ n)) := by
  by_cases hk : 1 ≤ k
  · have hplace : n - 1 = k - 1 ↔ k = n := by omega
    by_cases h16 : k ≤ 16
    · by_cases hkn : k = n
      · subst hkn
        simp [hasStation, dropStation, hk, show k - 1 < 16 by omega]
      · simp [hasStation, dropStation, hk, hplace, hkn]
        omega
    · simp [hasStation, dropStation, BitVec.getLsbD_of_ge _ _ (show 16 ≤ k - 1 by omega)]
  · simp [hasStation, hk]

/-- A set from which a station has been taken out does not hold it. -/
@[simp] theorem hasStation_dropStation_self (m : StationSet) {n : Nat} (hn : 1 ≤ n) :
    hasStation (dropStation m n) n = false := by simp [hasStation_dropStation m hn]

/-- Taking a station out adds none. -/
theorem hasStation_dropStation_of (m : StationSet) {n k : Nat} (hn : 1 ≤ n) (h : hasStation m k = false) :
    hasStation (dropStation m n) k = false := by simp [hasStation_dropStation m hn, h]

theorem dropStation_dropStation (m : StationSet) (n : Nat) : dropStation (dropStation m n) n = dropStation m n := by
  simp only [dropStation, BitVec.and_assoc, BitVec.and_self]

/-! ## The roster -/

/-- The roster's records after one has been replaced. -/
theorem rosterRecord_setRosterRecord {n m : Nat} (r : RosterRecord) {s : State} (hn : 1 ≤ n) (hm : 1 ≤ m)
    (hlength : n ≤ s.roster.length) :
    rosterRecord (setRosterRecord n r s) m = if m = n then r else rosterRecord s m := by
  simp only [rosterRecord, setRosterRecord, withRoster_roster, List.getD_eq_getElem?_getD, List.getElem?_set]
  by_cases h : m = n
  · subst h
    simp [show m - 1 < s.roster.length by omega]
  · simp [h, show n - 1 ≠ m - 1 by omega]

@[simp] theorem setRosterRecord_length (n : Nat) (r : RosterRecord) (s : State) :
    (setRosterRecord n r s).roster.length = s.roster.length := by simp [setRosterRecord]

/-- The roster's records depend on the roster alone. -/
theorem rosterRecord_congr {s t : State} (h : t.roster = s.roster) (n : Nat) : rosterRecord t n = rosterRecord s n := by
  simp [rosterRecord, h]

/-- A record is due to go LATE exactly where R52 says. -/
theorem lateDue_iff (s : State) (n : Nat) : lateDue s n = true ↔ 1 ≤ n ∧ n ≤ 16 ∧
    (rosterRecord s n).state = .live ∧ s.loader.params.stale * (rosterRecord s n).period < (rosterRecord s n).age := by
  simp [lateDue]

/-- A record is due to expire exactly where R53 says. -/
theorem expiryDue_iff (s : State) (n : Nat) : expiryDue s n = true ↔ 1 ≤ n ∧ n ≤ 16 ∧
    (rosterRecord s n).state = .late ∧ s.loader.params.expire * (rosterRecord s n).period < (rosterRecord s n).age := by
  simp [expiryDue]

/-! ## The tenants -/

/-- A tenant is local where a record carries its id (R63). -/
theorem mem_tenantIds {s : State} {id : Nat} : id ∈ tenantIds s ↔ ∃ r ∈ s.recon.tenants, r.id = id := List.mem_map

@[simp] theorem tenantIds_setOverflowBit (n id : Nat) (s : State) : tenantIds (setOverflowBit n id s) = tenantIds s :=
  setTenant_map id _ s fun _ _ _ => rfl

@[simp] theorem tenantIds_clearOverflowBit (n id : Nat) (s : State) :
    tenantIds (clearOverflowBit n id s) = tenantIds s := setTenant_map id _ s fun _ _ _ => rfl

@[simp] theorem tenantIds_removeEntry (src id : Nat) (s : State) : tenantIds (removeEntry src id s) = tenantIds s := rfl

/-! ## The entry of a pair (R62) -/

/-- No entry is held for a pair. -/
theorem findEntry_eq_none {s : State} {src id : Nat} :
    findEntry s src id = none ↔ ∀ x ∈ s.table, ¬ (x.source = src ∧ x.tenant = id) := by
  simp [findEntry, List.find?_eq_none]

/-- The entry that is held for a pair is one of the table's. -/
theorem findEntry_some {s : State} {src id : Nat} {x : Entry} (h : findEntry s src id = some x) :
    x ∈ s.table ∧ x.source = src ∧ x.tenant = id := by
  have hpair := List.find?_some h
  simp only [Bool.and_eq_true, beq_iff_eq] at hpair
  exact ⟨List.mem_of_find?_eq_some h, hpair⟩

/-! ## The victim (R66) -/

/-- The better of a victim found so far and one more entry (R66). -/
def betterVictim (s : State) (best : Option Entry) (e : Entry) : Option Entry :=
  match best with
  | none => some e
  | some b => if victimBefore s e b then some e else some b

theorem victim_eq (s : State) : victim s =
    (s.table.filter fun e => decide ((rosterRecord s e.source).state = .late)).foldl (betterVictim s) none := by
  rfl

/-- What is found is an entry among those looked at, or what had been found before. -/
theorem foldl_betterVictim_mem (s : State) {l : List Entry} {best : Option Entry} {v : Entry}
    (h : l.foldl (betterVictim s) best = some v) : v ∈ l ∨ best = some v := by
  induction l generalizing best with
  | nil => exact .inr h
  | cons e l ih =>
    rcases ih h with hmem | hbest
    · exact .inl (.tail _ hmem)
    · unfold betterVictim at hbest
      split at hbest
      · exact .inl (Option.some.inj hbest ▸ .head _)
      · split at hbest
        · exact .inl (Option.some.inj hbest ▸ .head _)
        · exact .inr hbest

/-- The victim is an entry whose source is LATE (R66). -/
theorem victim_some {s : State} {v : Entry} (h : victim s = some v) :
    v ∈ s.table ∧ (rosterRecord s v.source).state = .late := by
  rw [victim_eq] at h
  rcases foldl_betterVictim_mem s h with hmem | hnone
  · simpa using hmem
  · cases hnone

end Sys2Proof.Machine
end

section
/-! SUPPORT. The rule of the Contribution Table (R50, R52, R62) through the operations of the table. -/

namespace Sys2Proof.Machine

/-- An entry may stand in the table of `s`: its source is a peer that is LIVE or LATE, its tenant is local, and its value
is within the limit (R50, R52, R62). -/
def EntryRule (s : State) (e : Entry) : Prop :=
  1 ≤ e.source ∧ e.source ≤ 16 ∧ e.source ≠ s.loader.station ∧ (rosterRecord s e.source).state ≠ .absent ∧
    (∃ t ∈ s.recon.tenants, t.id = e.tenant) ∧ e.value ≤ 960000

/-- A report may be taken from `src`: a peer whose record is LIVE or LATE (R58, R59). -/
def PeerKnown (s : State) (src : Nat) : Prop :=
  1 ≤ src ∧ src ≤ 16 ∧ src ≠ s.loader.station ∧ (rosterRecord s src).state ≠ .absent

/-- The order of two entries of different pairs (R62). -/
def PairBefore (a b : Entry) : Prop := a.source < b.source ∨ (a.source = b.source ∧ a.tenant < b.tenant)

/-- An entry of a new pair joins the table in its order (R62). -/
theorem pairwise_orderedInsert {x : Entry} {l : List Entry} (h : l.Pairwise PairBefore)
    (hnew : ∀ e ∈ l, ¬ (e.source = x.source ∧ e.tenant = x.tenant)) :
    (l.orderedInsert (fun a b => entryBefore a b = true) x).Pairwise PairBefore := by
  induction l with
  | nil => simp
  | cons y l ih =>
    obtain ⟨hy, hl⟩ := List.pairwise_cons.mp h
    have hxy := hnew y (.head _)
    have hle : entryBefore x y = true ↔ x.source < y.source ∨ (x.source = y.source ∧ x.tenant ≤ y.tenant) := by
      simp [entryBefore]
    rw [List.orderedInsert]
    split
    · next hxle =>
      have hfirst : PairBefore x y := by
        have hcases := hle.mp hxle
        unfold PairBefore
        omega
      refine List.pairwise_cons.mpr ⟨fun z hz => ?_, h⟩
      rcases List.mem_cons.mp hz with rfl | hz
      · exact hfirst
      · have hyz := hy z hz
        unfold PairBefore at *
        omega
    · next hxle =>
      refine List.pairwise_cons.mpr ⟨fun z hz => ?_, ih hl fun e he => hnew e (.tail _ he)⟩
      rcases (List.mem_orderedInsert _).mp hz with rfl | hz
      · have hcases := mt hle.mpr hxle
        unfold PairBefore
        omega
      · exact hy z hz

namespace TableRule

variable {s t : State}

/-- The rule reads of the roster the states alone, of the tenants their ids and masks, and the station number. -/
theorem of_masks (h : TableRule s) (hmasks : MasksKept s t)
    (hroster : t.roster.map RosterRecord.state = s.roster.map RosterRecord.state := by simp)
    (htable : t.table = s.table := by simp) (hloader : t.loader = s.loader := by simp) : TableRule t := by
  have hstate (n : Nat) : (rosterRecord t n).state = (rosterRecord s n).state := by
    have hmap (u : State) : (rosterRecord u n).state = (u.roster.map RosterRecord.state).getD (n - 1) .absent := by
      simp only [rosterRecord, RosterRecord.blank, List.getD_eq_getElem?_getD, List.getElem?_map]
      cases u.roster[n - 1]? <;> rfl
    rw [hmap, hmap, hroster]
  have hlength : t.roster.length = s.roster.length := by simpa using congrArg List.length hroster
  refine ⟨hlength.trans h.records, by rw [hstate, hloader]; exact h.own, htable ▸ h.limit, htable ▸ h.order,
    fun e he => ?_, fun e he r hr hid => ?_, hloader ▸ h.station⟩
  · obtain ⟨hlow, hhigh, hpeer, hheard, hlocal, hvalue⟩ := h.entries e (htable ▸ he)
    rw [← mem_tenantIds, ← hmasks.ids, mem_tenantIds] at hlocal
    exact ⟨hlow, hhigh, by rwa [hloader], by rwa [hstate], hlocal, hvalue⟩
  · obtain ⟨v, hv, hvid, hmask⟩ := hmasks.masks r hr
    rw [← hmask]
    exact h.overflow e (htable ▸ he) v hv (hvid.trans hid)

/-- An operation that leaves the blocks concerned as they were. -/
theorem frames (h : TableRule s) (hroster : t.roster = s.roster := by simp) (htable : t.table = s.table := by simp)
    (htenants : t.recon.tenants = s.recon.tenants := by simp) (hloader : t.loader = s.loader := by simp) :
    TableRule t := h.of_masks (MasksKept.refl.frames htenants) (by rw [hroster]) htable hloader

/-! ## The Contribution Table -/

/-- Entries are taken out of the table. -/
theorem filterTable (h : TableRule s) (p : Entry → Bool) : TableRule (s.withTable (s.table.filter p)) where
  records := h.records
  own := h.own
  limit := (List.length_filter_le _ _).trans h.limit
  order := h.order.filter p
  entries e he := h.entries e (List.mem_of_mem_filter he)
  overflow e he := h.overflow e (List.mem_of_mem_filter he)
  station := h.station

/-- Values and flags of entries change within the limit. -/
theorem mapTable (h : TableRule s) {f : Entry → Entry}
    (hf : ∀ e, (f e).source = e.source ∧ (f e).tenant = e.tenant ∧ (e.value ≤ 960000 → (f e).value ≤ 960000)) :
    TableRule (s.withTable (s.table.map f)) where
  records := h.records
  own := h.own
  limit := by simpa using h.limit
  order := by
    refine List.pairwise_map.mpr (h.order.imp fun {a b} hab => ?_)
    obtain ⟨ha, ha', -⟩ := hf a
    obtain ⟨hb, hb', -⟩ := hf b
    rwa [ha, ha', hb, hb']
  entries e he := by
    obtain ⟨x, hx, rfl⟩ := List.mem_map.mp he
    obtain ⟨hsource, htenant, hvalue⟩ := hf x
    obtain ⟨hlow, hhigh, hpeer, hheard, hlocal, hlimit⟩ := h.entries x hx
    rw [hsource, htenant]
    exact ⟨hlow, hhigh, hpeer, hheard, hlocal, hvalue hlimit⟩
  overflow e he r hr hid := by
    obtain ⟨x, hx, rfl⟩ := List.mem_map.mp he
    obtain ⟨hsource, htenant, -⟩ := hf x
    rw [hsource]
    exact h.overflow x hx r hr (hid.trans htenant)
  station := h.station

/-- An entry of a new pair joins a table with room. -/
theorem addEntry (h : TableRule s) {x : Entry} (hroom : s.table.length < 128)
    (hnew : ∀ e ∈ s.table, ¬ (e.source = x.source ∧ e.tenant = x.tenant)) (hx : EntryRule s x)
    (hmask : ∀ r ∈ s.recon.tenants, r.id = x.tenant → hasStation r.overflow x.source = false) :
    TableRule (addEntry x s) where
  records := h.records
  own := h.own
  limit := by
    simp only [Machine.addEntry, withTable_table, List.orderedInsert_length]
    omega
  order := pairwise_orderedInsert h.order hnew
  entries e he := by
    rcases (List.mem_orderedInsert _).mp he with rfl | he
    · exact hx
    · exact h.entries e he
  overflow e he := by
    rcases (List.mem_orderedInsert _).mp he with rfl | he
    · exact hmask
    · exact h.overflow e he
  station := h.station

/-- The masks of a tenant change without a bit beside its entry. -/
theorem setMask (h : TableRule s) {id : Nat} {f : StationSet → StationSet}
    (hf : ∀ e ∈ s.table, e.tenant = id → ∀ m, hasStation m e.source = false → hasStation (f m) e.source = false) :
    TableRule (setTenant id (fun r => { r with overflow := f r.overflow }) s) where
  records := h.records
  own := h.own
  limit := h.limit
  order := h.order
  entries e he := by
    have hids := setTenant_map (g := Tenant.id) id (fun r => { r with overflow := f r.overflow }) s fun _ _ _ => rfl
    obtain ⟨hlow, hhigh, hpeer, hheard, hlocal, hlimit⟩ := h.entries e he
    rw [← mem_tenantIds, tenantIds, ← hids] at hlocal
    exact ⟨hlow, hhigh, hpeer, hheard, mem_tenantIds.mp hlocal, hlimit⟩
  overflow e he r hr hid := by
    obtain ⟨r', hr', rfl⟩ := List.mem_map.mp hr
    split at hid
    · next hown =>
      rw [if_pos hown]
      exact hf e he (hid.symm.trans hown) _ (h.overflow e he r' hr' hid)
    · next hother =>
      rw [if_neg hother]
      exact h.overflow e he r' hr' hid
  station := h.station

theorem clearOverflowBit (h : TableRule s) {n : Nat} (hn : 1 ≤ n) (id : Nat) : TableRule (clearOverflowBit n id s) :=
  h.setMask fun _ _ _ m hm => hasStation_dropStation_of m hn hm

theorem setOverflowBit (h : TableRule s) {n id : Nat} (hn : 1 ≤ n)
    (hfree : ∀ e ∈ s.table, ¬ (e.source = n ∧ e.tenant = id)) : TableRule (setOverflowBit n id s) := by
  refine h.setMask (f := (addStation · n)) fun e he htenant m hm => ?_
  have hother : e.source ≠ n := fun hsource => hfree e he ⟨hsource, htenant⟩
  simp [hasStation_addStation m hn, hm, hother]

theorem removeEntry (h : TableRule s) (src id : Nat) : TableRule (removeEntry src id s) := h.filterTable _

/-! ## A taken report -/

theorem updateEntry (h : TableRule s) {src : Nat} (hsrc : 1 ≤ src) (e : ReportEntry) : TableRule (updateEntry src e s) := by
  refine (h.mapTable fun x => ?_).clearOverflowBit hsrc _
  split
  · exact ⟨rfl, rfl, fun _ => min_le_left _ _⟩
  · exact ⟨rfl, rfl, id⟩

theorem createEntry (h : TableRule s) {src : Nat} {e : ReportEntry} {r : Tenant} (hsrc : PeerKnown s src)
    (hlocal : e.tenant ∈ tenantIds s) (hroom : s.table.length < 128)
    (hnew : ∀ x ∈ s.table, ¬ (x.source = src ∧ x.tenant = e.tenant)) : TableRule (createEntry src e r s) := by
  obtain ⟨hlow, hhigh, hpeer, hheard⟩ := hsrc
  have hcleared := h.clearOverflowBit hlow e.tenant
  have hadded (x : Entry) (hsource : x.source = src) (htenant : x.tenant = e.tenant) (hvalue : x.value ≤ 960000) :
      TableRule (Machine.addEntry x (Machine.clearOverflowBit src e.tenant s)) := by
    have hlocal' : x.tenant ∈ tenantIds (Machine.clearOverflowBit src e.tenant s) := by simpa [htenant] using hlocal
    refine hcleared.addEntry (by simpa using hroom) (by simpa [hsource, htenant] using hnew)
      ⟨hsource ▸ hlow, hsource ▸ hhigh, hsource ▸ hpeer, by rw [hsource]; exact hheard, mem_tenantIds.mp hlocal',
        hvalue⟩
      fun r hr hid => ?_
    obtain ⟨r', hr', rfl⟩ := List.mem_map.mp hr
    have hown : r'.id = e.tenant := by
      split at hid <;> exact hid.trans htenant
    rw [if_pos hown, hsource]
    exact hasStation_dropStation_self _ hlow
  simp only [Machine.createEntry]
  split <;> exact (hadded _ rfl rfl (min_le_left _ _)).frames (by rfl) (by rfl) (by rfl) (by rfl)

theorem applyToFullTable (h : TableRule s) {src : Nat} {e : ReportEntry} {r : Tenant} (hsrc : PeerKnown s src)
    (hlocal : e.tenant ∈ tenantIds s)
    (hnew : ∀ x ∈ s.table, ¬ (x.source = src ∧ x.tenant = e.tenant)) : TableRule (applyToFullTable src e r s) := by
  unfold Machine.applyToFullTable
  split
  · next v hv =>
    have hmem := (victim_some hv).1
    have hevicted : TableRule (Machine.setOverflowBit v.source v.tenant (Machine.removeEntry v.source v.tenant s)) :=
      (h.removeEntry v.source v.tenant).setOverflowBit (h.entries v hmem).1 (by simp [Machine.removeEntry]; tauto)
    have hroom : (Machine.removeEntry v.source v.tenant s).table.length < 128 := by
      refine lt_of_lt_of_le ?_ h.limit
      exact List.length_filter_lt_length_iff_exists.mpr ⟨v, hmem, by simp⟩
    exact (hevicted.createEntry (r := r) hsrc (by simpa using hlocal) hroom
      fun x hx => hnew x (List.mem_of_mem_filter hx)).frames
  · exact (h.setOverflowBit hsrc.1 hnew).frames

end TableRule

end Sys2Proof.Machine
end

section
/-! PROOF. O11: the Contribution Table keeps its bounds, its sources, its order and its overflow bits. Resets and
installations find or leave it empty; a report, a LATE record and an expiry keep the rule operation by operation; and
nothing else reaches the table, the roster's states or the masks. -/

namespace Sys2Proof.Machine

namespace TableRule

variable {s t : State}

theorem applyEntry (h : TableRule s) {src : Nat} (hsrc : PeerKnown s src) (e : ReportEntry) :
    TableRule (applyEntry src s e) := by
  unfold Machine.applyEntry
  split
  · exact h
  · next r hr =>
    have hlocal : e.tenant ∈ tenantIds s := mem_tenantIds.mpr ⟨r, findTenant_mem hr, findTenant_id hr⟩
    by_cases hheld : (findEntry s src e.tenant).isSome = true
    · rw [if_pos hheld]
      exact h.updateEntry hsrc.1 e
    · have hnew := findEntry_eq_none.mp (Option.not_isSome_iff_eq_none.mp hheld)
      rw [if_neg hheld]
      split
      · next hroom => exact h.createEntry hsrc hlocal hroom hnew
      · exact h.applyToFullTable hsrc hlocal hnew

theorem omitTenant (h : TableRule s) {src : Nat} (hsrc : 1 ≤ src) (id : Nat) : TableRule (omitTenant src s id) :=
  (h.removeEntry src id).clearOverflowBit hsrc id

/-! ## The roster -/

/-- The record of a peer is LIVE or LATE anew (R51, R52). -/
theorem setPeerRecord (h : TableRule s) {n : Nat} {r : RosterRecord} (hlow : 1 ≤ n) (hhigh : n ≤ 16)
    (hpeer : n ≠ s.loader.station) (hr : r.state ≠ .absent) : TableRule (setRosterRecord n r s) := by
  have hrecord {m : Nat} (hm : 1 ≤ m) : rosterRecord (setRosterRecord n r s) m = if m = n then r else rosterRecord s m :=
    rosterRecord_setRosterRecord r hlow hm (h.records.symm ▸ hhigh)
  refine ⟨by simpa using h.records, ?_, h.limit, h.order, fun e he => ?_, h.overflow, h.station⟩
  · rw [hrecord (by exact h.station.1), if_neg (by exact hpeer.symm)]
    exact h.own
  · obtain ⟨hsource, hsource', hother, hheard, hlocal, hlimit⟩ := h.entries e he
    refine ⟨hsource, hsource', hother, ?_, hlocal, hlimit⟩
    rw [hrecord hsource]
    split
    · exact hr
    · exact hheard

theorem becomeLate (h : TableRule s) {n : Nat} (hdue : lateDue s n = true) : TableRule (becomeLate n s) := by
  obtain ⟨hlow, hhigh, hlive, -⟩ := (lateDue_iff s n).mp hdue
  refine h.setPeerRecord hlow hhigh ?_ (by simp)
  rintro rfl
  simp [h.own] at hlive

theorem testAlone (h : TableRule s) : TableRule (testAlone s) := h.frames

theorem expireStation (h : TableRule s) {n : Nat} (hdue : expiryDue s n = true) : TableRule (expireStation n s) := by
  obtain ⟨hlow, hhigh, -⟩ := (expiryDue_iff s n).mp hdue
  refine testAlone ?_
  have hrecord {m : Nat} (hm : 1 ≤ m) : rosterRecord (setRosterRecord n RosterRecord.blank s) m =
      if m = n then RosterRecord.blank else rosterRecord s m :=
    rosterRecord_setRosterRecord _ hlow hm (h.records.symm ▸ hhigh)
  refine ⟨by simpa using h.records, ?_, (h.filterTable fun e => e.source != n).limit,
    (h.filterTable fun e => e.source != n).order, fun e he => ?_, fun e he r hr hid => ?_, h.station⟩
  · refine (congrArg RosterRecord.state (hrecord h.station.1)).trans ?_
    split
    · rfl
    · exact h.own
  · obtain ⟨hmem, hother⟩ := List.mem_filter.mp he
    obtain ⟨hsource, hsource', hpeer, hheard, ⟨r, hr, hid⟩, hlimit⟩ := h.entries e hmem
    refine ⟨hsource, hsource', hpeer, ?_, ⟨_, List.mem_map.mpr ⟨r, hr, rfl⟩, hid⟩, hlimit⟩
    have hstate := congrArg RosterRecord.state (hrecord hsource)
    rw [if_neg (by simpa using hother)] at hstate
    exact fun habsent => hheard (hstate.symm.trans habsent)
  · obtain ⟨hmem, -⟩ := List.mem_filter.mp he
    obtain ⟨r', hr', rfl⟩ := List.mem_map.mp hr
    exact hasStation_dropStation_of _ hlow (h.overflow e hmem r' hr' hid)

theorem settleRoster (h : TableRule s) : TableRule (settleRoster s) := by
  refine List.foldlRecOn _ _ (List.foldlRecOn _ _ h fun t ht n _ => ?_) fun t ht n _ => ?_
  · split
    · next hdue => exact ht.becomeLate hdue
    · exact ht
  · split
    · next hdue => exact ht.expireStation hdue
    · exact ht

theorem completeTick (h : TableRule s) : TableRule (completeTick s) := by
  have hage (r : RosterRecord) : (ageRecord r).state = r.state := by
    unfold ageRecord
    split <;> rfl
  exact h.of_masks (MasksKept.refl.frames) (by simp [Machine.completeTick, hage])

theorem endRead (h : TableRule s) (c : Nat) : TableRule (endRead c s) := by
  unfold Machine.endRead
  split
  · exact h.frames
  · exact (h.frames : TableRule (s.withMeter { s.meter with reading := none })).completeTick

theorem takeReport (h : TableRule s) {src : Nat} (hlow : 1 ≤ src) (hhigh : src ≤ 16) (hpeer : src ≠ s.loader.station)
    (ticks : Nat) (es : List ReportEntry) : TableRule (takeReport src ticks es s) := by
  have hlive : TableRule (setRosterRecord src ⟨.live, 0, clampTo 5 50 ticks⟩ s) :=
    h.setPeerRecord hlow hhigh hpeer (by simp)
  have hknown : PeerKnown (setRosterRecord src ⟨.live, 0, clampTo 5 50 ticks⟩ s) src := by
    refine ⟨hlow, hhigh, hpeer, ?_⟩
    rw [rosterRecord_setRosterRecord _ hlow hlow (h.records.symm ▸ hhigh), if_pos rfl]
    simp
  have hentries : TableRule (es.foldl (Machine.applyEntry src) _) ∧ PeerKnown (es.foldl (Machine.applyEntry src) _) src :=
    List.foldlRecOn (motive := fun u => TableRule u ∧ PeerKnown u src) es _ ⟨hlive, hknown⟩ fun u hu e _ => by
      obtain ⟨hrule, hsrc⟩ := hu
      refine ⟨hrule.applyEntry hsrc e, ?_⟩
      simpa [PeerKnown, rosterRecord] using hsrc
  simp only [Machine.takeReport]
  have homitted := List.foldlRecOn (omittedTenants (es.foldl (Machine.applyEntry src)
    (setRosterRecord src ⟨.live, 0, clampTo 5 50 ticks⟩ s)) es) (Machine.omitTenant src) hentries.1
    fun u hu id _ => hu.omitTenant hlow id
  split
  · exact homitted.frames
  · exact homitted

/-! ## Closes, frames and ticks -/

theorem finishClose (h : TableRule s) : TableRule (finishClose s) := h.of_masks (.finishClose .refl)

theorem verifyOpen (h : TableRule s) : TableRule (verifyOpen s) := h.of_masks (.verifyOpen .refl)

theorem closePeriod (h : TableRule s) : TableRule (closePeriod s) := h.of_masks (.closePeriod .refl)

theorem receiveCommand (h : TableRule s) (code : Byte) (arg : List Byte) :
    TableRule (receiveCommand arg (commandEffect code arg) s) := by
  unfold Machine.receiveCommand
  split_ifs
  · exact h
  · exact h.frames
  · exact h.of_masks (.commandEffect .refl)

theorem deliverByKind (h : TableRule s) (b : List Byte) : TableRule (deliverByKind b s) := by
  unfold Machine.deliverByKind
  split
  · unfold deliverReport
    split_ifs with hown hlink hmalformed
    · exact h.frames
    · exact h
    · exact h
    · have hsource : ¬ (linkSource b = 0 ∨ 16 < linkSource b ∨ linkSource b = s.loader.station) := by
        intro hbad
        simp [reportMalformed, hbad] at hmalformed
      exact h.takeReport (by omega) (by omega) hown _ _
  · unfold deliverCommand
    split
    · split
      · exact h.receiveCommand _ _
      · exact h
    · exact h
  · exact h

theorem deliverFrame (h : TableRule s) (b : List Byte) : TableRule (deliverFrame b s) := by
  have hsettled : TableRule (settleForReport b s) := by
    unfold settleForReport
    split
    · exact h.finishClose.settleRoster
    · exact h
  simp only [Machine.deliverFrame]
  split
  · exact ((hsettled.frames : TableRule (adoptRate (hearFrame _))).deliverByKind b).testAlone
  · exact (hsettled.frames : TableRule (hearFrame _)).deliverByKind b

theorem completeFrame (h : TableRule s) : TableRule (completeFrame s) := by
  unfold Machine.completeFrame
  split
  · exact h
  · have hjudged : TableRule (s.withLink { s.link with assembler := .waitQuiet }) := h.frames
    simp only
    split
    · exact hjudged.deliverFrame _
    · exact hjudged

theorem takeCharacter (h : TableRule s) (levels : BitVec 11) : TableRule (takeCharacter levels s) := by
  unfold Machine.takeCharacter
  split
  · exact h.completeFrame.frames
  · exact h

theorem startRead (h : TableRule s) : TableRule (startRead s) := by
  have hdue : TableRule (takeDueWork s) := by
    simp only [takeDueWork]
    split
    · exact h.finishClose.verifyOpen.settleRoster.closePeriod
    · exact h.finishClose.verifyOpen.settleRoster
  exact (hdue.frames :
    TableRule ((takeDueWork s).withMeter { (takeDueWork s).meter with reading := some 1 }))

/-! ## Every command -/

/-- Resets leave no record, no entry and no tenant; outside the installed state there is none either, so that the rows
that reach the Image Loader keep the rule. -/
theorem of_rest (h : RestRule s) (hstation : 1 ≤ s.loader.station ∧ s.loader.station ≤ 16) : TableRule s where
  records := by simp [h.roster]
  own := by simp [rosterRecord_reset h.roster, RosterRecord.blank]
  limit := by simp [h.table]
  order := by simp [h.table]
  entries := by simp [h.table]
  overflow := by simp [h.table]
  station := hstation

theorem exec_loads {c : Instr} (h : TableRule s) (hrest : RestUntilInstalled s) (hexec : exec c s = .next t)
    (hc : loads c = true) : TableRule t := by
  have hstraps (straps : BitVec 4) : 1 ≤ stationOfStraps straps ∧ stationOfStraps straps ≤ 16 := by
    unfold stationOfStraps
    omega
  cases c
  case powerOnReset =>
    obtain rfl := Host.Outcome.next.inj hexec
    exact tableRule_reset.frames
  case restartReset straps =>
    obtain rfl := Host.Outcome.next.inj hexec
    split
    · next hdue => exact of_rest (restRule_restartStation straps hdue) (hstraps straps)
    · exact h
  case holdEnd straps =>
    obtain rfl := Host.Outcome.next.inj hexec
    split
    · next hheld => exact of_rest ((hrest (by simp [hheld])).withLoader _) (hstraps straps)
    · exact h
  case imageReadComplete im =>
    obtain rfl := Host.Outcome.next.inj hexec
    by_cases hread : s.loader.load = .reading
    · have hatRest := hrest (by simp [hread])
      rw [if_pos hread]
      split
      · obtain ⟨relay, recon, heq⟩ := install_eq (imageRead im) s
        have hroster : (install (imageRead im) s).roster = List.replicate 16 RosterRecord.blank := by
          simp [heq, hatRest.roster]
        have htable : (install (imageRead im) s).table = [] := by simp [heq, hatRest.table]
        exact ⟨by simp [hroster], by simp [rosterRecord_reset hroster, RosterRecord.blank], by simp [htable],
          by simp [htable], by simp [htable], by simp [htable], by simpa using h.station⟩
      · exact of_rest hatRest.reject (by simpa using h.station)
    · rwa [if_neg hread]
  all_goals simp [loads] at hc

/-- Every command that does not reach the Image Loader keeps the rule. -/
theorem exec {c : Instr} (h : TableRule s) (hexec : exec c s = .next t) (hc : loads c = false) : TableRule t := by
  have hif {p : Prop} [Decidable p] {u : State} (hu : TableRule u) : TableRule (if p then u else s) := by
    split
    · exact hu
    · exact h
  cases c
  case powerOnReset | restartReset | holdEnd | imageReadComplete => simp [loads] at hc
  all_goals obtain rfl := Host.Outcome.next.inj hexec
  case tick => exact hif h.startRead
  case captureCompletion f =>
    split
    · exact h
    · next c _ =>
      split
      · exact (h.frames : TableRule (applyFrame c (capturedBytes f) s)).endRead c
      · exact (h.frames : TableRule (missFrame c s)).endRead c
  case outletUnmeasured =>
    split
    · exact h
    · next c _ => exact hif ((h.frames : TableRule (missFrame c s)).endRead c)
  case stationLate n =>
    split
    · next hdue => exact h.becomeLate hdue
    · exact h
  case stationExpiry n =>
    split
    · next hdue => exact h.expireStation hdue
    · exact h
  case periodClose | graceExpiry | settleExpiry | restoreCounterExpiry | checkCountdownExpiry => exact hif h.closePeriod
  case character levels => exact h.takeCharacter levels
  case searchOnCharacterErrors levels => exact hif (h.takeCharacter levels)
  case assemblerArmed => exact hif h.completeFrame.frames
  case gapError =>
    split
    · exact hif h.frames
    · exact h
  case frameCompletion => exact h.completeFrame
  case queryStatus arg => exact h.receiveCommand 1 arg
  case queryOutlet arg => exact h.receiveCommand 2 arg
  case lockOff arg => exact h.receiveCommand 3 arg
  case unlock arg => exact h.receiveCommand 4 arg
  case clearFault arg => exact h.receiveCommand 5 arg
  case ackEvents arg => exact h.receiveCommand 6 arg
  case endAlert arg => exact h.receiveCommand 7 arg
  case fetchRecord arg => exact h.receiveCommand 8 arg
  case restart arg => exact h.receiveCommand 9 arg
  case invalidCommand code arg => exact h.receiveCommand code arg
  case attemptStart => exact hif h.completeFrame.frames
  case settleEnd => exact hif h.finishClose.frames
  case openVerify => exact hif h.finishClose.verifyOpen
  all_goals (repeat' split) <;> exact h.frames

theorem idle (h : TableRule s) : TableRule (idle s) := by
  unfold Machine.idle
  split_ifs
  · exact h.completeFrame
  · exact h.of_masks (.workOn .refl)
  · exact h.verifyOpen
  · simp only [beginDueWork]
    split
    · exact h.settleRoster.frames
    · exact h.settleRoster
  · exact h.frames
  · exact h.frames
  · exact h

end TableRule

/-- Settles O11: a reset and an installation find or leave an empty table, and every other command and idle step is made
of operations that keep the rule. -/
theorem stepKeepsTableRule : Obligations.StepKeepsTableRule := by
  intro s t hrest h hstep
  rcases step_cases hstep with ⟨-, rfl⟩ | ⟨c, rest, -, hexec⟩
  · exact h.idle
  · have hqueued : TableRule (s.withPending rest) := h.frames
    cases hc : loads c
    · exact hqueued.exec hexec hc
    · exact hqueued.exec_loads (fun hload => (hrest hload).withPending rest) hexec hc

end Sys2Proof.Machine
end

section
/-! PROOF. O26: LATE and expiry. -/

namespace Sys2Proof.Machine

/-- A record that is due goes LATE, and any other row STATION_LATE has no effect (R52). -/
theorem exec_stationLate (n : Nat) (s : State) :
    exec (.stationLate n) s = .next (if lateDue s n = true then becomeLate n s else s) := rfl

/-- A record that is due expires (R53). -/
theorem exec_stationExpiry {n : Nat} {s : State} (hdue : expiryDue s n = true) :
    exec (.stationExpiry n) s = .next (expireStation n s) := by simp [exec, execStationExpiry, hdue]

/-- An expiry before the test of R47: the record is ABSENT, and its entries and overflow bits are gone (R53). -/
def expired (n : Nat) (s : State) : State := { s with
  roster := s.roster.set (n - 1) RosterRecord.blank
  table := s.table.filter fun e => e.source != n
  recon := { s.recon with tenants := s.recon.tenants.map fun r => { r with overflow := dropStation r.overflow n } } }

theorem expireStation_eq (n : Nat) (s : State) : expireStation n s = testAlone (expired n s) := rfl

/-- The records of the roster after an expiry (R53). -/
theorem rosterRecord_expired {n m : Nat} {s : State} (hn : 1 ≤ n) (hm : 1 ≤ m) (hlength : n ≤ s.roster.length) :
    rosterRecord (expired n s) m = if m = n then RosterRecord.blank else rosterRecord s m :=
  rosterRecord_setRosterRecord RosterRecord.blank hn hm hlength

/-- The test of R47 reaches the Link Monitor and the Alert Unit's latches alone. -/
theorem testAlone_frame (s : State) :
    testAlone s = { s with monitor := (testAlone s).monitor, alert := (testAlone s).alert } := by
  by_cases halone : s.monitor.link = .joined ∧ ∀ r ∈ s.roster, r.state = .absent
  · rw [testAlone_absent halone.1 halone.2]
    rfl
  · rw [testAlone_rest fun hlink habsent => halone ⟨hlink, habsent⟩]

/-- The test of R47 leaves the mask and the end-alert gap (R147, R149). -/
theorem testAlone_mask_gap (s : State) :
    (testAlone s).alert.mask = s.alert.mask ∧ (testAlone s).alert.gap = s.alert.gap := by
  unfold testAlone
  split <;> simp

/-- Settles O26: the expiry leaves the roster, the table and the masks without the station, and R47 is tested on what it
leaves. -/
theorem stationsGoLateAndExpire : Obligations.StationsGoLateAndExpire := by
  refine ⟨fun n s hlow hhigh => ?_, fun n s hlow hhigh hlength hlate hage => ?_⟩
  · rw [exec_stationLate]
    simp only [lateDue_iff, hlow, hhigh, true_and]
    rfl
  · have hrecord {m : Nat} (hm : 1 ≤ m) := rosterRecord_expired (s := s) hlow hm (by omega)
    have hmask (r : Tenant) (hr : r ∈ (expired n s).recon.tenants) : hasStation r.overflow n = false := by
      obtain ⟨r', -, rfl⟩ := List.mem_map.mp hr
      exact hasStation_dropStation_self _ hlow
    have hroster : (testAlone (expired n s)).roster = (expired n s).roster := testAlone_roster _
    have hrecon : (testAlone (expired n s)).recon = (expired n s).recon := testAlone_recon _
    obtain ⟨halertMask, halertGap⟩ := testAlone_mask_gap (expired n s)
    refine ⟨testAlone (expired n s), ?_, ?_, fun m hm hother => ?_, testAlone_table _, hrecon, ?_, ?_, halertMask,
      halertGap, ?_⟩
    · rw [exec_stationExpiry ((expiryDue_iff s n).mpr ⟨hlow, hhigh, hlate, hage⟩), expireStation_eq]
    · rw [rosterRecord_congr hroster, hrecord hlow, if_pos rfl]
      rfl
    · rw [rosterRecord_congr hroster, hrecord hm, if_neg hother]
    · rwa [hrecon]
    · rw [hroster]
      split
      · next halone =>
        rw [testAlone_absent (by exact halone.1) halone.2]
        exact ⟨rfl, rfl⟩
      · next halone =>
        rw [testAlone_rest (s := expired n s) fun hlink habsent => halone ⟨hlink, habsent⟩]
        exact ⟨rfl, rfl⟩
    · rw [testAlone_frame]
      rfl

end Sys2Proof.Machine
end

section
/-! PROOF. O42: a COMMAND frame is its hearing and then the gateway's row. -/

namespace Sys2Proof.Machine

/-- The commands of the gateway are received by their codes (R159, R162). -/
theorem exec_gatewayRow (code : Byte) (arg : List Byte) (s : State) :
    exec (gatewayRow code arg) s = .next (receiveCommand arg (commandEffect code arg) s) := by
  unfold gatewayRow
  split
  case h_10 => rfl
  all_goals
    next hcode =>
    unfold commandEffect
    simp only [hcode]
    rfl

/-- A command leaves the link state (R161). -/
theorem receiveCommand_monitor (code : Byte) (arg : List Byte) (s : State) :
    (receiveCommand arg (commandEffect code arg) s).monitor = s.monitor :=
  receiveCommand_keeps State.monitor arg (raise_monitor s _) (by simp)

/-- A frame that has been handled after it ended the search is tested by R47, and any other is not (R41, R47). -/
theorem searchTested_testAlone {s u : State} (hjoined : s.monitor.link = .search → u.monitor.link = .joined) :
    SearchTested s u (if s.monitor.link = .search then testAlone u else u) := by
  unfold SearchTested
  by_cases hsearch : s.monitor.link = .search
  · rw [if_pos hsearch]
    by_cases habsent : ∀ r ∈ u.roster, r.state = .absent
    · rw [if_pos ⟨hsearch, habsent⟩, testAlone_absent (hjoined hsearch) habsent]
      exact ⟨rfl, rfl, rfl, rfl, rfl⟩
    · rw [if_neg fun h => habsent h.2, testAlone_rest fun _ => habsent]
  · rw [if_neg hsearch, if_neg fun h => hsearch h.1]

/-- A frame that has ended the search is handled in JOINED (R41). -/
theorem heard_joined {s : State} (h : s.monitor.link = .search) : (heard s).monitor.link = .joined := by
  rw [heard_monitor_search h]

/-- A COMMAND of the gateway for this station is received by its code (R159, R161). -/
theorem deliverByKind_command {b : List Byte} {s : State} {target code : Byte} {arg : List Byte} (hkind : linkKind b = 2)
    (hpayload : linkPayload b = target :: code :: arg) (hsource : linkSource b = 0)
    (htarget : target.toNat = s.loader.station) :
    deliverByKind b s = receiveCommand arg (commandEffect code arg) s := by
  simp [deliverByKind, hkind, deliverCommand, hpayload, hsource, htarget]

/-- Any other COMMAND is ignored (R159). -/
theorem deliverByKind_otherCommand {b : List Byte} {s : State} (hkind : linkKind b = 2)
    (hother : linkSource b ≠ 0 ∨ (linkPayload b).length < 2 ∨ 4 < (linkPayload b).length ∨
      ((linkPayload b).getD 0 0).toNat ≠ s.loader.station) : deliverByKind b s = s := by
  simp only [deliverByKind, hkind, deliverCommand]
  split
  · next target code arg hpayload =>
    simp only [hpayload, List.length_cons, List.getD_cons_zero] at hother
    split
    · next hours => exact receiveCommand_ignored _ _ _ (.inl (by omega))
    · rfl
  · rfl

/-- Settles O42: the frame is heard first, its row leaves the link state, and a search that it ended is then tested. -/
theorem commandFramesAreTheGatewayRows : Obligations.CommandFramesAreTheGatewayRows := by
  intro b s hframe hvalid hkind
  have hcomplete : exec .frameCompletion s = .next
      (if s.monitor.link = .search then testAlone (deliverByKind b (heard s)) else deliverByKind b (heard s)) := by
    rw [exec, execFrameCompletion, completeFrame_heard hframe hvalid (bringsReport_otherKind (by omega) s)]
  rw [hcomplete]
  refine ⟨fun target code arg hpayload hsource htarget _ => ?_, fun hother => ?_⟩
  · rw [exec_gatewayRow, deliverByKind_command (s := heard s) hkind hpayload hsource htarget]
    refine ⟨fun hrest => by rw [if_neg hrest], _, _, rfl, rfl, searchTested_testAlone fun hsearch => ?_⟩
    rw [receiveCommand_monitor, heard_joined hsearch]
  · rw [deliverByKind_otherCommand (s := heard s) hkind hother]
    exact ⟨_, rfl, searchTested_testAlone heard_joined⟩

end Sys2Proof.Machine
end

section
/-! SUPPORT. The comparison of the kept switching records at an installation (R145): each outlet in ON or OFF whose
desired state differs gets its job, in outlet-number order, and the coil takes the first. -/

namespace Sys2Proof.Machine

/-- The job that the comparison of a switching record calls for: none where the relay state is neither ON nor OFF
(R129, R145). -/
def settledJob (r : RelayOutlet) (n : Nat) : Option Job :=
  match r.relay with
  | .on => if r.heldOff then some ⟨n, .toOpen, .change⟩ else none
  | .off => if r.heldOff then none else some ⟨n, .toClose, .change⟩
  | _ => none

/-- The switching record of outlet `n` once the jobs have been queued, of which the coil holds `first` (R130, R135). -/
def comparedOutlet (first : Option Job) (n : Nat) (r : RelayOutlet) : RelayOutlet :=
  match settledJob r n with
  | none => r
  | some j => { r with relay := if first.map Job.outlet = some n then j.dir.working else j.dir.pending }

/-- The coil holds the first of these jobs, and the others wait in their order (R134, R135). -/
def JobsTaken (jobs : List Job) (s : State) : Prop :=
  s.relay.coil = jobs.head?.map (fun j => ⟨j, .pulse⟩) ∧ s.relay.queue = jobs.tail

/-- The switching records are not the queue's nor the coil's. -/
@[simp] theorem relayOutlet_withJobs (s : State) (q : List Job) (c : Option CoilJob) (n : Nat) :
    relayOutlet (s.withRelay ⟨s.relay.outlets, q, c⟩) n = relayOutlet s n := rfl

@[simp] theorem setRelayOutlet_length (n : Nat) (f : RelayOutlet → RelayOutlet) (s : State) :
    (setRelayOutlet n f s).relay.outlets.length = s.relay.outlets.length := by simp [setRelayOutlet]

section

variable {s : State} {n : Nat} {jobs : List Job}

/-- Where no job is called for the comparison has no effect. -/
theorem compareSettled_none (h : settledJob (relayOutlet s n) n = none) : compareSettled s n = s := by
  unfold compareSettled compareDesired
  unfold settledJob at h
  split
  · next hsettled =>
    rcases hsettled with hon | hoff
    · cases hheld : (relayOutlet s n).heldOff <;> simp_all
    · cases hheld : (relayOutlet s n).heldOff <;> simp_all
  · rfl

/-- The job that is called for is a CHANGE job of that outlet, and is queued (R130). -/
theorem compareSettled_some {j : Job} (h : settledJob (relayOutlet s n) n = some j) :
    j = ⟨n, j.dir, .change⟩ ∧ compareSettled s n = queueJob n j.dir s := by
  unfold settledJob at h
  split at h
  · next hon =>
    obtain ⟨hheld, hj⟩ := Option.ite_none_right_eq_some.mp h
    obtain rfl := Option.some.inj hj
    simp [compareSettled, compareDesired, hon, hheld]
  · next hoff =>
    obtain ⟨hheld, hj⟩ := Option.ite_none_left_eq_some.mp h
    obtain rfl := Option.some.inj hj
    simp [compareSettled, compareDesired, hoff, hheld]
  · cases h

/-- A job that is queued behind others waits, and one that is queued alone is taken by the coil at once (R130, R135). -/
theorem jobsTaken_queueJob (d : JobDir) (h : JobsTaken jobs s) (hpending : s.restartPending = false) :
    JobsTaken (jobs ++ [⟨n, d, .change⟩]) (queueJob n d s) := by
  obtain ⟨hcoil, hqueue⟩ := h
  cases jobs with
  | nil =>
    rw [queueJob, coilTake_head _ ⟨n, d, .change⟩ [] (by simpa using hpending) (by simpa [setRelayOutlet] using hcoil)
      (by simp [setRelayOutlet, hqueue])]
    exact ⟨rfl, rfl⟩
  | cons j rest =>
    rw [queueJob, coilTake_rest _ (.inr (.inl (by simp [setRelayOutlet, hcoil])))]
    exact ⟨hcoil, by simp [setRelayOutlet, hqueue]⟩

/-- The switching records after a job has been queued: its outlet works or waits (R130, R135). -/
theorem relayOutlet_queueJob (d : JobDir) (h : JobsTaken jobs s) (hpending : s.restartPending = false) (hn : 1 ≤ n)
    (hlength : n ≤ s.relay.outlets.length) {m : Nat} (hm : 1 ≤ m) : relayOutlet (queueJob n d s) m =
      if m = n then { relayOutlet s n with relay := if jobs = [] then d.working else d.pending }
      else relayOutlet s m := by
  obtain ⟨hcoil, hqueue⟩ := h
  have hwaiting {k : Nat} (hk : 1 ≤ k) := relayOutlet_setRelayOutlet n k (fun r => { r with relay := d.pending })
    (s.withRelay { s.relay with queue := s.relay.queue ++ [⟨n, d, .change⟩] }) hn hk
  cases jobs with
  | nil =>
    rw [queueJob, coilTake_head _ ⟨n, d, .change⟩ [] (by simpa using hpending) (by simpa [setRelayOutlet] using hcoil)
      (by simp [setRelayOutlet, hqueue]), relayOutlet_setRelayOutlet _ _ _ _ hn hm]
    by_cases hmn : m = n
    · simp [hmn, hwaiting hn, hlength]
    · simp [hmn, hwaiting hm]
  | cons j rest =>
    rw [queueJob, coilTake_rest _ (.inr (.inl (by simp [setRelayOutlet, hcoil]))), hwaiting hm]
    by_cases hmn : m = n <;> simp [hmn, hlength]

/-- A job that is queued leaves every outlet its record. -/
theorem queueJob_length (d : JobDir) : (queueJob n d s).relay.outlets.length = s.relay.outlets.length := by
  have hmoves : Moves s (queueJob n d s) := .queueJob .refl
  simpa using congrArg List.length hmoves.outlets

end

/-- The comparison of some outlets, one after another, behind jobs of other outlets (R145). -/
theorem foldl_compareSettled {ns : List Nat} {jobs : List Job} {s : State} (hdistinct : ns.Nodup)
    (hplace : ∀ n ∈ ns, 1 ≤ n ∧ n ≤ s.relay.outlets.length) (hpending : s.restartPending = false)
    (h : JobsTaken jobs s) (hother : ∀ j ∈ jobs, j.outlet ∉ ns) {all : List Job}
    (hall : all = jobs ++ ns.filterMap fun n => settledJob (relayOutlet s n) n) :
    JobsTaken all (ns.foldl compareSettled s) ∧ ∀ m, 1 ≤ m → relayOutlet (ns.foldl compareSettled s) m =
      if m ∈ ns then comparedOutlet all.head? m (relayOutlet s m) else relayOutlet s m := by
  induction ns generalizing jobs s with
  | nil => simpa [hall] using h
  | cons n ns ih =>
    obtain ⟨hnot, hdistinct'⟩ := List.nodup_cons.mp hdistinct
    obtain ⟨hn, hlength⟩ := hplace n (.head _)
    rw [List.foldl_cons]
    cases hjob : settledJob (relayOutlet s n) n with
    | none =>
      rw [compareSettled_none hjob]
      obtain ⟨hjobs, houtlets⟩ := ih hdistinct' (fun k hk => hplace k (.tail _ hk)) hpending h
        (fun j hj hmem => hother j hj (.tail _ hmem)) (by simpa [hjob] using hall)
      refine ⟨hjobs, fun m hm => ?_⟩
      rw [houtlets m hm]
      by_cases hmn : m = n
      · subst hmn
        simp [hnot, comparedOutlet, hjob]
      · simp [hmn]
    | some j =>
      obtain ⟨hchange, hcompared⟩ := compareSettled_some hjob
      have houtlet : j.outlet = n := congrArg Job.outlet hchange
      have hafter {m : Nat} (hm : 1 ≤ m) := relayOutlet_queueJob j.dir h hpending hn hlength hm
      have hsame : ns.filterMap (fun k => settledJob (relayOutlet (queueJob n j.dir s) k) k) =
          ns.filterMap fun k => settledJob (relayOutlet s k) k := by
        refine List.filterMap_congr fun k hk => ?_
        rw [hafter (hplace k (.tail _ hk)).1, if_neg (ne_of_mem_of_not_mem hk hnot)]
      have hjobsTaken := jobsTaken_queueJob (n := n) j.dir h hpending
      rw [← hchange] at hjobsTaken
      rw [hcompared]
      obtain ⟨hjobs, houtlets⟩ := ih hdistinct' (fun k hk => by
          simpa only [queueJob_length] using hplace k (.tail _ hk)) (by simpa using hpending) hjobsTaken
        (fun i hi hmem => by
          rcases List.mem_append.mp hi with hi | hi
          · exact hother i hi (.tail _ hmem)
          · obtain rfl := List.mem_singleton.mp hi
            exact hnot (houtlet ▸ hmem))
        (by rw [hsame, hall]; simp [hjob])
      refine ⟨hjobs, fun m hm => ?_⟩
      rw [houtlets m hm]
      by_cases hmn : m = n
      · subst hmn
        have hfirst : all.head?.map Job.outlet = some m ↔ jobs = [] := by
          cases jobs with
          | nil => simp [hall, hjob, houtlet]
          | cons i rest =>
            have hne : i.outlet ≠ m := fun heq => hother i (.head _) (heq ▸ .head _)
            simp [hall, hne]
        simp [hnot, hafter hm, comparedOutlet, hjob, hfirst]
      · simp [hmn, hafter hm]

end Sys2Proof.Machine
end

section
/-! PROOF. O19: the installation of an accepted image after a restart reset. -/

namespace Sys2Proof.Machine

theorem mem_presentOutlets {s : State} {n : Nat} :
    n ∈ presentOutlets s ↔ 1 ≤ n ∧ n ≤ 8 * s.loader.params.converterCount := by
  simp only [presentOutlets, List.mem_map, List.mem_range]
  constructor
  · rintro ⟨i, hi, rfl⟩
    omega
  · rintro ⟨hn, hpresent⟩
    exact ⟨n - 1, by omega, by omega⟩

theorem presentOutlets_nodup (s : State) : (presentOutlets s).Nodup :=
  List.nodup_range.map fun _ _ h => by simpa using h

/-- The present outlets depend on the parameters alone (R11). -/
theorem presentOutlets_congr {s t : State} (h : t.loader.params = s.loader.params) :
    presentOutlets t = presentOutlets s := by simp [presentOutlets, h]

/-- A tenant's shed outlets depend on the switching records and the parameters alone (R91). -/
theorem shedOutlets_congr {s t : State} (hrelay : t.relay = s.relay) (hloader : t.loader = s.loader) (id : Nat) :
    shedOutlets t id = shedOutlets s id := by
  simp [shedOutlets, tenantOutlets, presentOutlets, relayOutlet, hrelay, hloader]

/-- The kept switching records under the re-read image, before any of them is compared (R145). -/
def withKeptOutlets (im : List Byte) (s : State) : State := s.withRelay { s.relay with
  outlets := outletNumbers.map fun n => if present s n then keptOutlet im n (relayOutlet s n) else RelayOutlet.blank }

theorem installRestart_eq (im : List Byte) (s : State) : installRestart im s =
    (presentOutlets (withKeptOutlets im s)).foldl compareSettled (withKeptOutlets im s) := rfl

/-- Every present outlet keeps its record under the image, and an absent one has none (R145). -/
theorem relayOutlet_withKeptOutlets {im : List Byte} {s : State} (hcount : s.loader.params.converterCount ≤ 3) {n : Nat}
    (hn : 1 ≤ n) : relayOutlet (withKeptOutlets im s) n =
      if n ≤ 8 * s.loader.params.converterCount then keptOutlet im n (relayOutlet s n) else RelayOutlet.blank := by
  refine (getD_outletNumbers
    (fun n => if present s n then keptOutlet im n (relayOutlet s n) else RelayOutlet.blank) hn).trans ?_
  by_cases hpresent : n ≤ 8 * s.loader.params.converterCount
  · simp [present, hn, hpresent, show n ≤ 24 by omega]
  · simp [present, hpresent]

/-- The jobs that an installation after a restart reset calls for, in outlet-number order (R145). -/
def restartJobs (im : List Byte) (s : State) : List Job :=
  (presentOutlets s).filterMap fun n => settledJob (keptOutlet im n (relayOutlet s n)) n

/-- The Relay Driver after the installation: the jobs, of which the coil has the first, and each outlet's record
(R145). -/
theorem installRestart_relay {im : List Byte} {s : State} (hcount : s.loader.params.converterCount ≤ 3)
    (hpending : s.restartPending = false) (hqueue : s.relay.queue = []) (hcoil : s.relay.coil = none) :
    JobsTaken (restartJobs im s) (installRestart im s) ∧ ∀ n, 1 ≤ n → relayOutlet (installRestart im s) n =
      if n ≤ 8 * s.loader.params.converterCount then
        comparedOutlet (restartJobs im s).head? n (keptOutlet im n (relayOutlet s n))
      else RelayOutlet.blank := by
  have hkept {n : Nat} (hn : 1 ≤ n) := relayOutlet_withKeptOutlets (im := im) hcount hn
  have hjobs : restartJobs im s = [] ++ (presentOutlets (withKeptOutlets im s)).filterMap fun n =>
      settledJob (relayOutlet (withKeptOutlets im s) n) n := by
    refine List.filterMap_congr fun n hn => ?_
    obtain ⟨hn, hpresent⟩ := mem_presentOutlets.mp hn
    rw [hkept hn, if_pos hpresent]
  rw [installRestart_eq]
  obtain ⟨htaken, houtlets⟩ := foldl_compareSettled (presentOutlets_nodup _) (s := withKeptOutlets im s) (jobs := [])
    (fun n hn => by
      obtain ⟨hn, hpresent⟩ := mem_presentOutlets.mp hn
      have hcount' : (withKeptOutlets im s).loader.params.converterCount ≤ 3 := hcount
      simp only [withKeptOutlets, withRelay_relay, outletNumbers, List.length_map, List.length_range]
      omega)
    hpending ⟨hcoil, hqueue⟩ (by simp) hjobs
  refine ⟨htaken, fun n hn => ?_⟩
  have hmem : n ∈ presentOutlets (withKeptOutlets im s) ↔ 1 ≤ n ∧ n ≤ 8 * s.loader.params.converterCount :=
    mem_presentOutlets
  rw [houtlets n hn, hkept hn]
  by_cases hpresent : n ≤ 8 * s.loader.params.converterCount
  · rw [if_pos (hmem.mpr ⟨hn, hpresent⟩), if_pos hpresent, if_pos hpresent]
  · rw [if_neg fun h => hpresent (hmem.mp h).2, if_neg hpresent, if_neg hpresent]

/-- The comparison changes the relay state alone (R129). -/
theorem comparedOutlet_flags (first : Option Job) (n : Nat) (r : RelayOutlet) :
    (comparedOutlet first n r).tenant = r.tenant ∧ (comparedOutlet first n r).cls = r.cls ∧
      (comparedOutlet first n r).lock = r.lock ∧ (comparedOutlet first n r).shed = r.shed := by
  unfold comparedOutlet
  split <;> exact ⟨rfl, rfl, rfl, rfl⟩

/-- An outlet in ON stays so unless its desired state is OFF (R129, R130). -/
theorem comparedOutlet_on {r : RelayOutlet} (h : r.relay = .on) (first : Option Job) (n : Nat) :
    (comparedOutlet first n r).relay = if r.lock = false ∧ r.shed = none then .on
      else if first.map Job.outlet = some n then .opening else .openPending := by
  cases hlock : r.lock <;> cases hshed : r.shed <;>
    simp [comparedOutlet, settledJob, h, RelayOutlet.heldOff, hlock, hshed, JobDir.working, JobDir.pending]

/-- An outlet in OFF stays so unless its desired state is ON (R129, R130). -/
theorem comparedOutlet_off {r : RelayOutlet} (h : r.relay = .off) (first : Option Job) (n : Nat) :
    (comparedOutlet first n r).relay = if r.lock = true ∨ r.shed ≠ none then .off
      else if first.map Job.outlet = some n then .closing else .closePending := by
  cases hlock : r.lock <;> cases hshed : r.shed <;>
    simp [comparedOutlet, settledJob, h, RelayOutlet.heldOff, hlock, hshed, JobDir.working, JobDir.pending]

/-- An outlet in UNKNOWN or STUCK is left as it is (R145). -/
theorem comparedOutlet_unsettled {r : RelayOutlet} (h : r.relay = .unknown ∨ r.relay = .stuck) (first : Option Job)
    (n : Nat) : comparedOutlet first n r = r := by
  rcases h with h | h <;> simp [comparedOutlet, settledJob, h]

/-- The installation after a restart reset: the kept switching records, then the tenants by the shed flags that are kept,
then the rate search (R74, R82, R93, R145, R174). -/
theorem install_restart {im : List Byte} {s : State} (h : s.loader.afterRestart = true) :
    install im s = enterSearch ((installRestart im (installing im s)).withRecon
      ⟨(imageTenantRecords im).map (startStanding (installRestart im (installing im s))), (imageParams im).expire,
        true⟩) := by
  rw [installing]
  simp [install, h]

/-- A tenant begins in RECOVER where it has kept a shed outlet, and else as the image gives it (R92, R93). -/
theorem startStanding_imageTenantRecord (s : State) (im : List Byte) (i : Nat) :
    startStanding s (imageTenantRecord im i) = { imageTenantRecord im i with
      standing := if shedOutlets s (imageTenantId im i) = [] then .clear else .recover
      restore := if shedOutlets s (imageTenantId im i) = [] then 0 else s.loader.params.spacing } := by
  have hid : (imageTenantRecord im i).id = imageTenantId im i := rfl
  by_cases hshed : shedOutlets s (imageTenantId im i) = []
  · simp only [startStanding, hid, hshed, if_true]
    rfl
  · simp only [startStanding, hid, hshed, if_false]

/-- Settles O19: the kept records are compared in outlet-number order behind an empty queue and a free coil. -/
theorem acceptedImageIsInstalledAfterRestart : Obligations.AcceptedImageIsInstalledAfterRestart := by
  intro im s hload hrestart hpending hqueue hcoil haccepted
  obtain ⟨-, hcount, hcount3⟩ := imageAccepted_ranges haccepted
  have hinstall := install_restart (im := im) hrestart
  have hframe := installRestart_onlyRelay im (installing im s)
  have hrelay : (install im s).relay = (installRestart im (installing im s)).relay := by
    rw [hinstall]
    simp
  have halert : (install im s).alert = { s.alert with mask := (imageParams im).alertMask }.refresh := by
    rw [hinstall, hframe]
    simp [installing]
  obtain ⟨⟨hcoilTaken, hqueueTaken⟩, houtlets⟩ := installRestart_relay (im := im) (s := installing im s)
    (by simpa using hcount3) (by simpa using hpending) (by exact hqueue) (by exact hcoil)
  have houtlet {n : Nat} (hn : 1 ≤ n) : relayOutlet (install im s) n =
      if n ≤ 8 * imageByte im 6 then
        comparedOutlet (restartJobs im (installing im s)).head? n (keptOutlet im n (relayOutlet s n))
      else RelayOutlet.blank := by
    rw [relayOutlet, hrelay]
    exact houtlets n hn
  have hpresent {n : Nat} (hn : 1 ≤ n) (hin : n ≤ 8 * imageByte im 6) : relayOutlet (install im s) n =
      comparedOutlet (restartJobs im (installing im s)).head? n (keptOutlet im n (relayOutlet s n)) := by
    rw [houtlet hn, if_pos hin]
  have hflags {n : Nat} (hn : 1 ≤ n) (hin : n ≤ 8 * imageByte im 6) :=
    hpresent hn hin ▸ comparedOutlet_flags (restartJobs im (installing im s)).head? n (keptOutlet im n (relayOutlet s n))
  have hholder : (install im s).relay.coil.map (fun c => c.job.outlet) =
      (restartJobs im (installing im s)).head?.map Job.outlet := by
    rw [hrelay, hcoilTaken]
    cases (restartJobs im (installing im s)).head? <;> rfl
  have hshed (id : Nat) : shedOutlets (install im s) id = shedOutlets (installRestart im (installing im s)) id :=
    shedOutlets_congr hrelay (by rw [hinstall]; simp) id
  have hrecon : (install im s).recon = ⟨(imageTenantRecords im).map (startStanding (installRestart im (installing im s))),
      (imageParams im).expire, true⟩ := by
    rw [hinstall]
    simp
  refine ⟨install im s, exec_imageReadComplete_accepted hload haccepted, by simp, by simp, ?_, ?_, ?_, ?_, ?_,
    alertRule_of_refresh halert, ?_, fun jobs hjobs => ?_, ?_, ?_, fun n hn hin => ?_, fun n hn hin hon => ?_,
    fun n hn hin hoff => ?_, fun n hn hin hunsettled => ?_, fun n habsent => ?_, ?_, fun i hi => ?_, ?_, ?_, ?_, by simp,
    ?_, ?_⟩
  · rw [hinstall, enterSearch_monitor, hframe]
    simp [installing, defaultRate]
  · rw [hinstall, enterSearch_link, hframe]
    simp [installing]
  · rw [halert]
    rfl
  · rw [halert]
    rfl
  · rw [halert]
    rfl
  · rw [hinstall, hframe]
    simpa [installing] using hpending
  · have hcalled : jobs = restartJobs im (installing im s) := by
      rw [hjobs, presentOutlets_congr (s := installing im s) (by simp), restartJobs]
      refine List.filterMap_congr fun n hn => ?_
      obtain ⟨hn, hin⟩ := mem_presentOutlets.mp hn
      obtain ⟨-, -, hlock, hshedFlag⟩ := hflags hn hin
      rw [hlock, hshedFlag]
      rfl
    rw [hcalled, hrelay]
    exact ⟨hcoilTaken, hqueueTaken⟩
  · rw [hrecon]
  · rw [hrecon]
  · obtain ⟨htenant, hcls, hlock, hshedFlag⟩ := hflags hn hin
    rw [htenant, hcls, hlock, hshedFlag]
    exact ⟨rfl, rfl, rfl, rfl⟩
  · obtain ⟨-, -, hlock, hshedFlag⟩ := hflags hn hin
    rw [hholder, hlock, hshedFlag, hpresent hn hin]
    exact comparedOutlet_on (by exact hon) _ n
  · obtain ⟨-, -, hlock, hshedFlag⟩ := hflags hn hin
    rw [hholder, hlock, hshedFlag, hpresent hn hin]
    exact comparedOutlet_off (by exact hoff) _ n
  · rw [hpresent hn hin, comparedOutlet_unsettled (by exact hunsettled)]
    rfl
  · have hbyte : 1 ≤ imageByte im 6 := hcount
    rw [houtlet (by omega), if_neg (by omega)]
    rfl
  · rw [hrecon]
    simp [imageTenantRecords, imageTenants]
  · refine ⟨startStanding (installRestart im (installing im s)) (imageTenantRecord im i), ?_, ?_⟩
    · rw [hrecon]
      simp [imageTenantRecords, imageTenants, hi]
    · have hspacing : (installRestart im (installing im s)).loader.params.spacing = (imageParams im).spacing := by
        rw [hframe]
        rfl
      rw [startStanding_imageTenantRecord, hspacing]
      simp only [hshed]
      rfl
  all_goals
    rw [hinstall, hframe]
    simp [installing]

end Sys2Proof.Machine
end

section
/-! SUPPORT. The work of a close on the tenants, and the roster's part of a tick completion, neither read nor change the
Link Transceiver: each may be taken before or after that block is replaced. -/

namespace Sys2Proof.Machine

section

variable (x : Transceiver) (s : State)

/-! ## What the work of a close reads -/

@[simp] theorem findTenant_withLink (id : Nat) : findTenant (s.withLink x) id = findTenant s id := rfl
@[simp] theorem relayOutlet_withLink (n : Nat) : relayOutlet (s.withLink x) n = relayOutlet s n := rfl
@[simp] theorem shedOutlets_withLink (id : Nat) : shedOutlets (s.withLink x) id = shedOutlets s id := rfl
@[simp] theorem restoreCandidates_withLink (id : Nat) :
    restoreCandidates (s.withLink x) id = restoreCandidates s id := rfl
@[simp] theorem tenantCase_withLink (t : Tenant) : tenantCase (s.withLink x) t = tenantCase s t := rfl
@[simp] theorem attemptsRestore_withLink (id : Nat) : attemptsRestore id (s.withLink x) = attemptsRestore id s := rfl

/-! ## Events, records, outlets and the coil -/

@[simp] theorem raise_withLink (k : EventKind) : raise k (s.withLink x) = (raise k s).withLink x := rfl

@[simp] theorem setTenant_withLink (id : Nat) (f : Tenant → Tenant) :
    setTenant id f (s.withLink x) = (setTenant id f s).withLink x := rfl

@[simp] theorem setRelayOutlet_withLink (n : Nat) (f : RelayOutlet → RelayOutlet) :
    setRelayOutlet n f (s.withLink x) = (setRelayOutlet n f s).withLink x := rfl

@[simp] theorem withRelay_withLink (r : RelayDriver) : (s.withLink x).withRelay r = (s.withRelay r).withLink x := rfl

@[simp] theorem appendRecord_withLink (r : ExcursionRecord) :
    appendRecord r (s.withLink x) = (appendRecord r s).withLink x := by
  by_cases hroom : s.records.length < Config.recordLimit
  · simp [appendRecord, hroom]
    rfl
  · simp [appendRecord, hroom]

@[simp] theorem coilTake_withLink : coilTake (s.withLink x) = (coilTake s).withLink x := by
  simp only [coilTake, withLink_restartPending, withLink_relay]
  split <;> rfl

@[simp] theorem queueJob_withLink (n : Nat) (d : JobDir) : queueJob n d (s.withLink x) = (queueJob n d s).withLink x := by
  simp [queueJob]

@[simp] theorem turnBack_withLink (n : Nat) (b : RelayState) :
    turnBack n b (s.withLink x) = (turnBack n b s).withLink x := by
  simp only [turnBack, withLink_relay]
  split
  · rfl
  · split <;> rfl

@[simp] theorem compareDesired_withLink (n : Nat) : compareDesired n (s.withLink x) = (compareDesired n s).withLink x := by
  simp only [compareDesired, relayOutlet_withLink]
  split <;> simp

@[simp] theorem changeFlags_withLink (n : Nat) (f : RelayOutlet → RelayOutlet) :
    changeFlags n f (s.withLink x) = (changeFlags n f s).withLink x := by
  simp only [changeFlags, relayOutlet_withLink, setRelayOutlet_withLink, compareDesired_withLink]
  split <;> rfl

/-! ## The work on the tenants -/

@[simp] theorem shedOutlet_withLink (n : Nat) : shedOutlet (s.withLink x) n = (shedOutlet s n).withLink x :=
  changeFlags_withLink ..

@[simp] theorem shedRound_withLink (id : Nat) : shedRound id (s.withLink x) = (shedRound id s).withLink x := by
  have hfold (l : List Nat) : l.foldl shedOutlet (s.withLink x) = (l.foldl shedOutlet s).withLink x :=
    List.foldl_hom (·.withLink x) fun u n => shedOutlet_withLink x u n
  have htaken (n : Nat) : shedTaken (s.withLink x) id n = shedTaken s id n := rfl
  have hpower (l : List Nat) : powerOf (s.withLink x) l = powerOf s l := rfl
  have hrecord (k : RecordKind) (t : Tenant) (n : Nat) (l : List Nat) :
      makeRecord (s.withLink x) k t n l = makeRecord s k t n l := rfl
  unfold shedRound
  simp only [findTenant_withLink]
  split
  · rfl
  · simp only [htaken, hpower, hrecord, hfold, appendRecord_withLink, raise_withLink]
    split_ifs <;> rfl

@[simp] theorem restoreStep_withLink (id : Nat) : restoreStep id (s.withLink x) = (restoreStep id s).withLink x := by
  unfold restoreStep
  simp only [findTenant_withLink, restoreCandidates_withLink]
  split
  · next t n _ _ _ =>
    have hallowed : restoreAllowed (s.withLink x) t (powerAtShed (s.withLink x) n) =
        restoreAllowed s t (powerAtShed s n) := rfl
    have hrecord : makeRecord (s.withLink x) .restore t 0 [n] = makeRecord s .restore t 0 [n] := rfl
    rw [hallowed, hrecord]
    split <;> simp [restoreOutlet]
  · rfl

@[simp] theorem beginExcursion_withLink (t : Tenant) :
    beginExcursion t (s.withLink x) = (beginExcursion t s).withLink x :=
  (congrArg (raise .excess) (appendRecord_withLink x s _)).trans (raise_withLink ..)

@[simp] theorem endExcursion_withLink (t : Tenant) : endExcursion t (s.withLink x) = (endExcursion t s).withLink x :=
  appendRecord_withLink x (setTenant t.id (fun u => { u with standing := standingByDemand u }) s) _

@[simp] theorem enterCurtail_withLink (id n : Nat) : enterCurtail id n (s.withLink x) = (enterCurtail id n s).withLink x :=
  rfl

@[simp] theorem runRound_withLink (id : Nat) : runRound id (s.withLink x) = (runRound id s).withLink x := by
  simp [runRound]

@[simp] theorem attemptRestore_withLink (id : Nat) :
    attemptRestore id (s.withLink x) = (attemptRestore id s).withLink x := by simp [attemptRestore]

@[simp] theorem applyStanding_withLink (c : StandingCase) (t : Tenant) :
    applyStanding c t (s.withLink x) = (applyStanding c t s).withLink x := by
  cases c <;> simp [applyStanding]

@[simp] theorem tenantFigures_withLink (id : Nat) : tenantFigures id (s.withLink x) = (tenantFigures id s).withLink x := by
  unfold tenantFigures
  simp only [findTenant_withLink]
  split
  · rfl
  · next t _ =>
    have hfigures : closeFigures (s.withLink x) t = closeFigures s t := rfl
    simp only [hfigures, setTenant_withLink, tenantCase_withLink]
    split
    · rfl
    · split_ifs <;> simp

@[simp] theorem tenantStanding_withLink (id : Nat) :
    tenantStanding id (s.withLink x) = (tenantStanding id s).withLink x := by
  unfold tenantStanding
  simp only [findTenant_withLink, tenantCase_withLink]
  split
  · rfl
  · split <;> simp

@[simp] theorem tenantDeparture_withLink (id : Nat) :
    tenantDeparture id (s.withLink x) = (tenantDeparture id s).withLink x := by
  unfold tenantDeparture
  simp only [findTenant_withLink, shedOutlets_withLink]
  split
  · rfl
  · by_cases hshed : shedOutlets s id = [] <;> simp [hshed]

@[simp] theorem evaluateTenant_withLink (id : Nat) :
    evaluateTenant id (s.withLink x) = (evaluateTenant id s).withLink x := by
  by_cases hattempts : attemptsRestore id s = true <;> simp [evaluateTenant, hattempts]

@[simp] theorem closeTenant_withLink (id : Nat) : closeTenant (s.withLink x) id = (closeTenant s id).withLink x := by
  simp [closeTenant]

@[simp] theorem finishTenant_withLink (stage : CloseStage) (id : Nat) :
    finishTenant stage id (s.withLink x) = (finishTenant stage id s).withLink x := by
  cases stage <;> simp [finishTenant]

/-! ## The roster's part of a tick completion -/

theorem becomeLate_withLink (n : Nat) : becomeLate n (s.withLink x) = (becomeLate n s).withLink x := rfl

theorem testAlone_withLink : testAlone (s.withLink x) = (testAlone s).withLink x := by
  have habsent : allAbsent (s.withLink x) = allAbsent s := rfl
  simp only [testAlone, enterAlone_eq, withLink_monitor, habsent]
  split_ifs <;> rfl

theorem expireStation_withLink (n : Nat) : expireStation n (s.withLink x) = (expireStation n s).withLink x :=
  testAlone_withLink x (expired n s)

theorem settleRoster_withLink : settleRoster (s.withLink x) = (settleRoster s).withLink x := by
  have hlate (u : State) (n : Nat) : (if lateDue (u.withLink x) n then becomeLate n (u.withLink x) else u.withLink x) =
      (if lateDue u n then becomeLate n u else u).withLink x := by
    have hdue : lateDue (u.withLink x) n = lateDue u n := rfl
    cases h : lateDue u n <;> simp [hdue, h, becomeLate_withLink]
  have hexpiry (u : State) (n : Nat) :
      (if expiryDue (u.withLink x) n then expireStation n (u.withLink x) else u.withLink x) =
      (if expiryDue u n then expireStation n u else u).withLink x := by
    have hdue : expiryDue (u.withLink x) n = expiryDue u n := rfl
    cases h : expiryDue u n <;> simp [hdue, h, expireStation_withLink]
  simp only [settleRoster]
  rw [List.foldl_hom (State.withLink · x) hlate, List.foldl_hom (State.withLink · x) hexpiry]

end

/-! ## The frame assembler -/

theorem endWarmupClose_withLink (x : Transceiver) (s : State) :
    endWarmupClose (s.withLink x) = (endWarmupClose s).withLink x := by
  have hphase : closePhase (s.withLink x) = closePhase s := rfl
  simp only [endWarmupClose, hphase]
  split <;> rfl

/-- The report of a close leaves the frame assembler (R34, R55). -/
theorem endClose_withAssembler (a : Assembler) (s : State) :
    endClose (s.withLink { s.link with assembler := a }) =
      (endClose s).withLink { (endClose s).link with assembler := a } := by
  simp only [endClose, endWarmupClose_withLink, publishReport, withLink_link, withLink_monitor, endWarmupClose_link]
  split_ifs <;> simp <;> rfl

/-- A close reads and changes of the Link Transceiver the report buffers alone (R34, R55). -/
theorem finishClose_withAssembler (a : Assembler) (s : State) :
    finishClose (s.withLink { s.link with assembler := a }) =
      (finishClose s).withLink { (finishClose s).link with assembler := a } := by
  unfold finishClose
  simp only [withLink_closeInHand]
  split
  · rfl
  · exact endClose_withAssembler a s
  · next stage id rest _ =>
    have hwork (x : Transceiver) : rest.foldl closeTenant (finishTenant stage id (s.withLink x)) =
        (rest.foldl closeTenant (finishTenant stage id s)).withLink x := by
      rw [finishTenant_withLink]
      exact List.foldl_hom (·.withLink x) fun u n => closeTenant_withLink x u n
    have hlink : (rest.foldl closeTenant (finishTenant stage id s)).link = s.link := by
      rw [foldl_keeps State.link closeTenant (by simp), finishTenant_link]
    rw [hwork, ← hlink]
    exact endClose_withAssembler a _

end Sys2Proof.Machine
end

section
/-! SUPPORT. One entry of a report (R63 to R68): what each case of it makes of the table, the masks and the latches, and
what it leaves of the other pairs of the report's source. -/

namespace Sys2Proof.Machine

/-! ## Entries and masks of a pair -/

/-- The overflow bit of a station in the mask of a tenant, where that tenant is local (R62). -/
def pairMask (s : State) (src id : Nat) : Option Bool := (findTenant s id).map fun r => hasStation r.overflow src

theorem findEntry_congr {s t : State} (h : t.table = s.table) (src id : Nat) : findEntry t src id = findEntry s src id := by
  simp [findEntry, h]

theorem findTenant_congr {s t : State} (h : t.recon = s.recon) (id : Nat) : findTenant t id = findTenant s id := by
  simp [findTenant, h]

theorem pairMask_congr {s t : State} (h : t.recon = s.recon) (src id : Nat) : pairMask t src id = pairMask s src id := by
  simp [pairMask, findTenant_congr h]

theorem findEntry_removeEntry (a b c d : Nat) (s : State) :
    findEntry (removeEntry a b s) c d = if c = a ∧ d = b then none else findEntry s c d := by
  split
  · next hpair =>
    refine findEntry_eq_none.mpr fun x hx hx' => ?_
    have hkept := (List.mem_filter.mp hx).2
    simp [hx', hpair] at hkept
  · next hpair =>
    simp only [findEntry, removeEntry, withTable_table, List.find?_filter]
    congr 1
    funext x
    rw [Bool.eq_iff_iff]
    simp only [Bool.and_eq_true, Bool.not_eq_true', Bool.and_eq_false_iff, beq_iff_eq, beq_eq_false_iff_ne,
      decide_eq_true_eq]
    constructor
    · exact And.right
    · rintro ⟨rfl, rfl⟩
      exact ⟨not_and_or.mp hpair, rfl, rfl⟩

/-- The entry of a new pair is the one found for it (R65). -/
theorem find?_orderedInsert {x : Entry} {l : List Entry} (p : Entry → Bool) (hnew : p x = true → ∀ y ∈ l, p y = false) :
    (l.orderedInsert (fun a b => entryBefore a b = true) x).find? p = if p x = true then some x else l.find? p := by
  induction l with
  | nil =>
    rw [List.orderedInsert, List.find?_cons]
    cases p x <;> rfl
  | cons y l ih =>
    rw [List.orderedInsert]
    split
    · rw [List.find?_cons]
      cases p x <;> rfl
    · rw [List.find?_cons, ih fun hx z hz => hnew hx z (.tail _ hz)]
      by_cases hx : p x = true
      · simp [hnew hx y (.head _), hx]
      · simp only [hx, Bool.false_eq_true, if_false, List.find?_cons]

section

variable {s : State} {src : Nat}

/-- The bits of a tenant follow what becomes of its mask; the other tenants' bits stay. -/
theorem pairMask_setMask (f : StationSet → StationSet) (id i : Nat) :
    pairMask (setTenant id (fun r => { r with overflow := f r.overflow }) s) src i =
      if i = id then (findTenant s i).map fun r => hasStation (f r.overflow) src else pairMask s src i := by
  have hfound := findTenant_setTenant id i (fun r => { r with overflow := f r.overflow }) s fun _ => rfl
  rw [pairMask, hfound]
  cases hr : findTenant s i with
  | none => simp [pairMask, hr]
  | some r => by_cases hid : i = id <;> simp [pairMask, hr, findTenant_id hr, hid]

/-- A tenant whose bit is cleared has it clear, if it is local. -/
theorem pairMask_clearOverflowBit (hsrc : 1 ≤ src) (id : Nat) :
    pairMask (clearOverflowBit src id s) src id = (pairMask s src id).map fun _ => false := by
  refine (pairMask_setMask (dropStation · src) id id).trans ?_
  rw [if_pos rfl, pairMask, Option.map_map]
  congr 1
  funext r
  exact hasStation_dropStation_self _ hsrc

theorem pairMask_clearOverflowBit_other {id i : Nat} (h : i ≠ id) (n : Nat) :
    pairMask (clearOverflowBit n id s) src i = pairMask s src i :=
  (pairMask_setMask (dropStation · n) id i).trans (if_neg h)

/-- A tenant whose bit is set has it set, if it is local. -/
theorem pairMask_setOverflowBit (hsrc : 1 ≤ src) (hsrc' : src ≤ 16) (id : Nat) :
    pairMask (setOverflowBit src id s) src id = (pairMask s src id).map fun _ => true := by
  refine (pairMask_setMask (addStation · src) id id).trans ?_
  rw [if_pos rfl, pairMask, Option.map_map]
  congr 1
  funext r
  simp [hasStation_addStation _ hsrc, hsrc']

/-- A station's bit in another tenant's mask stays, and so does another station's bit. -/
theorem pairMask_setOverflowBit_other {n id i : Nat} (h : i ≠ id ∨ n - 1 ≠ src - 1) :
    pairMask (setOverflowBit n id s) src i = pairMask s src i := by
  refine (pairMask_setMask (addStation · n) id i).trans ?_
  split
  · next hid =>
    have hplace : n - 1 ≠ src - 1 := h.resolve_left (not_not.mpr hid)
    simp [pairMask, hasStation, addStation, hplace]
  · rfl

end

/-! ## The cases of one entry -/

/-- The entry that a new pair gets (R65). -/
def newEntry (src : Nat) (e : ReportEntry) (r : Tenant) : Entry :=
  ⟨src, e.tenant, min 960000 e.value, e.shed, e.unmeasured, !hasStation r.expected src⟩

section

variable {s : State} {src : Nat} {e : ReportEntry} {r : Tenant}

/-- A tenant that is not local has no entry (R63). -/
theorem applyEntry_foreign (htenant : findTenant s e.tenant = none) : applyEntry src s e = s := by
  simp [applyEntry, htenant]

/-- An entry that is held is updated (R64). -/
theorem applyEntry_held (htenant : findTenant s e.tenant = some r) (hheld : findEntry s src e.tenant ≠ none) :
    applyEntry src s e = updateEntry src e s := by
  simp [applyEntry, htenant, Option.isSome_iff_ne_none.mpr hheld]

/-- A new pair gets an entry while there is room (R65). -/
theorem applyEntry_added (htenant : findTenant s e.tenant = some r) (hnew : findEntry s src e.tenant = none)
    (hroom : s.table.length < 128) : applyEntry src s e = createEntry src e r s := by
  simp [applyEntry, htenant, hnew, Config.tableLimit, hroom]

theorem applyEntry_full (htenant : findTenant s e.tenant = some r) (hnew : findEntry s src e.tenant = none)
    (hfull : 128 ≤ s.table.length) : applyEntry src s e = applyToFullTable src e r s := by
  simp [applyEntry, htenant, hnew, Config.tableLimit, Nat.not_lt.mpr hfull]

/-- In a full table it takes the place of the victim (R66, R67). -/
theorem applyEntry_evicts {v : Entry} (htenant : findTenant s e.tenant = some r)
    (hnew : findEntry s src e.tenant = none) (hfull : 128 ≤ s.table.length) (hv : victim s = some v) :
    applyEntry src s e = raise .tableFull
      (createEntry src e r (setOverflowBit v.source v.tenant (removeEntry v.source v.tenant s))) := by
  rw [applyEntry_full htenant hnew hfull, applyToFullTable, hv]

/-- With no victim it is refused (R68). -/
theorem applyEntry_refused (htenant : findTenant s e.tenant = some r) (hnew : findEntry s src e.tenant = none)
    (hfull : 128 ≤ s.table.length) (hv : victim s = none) :
    applyEntry src s e = raise .tableFull (setOverflowBit src e.tenant s) := by
  rw [applyEntry_full htenant hnew hfull, applyToFullTable, hv]

/-- The cases of R63 to R68: an entry of a tenant that is not local, an update, a new entry, an eviction, a refusal. -/
inductive EntryCase (src : Nat) (e : ReportEntry) (s : State) : Prop
  | foreign (htenant : findTenant s e.tenant = none) (heq : applyEntry src s e = s)
  | held (r : Tenant) (htenant : findTenant s e.tenant = some r) (x : Entry) (hx : findEntry s src e.tenant = some x)
    (heq : applyEntry src s e = updateEntry src e s)
  | added (r : Tenant) (htenant : findTenant s e.tenant = some r) (hnew : findEntry s src e.tenant = none)
    (hroom : s.table.length < 128) (heq : applyEntry src s e = createEntry src e r s)
  | evicts (r : Tenant) (htenant : findTenant s e.tenant = some r) (hnew : findEntry s src e.tenant = none)
    (hfull : 128 ≤ s.table.length) (v : Entry) (hv : victim s = some v)
    (heq : applyEntry src s e = raise .tableFull
      (createEntry src e r (setOverflowBit v.source v.tenant (removeEntry v.source v.tenant s))))
  | refused (r : Tenant) (htenant : findTenant s e.tenant = some r) (hnew : findEntry s src e.tenant = none)
    (hfull : 128 ≤ s.table.length) (hv : victim s = none)
    (heq : applyEntry src s e = raise .tableFull (setOverflowBit src e.tenant s))

theorem applyEntry_cases (src : Nat) (e : ReportEntry) (s : State) : EntryCase src e s := by
  cases htenant : findTenant s e.tenant with
  | none => exact .foreign htenant (applyEntry_foreign htenant)
  | some r =>
    cases hx : findEntry s src e.tenant with
    | some x => exact .held r htenant x hx (applyEntry_held htenant (by simp [hx]))
    | none =>
      rcases Nat.lt_or_ge s.table.length 128 with hroom | hfull
      · exact .added r htenant hx hroom (applyEntry_added htenant hx hroom)
      · cases hv : victim s with
        | none => exact .refused r htenant hx hfull hv (applyEntry_refused htenant hx hfull hv)
        | some v => exact .evicts r htenant hx hfull v hv (applyEntry_evicts htenant hx hfull hv)

@[simp] theorem createEntry_table : (createEntry src e r s).table =
    s.table.orderedInsert (fun a b => entryBefore a b = true) (newEntry src e r) := by
  simp only [createEntry]
  split <;> rfl

@[simp] theorem createEntry_recon : (createEntry src e r s).recon = (clearOverflowBit src e.tenant s).recon := by
  simp only [createEntry]
  split <;> rfl

/-- A source that is not expected is reported by UNEXPECTED_HOST (R65). -/
theorem createEntry_alert : (createEntry src e r s).alert =
    if hasStation r.expected src then s.alert else (raise .unexpectedHost s).alert := by
  cases hexpected : hasStation r.expected src <;> simp [createEntry, hexpected, raise]

theorem findEntry_createEntry (hnew : findEntry s src e.tenant = none) (a b : Nat) :
    findEntry (createEntry src e r s) a b =
      if a = src ∧ b = e.tenant then some (newEntry src e r) else findEntry s a b := by
  have hfree := findEntry_eq_none.mp hnew
  have hpair : ((newEntry src e r).source == a && (newEntry src e r).tenant == b) = true ↔ a = src ∧ b = e.tenant := by
    simp only [newEntry, Bool.and_eq_true, beq_iff_eq]
    exact and_congr eq_comm eq_comm
  rw [findEntry, createEntry_table, find?_orderedInsert]
  · simp only [hpair, findEntry]
  · intro hx y hy
    obtain ⟨rfl, rfl⟩ := hpair.mp hx
    simpa using hfree y hy

theorem findEntry_updateEntry (a b : Nat) : findEntry (updateEntry src e s) a b = (findEntry s a b).map fun y =>
    if y.source = src ∧ y.tenant = e.tenant then
      { y with value := min 960000 e.value, shed := e.shed, unmeasured := e.unmeasured }
    else y := by
  simp only [findEntry, updateEntry, clearOverflowBit_table, withTable_table, List.find?_map]
  congr 2
  funext y
  simp only [Function.comp]
  split <;> rfl

@[simp] theorem updateEntry_recon : (updateEntry src e s).recon = (clearOverflowBit src e.tenant s).recon := rfl

/-- A victim's station has another bit than the source of a report, whose record is LIVE (R66). -/
theorem victim_place {v : Entry} (hlive : (rosterRecord s src).state = .live) (hv : victim s = some v) :
    v.source - 1 ≠ src - 1 := by
  intro hplace
  have hlate := (victim_some hv).2
  rw [show rosterRecord s v.source = rosterRecord s src by rw [rosterRecord, hplace, rosterRecord], hlive] at hlate
  cases hlate

/-- The other pairs of the report's source keep their entry and their bit (R61). -/
theorem applyEntry_other {id : Nat} (hlive : (rosterRecord s src).state = .live) (hid : id ≠ e.tenant) :
    findEntry (applyEntry src s e) src id = findEntry s src id ∧ pairMask (applyEntry src s e) src id = pairMask s src id := by
  cases applyEntry_cases src e s with
  | foreign _ heq => rw [heq]; exact ⟨rfl, rfl⟩
  | held r _ x _ heq =>
    rw [heq, findEntry_updateEntry, pairMask_congr updateEntry_recon, pairMask_clearOverflowBit_other hid]
    refine ⟨?_, rfl⟩
    cases hx : findEntry s src id with
    | none => rfl
    | some y => simp [(findEntry_some hx).2.2, hid]
  | added r _ hnew _ heq =>
    rw [heq, findEntry_createEntry hnew, if_neg fun h => hid h.2, pairMask_congr createEntry_recon,
      pairMask_clearOverflowBit_other hid]
    exact ⟨rfl, rfl⟩
  | evicts r _ hnew _ v hv heq =>
    have hplace := victim_place hlive hv
    have hremoved (i : Nat) : findEntry (setOverflowBit v.source v.tenant (removeEntry v.source v.tenant s)) src i =
        findEntry s src i := by
      rw [findEntry_congr (setOverflowBit_table ..), findEntry_removeEntry, if_neg]
      rintro ⟨rfl, -⟩
      exact hplace rfl
    rw [heq, findEntry_congr (raise_table ..), findEntry_createEntry (by rwa [hremoved]), if_neg fun h => hid h.2,
      hremoved, pairMask_congr (raise_recon ..), pairMask_congr createEntry_recon, pairMask_clearOverflowBit_other hid,
      pairMask_setOverflowBit_other (.inr hplace)]
    exact ⟨rfl, rfl⟩
  | refused r _ _ _ _ heq =>
    rw [heq, findEntry_congr (raise_table ..), findEntry_congr (setOverflowBit_table ..), pairMask_congr (raise_recon ..),
      pairMask_setOverflowBit_other (.inl hid)]
    exact ⟨rfl, rfl⟩

/-- An entry of a report stands in the table as it was reported, or has been refused with TABLE_FULL and its overflow
bit (R64, R65, R68). -/
def Recorded (src : Nat) (e : ReportEntry) (s : State) : Prop :=
  (∃ x, findEntry s src e.tenant = some x ∧ x.value = min 960000 e.value ∧ x.shed = e.shed ∧
    x.unmeasured = e.unmeasured ∧ pairMask s src e.tenant = some false) ∨
  (findEntry s src e.tenant = none ∧ pairMask s src e.tenant = some true ∧ latched s .tableFull = true)

/-- An entry of a local tenant is recorded (R64, R65, R67, R68). -/
theorem applyEntry_recorded (hsrc : 1 ≤ src) (hsrc' : src ≤ 16) (hlive : (rosterRecord s src).state = .live)
    (hlocal : (findTenant s e.tenant).isSome = true) : Recorded src e (applyEntry src s e) := by
  obtain ⟨r', hr'⟩ := Option.isSome_iff_exists.mp hlocal
  have hcleared : pairMask (clearOverflowBit src e.tenant s) src e.tenant = some false := by
    rw [pairMask_clearOverflowBit hsrc, pairMask, hr']
    rfl
  cases applyEntry_cases src e s with
  | foreign hnone _ => simp [hr'] at hnone
  | held r _ x hx heq =>
    obtain ⟨-, hsource, htenant⟩ := findEntry_some hx
    rw [heq]
    refine .inl ⟨{ x with value := min 960000 e.value, shed := e.shed, unmeasured := e.unmeasured }, ?_, rfl, rfl, rfl,
      (pairMask_congr updateEntry_recon ..).trans hcleared⟩
    simp [findEntry_updateEntry, hx, hsource, htenant]
  | added r _ hnew _ heq =>
    rw [heq]
    refine .inl ⟨newEntry src e r, ?_, rfl, rfl, rfl, (pairMask_congr createEntry_recon ..).trans hcleared⟩
    rw [findEntry_createEntry hnew, if_pos ⟨rfl, rfl⟩]
  | evicts r _ hnew _ v hv heq =>
    have hplace := victim_place hlive hv
    rw [heq]
    refine .inl ⟨newEntry src e r, ?_, rfl, rfl, rfl, ?_⟩
    · rw [findEntry_congr (raise_table ..), findEntry_createEntry, if_pos ⟨rfl, rfl⟩]
      rw [findEntry_congr (setOverflowBit_table ..), findEntry_removeEntry, hnew, ite_self]
    · rw [pairMask_congr (raise_recon ..), pairMask_congr createEntry_recon, pairMask_clearOverflowBit hsrc,
        pairMask_setOverflowBit_other (.inr hplace)]
      simp [pairMask, findTenant_congr (removeEntry_recon ..), hr']
  | refused r _ hnew _ _ heq =>
    rw [heq]
    refine .inr ⟨?_, ?_, by simp⟩
    · rwa [findEntry_congr (raise_table ..), findEntry_congr (setOverflowBit_table ..)]
    · rw [pairMask_congr (raise_recon ..), pairMask_setOverflowBit hsrc hsrc', pairMask, hr']
      rfl

/-- No entry clears a latch (R147). -/
theorem latched_applyEntry {k : EventKind} (h : latched s k = true) : latched (applyEntry src s e) k = true := by
  have hcreate (u : State) (t : Tenant) (hu : latched u k = true) : latched (createEntry src e t u) k = true := by
    rw [latched, createEntry_alert]
    split
    · exact hu
    · exact (latched_raise ..).trans (by simp [hu])
  cases applyEntry_cases src e s with
  | foreign _ heq => rwa [heq]
  | held _ _ _ _ heq => rwa [heq]
  | added r _ _ _ heq => rw [heq]; exact hcreate s r h
  | evicts r _ _ _ v _ heq =>
    rw [heq, latched_raise, hcreate (setOverflowBit v.source v.tenant (removeEntry v.source v.tenant s)) r h, Bool.true_or]
  | refused _ _ _ _ _ heq =>
    rw [heq, latched_raise, show latched (setOverflowBit src e.tenant s) k = latched s k from rfl, h, Bool.true_or]

/-- A recorded entry stays recorded through the entries of other tenants (R61). -/
theorem Recorded.applyEntry {e' : ReportEntry} (h : Recorded src e s) (hlive : (rosterRecord s src).state = .live)
    (hid : e.tenant ≠ e'.tenant) : Recorded src e (applyEntry src s e') := by
  obtain ⟨hentry, hmask⟩ := applyEntry_other hlive hid
  unfold Recorded
  rw [hentry, hmask]
  exact h.imp id fun ⟨hnone, hset, hfull⟩ => ⟨hnone, hset, latched_applyEntry hfull⟩

/-- No entry adds or changes an entry of another source (R61). -/
theorem applyEntry_otherSource {x : Entry} (hx : x ∈ (applyEntry src s e).table) (hsource : x.source ≠ src) :
    x ∈ s.table := by
  have hinsert {l : List Entry} {t : Tenant}
      (h : x ∈ l.orderedInsert (fun a b => entryBefore a b = true) (newEntry src e t)) : x ∈ l := by
    rcases (List.mem_orderedInsert _).mp h with rfl | h
    · exact absurd rfl hsource
    · exact h
  cases applyEntry_cases src e s with
  | foreign _ heq => rwa [heq] at hx
  | held _ _ _ _ heq =>
    rw [heq] at hx
    obtain ⟨y, hy, rfl⟩ := List.mem_map.mp hx
    split at hsource
    · next hpair => exact absurd hpair.1 hsource
    · next hpair => rwa [if_neg hpair]
  | added r _ _ _ heq =>
    rw [heq, createEntry_table] at hx
    exact hinsert hx
  | evicts r _ _ _ v _ heq =>
    rw [heq, raise_table, createEntry_table] at hx
    exact List.mem_of_mem_filter (hinsert hx)
  | refused _ _ _ _ _ heq => rwa [heq] at hx

@[simp] theorem tenantIds_applyEntry : tenantIds (applyEntry src s e) = tenantIds s := by
  have hcongr {u v : State} (h : u.recon = v.recon) : tenantIds u = tenantIds v := by simp [tenantIds, h]
  cases applyEntry_cases src e s with
  | foreign _ heq => rw [heq]
  | held _ _ _ _ heq => rw [heq, hcongr updateEntry_recon, tenantIds_clearOverflowBit]
  | added _ _ _ _ heq => rw [heq, hcongr createEntry_recon, tenantIds_clearOverflowBit]
  | evicts _ _ _ _ _ _ heq =>
    rw [heq, hcongr (raise_recon ..), hcongr createEntry_recon, tenantIds_clearOverflowBit, tenantIds_setOverflowBit,
      tenantIds_removeEntry]
  | refused _ _ _ _ _ heq => rw [heq, hcongr (raise_recon ..), tenantIds_setOverflowBit]

end

end Sys2Proof.Machine
end

section
/-! SUPPORT. A report that is taken (R51, R61 to R69): the state in which its frame is heard, its entries one after
another, and the tenants that it does not name. -/

namespace Sys2Proof.Machine

/-! ## The roster's part of a tick completion -/

section

variable (s : State)

@[simp] theorem settleRoster_link : (settleRoster s).link = s.link := by
  have hself : s.withLink s.link = s := rfl
  have hlink := congrArg State.link (settleRoster_withLink s.link s)
  rwa [hself, withLink_link] at hlink

/-- What each LATE record and each expiry keeps, the roster's part of a tick completion keeps. -/
theorem settleRoster_keeps {P : State → Prop} (h : P s) (hlate : ∀ u n, P u → P (becomeLate n u))
    (hexpiry : ∀ u n, P u → P (expireStation n u)) : P (settleRoster s) := by
  refine List.foldlRecOn _ _ (List.foldlRecOn _ _ h fun u hu n _ => ?_) fun u hu n _ => ?_
  · split
    · exact hlate u n hu
    · exact hu
  · split
    · exact hexpiry u n hu
    · exact hu

@[simp] theorem settleRoster_length : (settleRoster s).roster.length = s.roster.length :=
  settleRoster_keeps s (P := fun u => u.roster.length = s.roster.length) rfl
    (fun u n hu => by simpa [becomeLate] using hu) fun u n hu => by simpa [expireStation_eq, expired] using hu

@[simp] theorem tenantIds_settleRoster : tenantIds (settleRoster s) = tenantIds s :=
  settleRoster_keeps s (P := fun u => tenantIds u = tenantIds s) rfl (fun _ _ hu => hu) fun u n hu => by
    simpa [tenantIds, expireStation_eq, expired, Function.comp_def] using hu

/-- Expiries only take entries out (R53). -/
theorem settleRoster_table {x : Entry} (hx : x ∈ (settleRoster s).table) : x ∈ s.table :=
  settleRoster_keeps s (P := fun u => ∀ x ∈ u.table, x ∈ s.table) (fun _ => id) (fun _ _ hu => hu)
    (fun u n hu x hx => by
      rw [expireStation_eq, testAlone_table] at hx
      exact hu x (List.mem_of_mem_filter hx)) x hx

/-- The Link Monitor is left, or JOINED has been left for ALONE (R47). -/
theorem settleRoster_monitor : (settleRoster s).monitor = s.monitor ∨ (s.monitor.link = .joined ∧
    (settleRoster s).monitor = { s.monitor with link := .alone, charErrors := 0, heard := false }) := by
  refine settleRoster_keeps s (P := fun u => u.monitor = s.monitor ∨ (s.monitor.link = .joined ∧
    u.monitor = { s.monitor with link := .alone, charErrors := 0, heard := false })) (.inl rfl) (fun _ _ hu => hu)
    fun u n hu => ?_
  rw [expireStation_eq]
  by_cases halone : (expired n u).monitor.link = .joined ∧ ∀ r ∈ (expired n u).roster, r.state = .absent
  · rw [testAlone_absent halone.1 halone.2]
    rcases hu with hu | ⟨-, hu⟩
    · exact .inr ⟨hu ▸ halone.1, by simp [expired, hu]⟩
    · exact absurd halone.1 (by simp [expired, hu])
  · rw [testAlone_rest fun hlink habsent => halone ⟨hlink, habsent⟩]
    exact hu

/-- The search goes on, and nothing starts it (R39, R47). -/
theorem settleRoster_search : (settleRoster s).monitor.link = .search ↔ s.monitor.link = .search := by
  rcases settleRoster_monitor s with h | ⟨hjoined, h⟩
  · rw [h]
  · simp [h, hjoined]

end

/-! ## The frame that brings a report -/

/-- The hearing of a frame whose characters have been judged (R24, R25, R41). -/
theorem hearFrame_eq_heard (u : State) :
    (if u.monitor.link = .search then adoptRate (hearFrame (u.withLink { u.link with assembler := .waitQuiet }))
      else hearFrame (u.withLink { u.link with assembler := .waitQuiet })) = heard u := by
  by_cases hsearch : u.monitor.link = .search <;>
    simp [heard, hsearch, adoptRate_eq, hearFrame, State.withMonitor, State.withLink]

/-- A frame that brings a report is heard once the close in hand is finished and the roster has taken what was due (R77;
log entries 7 and 26). -/
theorem completeFrame_report {s : State} {b : List Byte} (h : completedFrame s = some b) (hvalid : linkValid b = true)
    (hreport : bringsReport b s = true) : completeFrame s =
      if s.monitor.link = .search then testAlone (deliverByKind b (heard (settleRoster (finishClose s))))
      else deliverByKind b (heard (settleRoster (finishClose s))) := by
  have hsettled : settleForReport b (s.withLink { s.link with assembler := .waitQuiet }) =
      (settleRoster (finishClose s)).withLink
        { (settleRoster (finishClose s)).link with assembler := .waitQuiet } := by
    rw [settleForReport, if_pos (by exact hreport), finishClose_withAssembler, settleRoster_withLink, settleRoster_link]
  have hsearch : (settleRoster (finishClose s)).monitor.link = .search ↔ s.monitor.link = .search := by
    rw [settleRoster_search, finishClose_monitor]
  simp only [completeFrame, h, hvalid, if_true, deliverFrame, hsettled, withLink_monitor, ← hearFrame_eq_heard, hsearch]
  split_ifs <;> rfl

/-! ## The tenants that are not named (R69) -/

/-- The report names this tenant. -/
def names (es : List ReportEntry) (id : Nat) : Bool := es.any fun e => e.tenant == id

/-- A report's end: the local tenants it does not name have neither an entry of its source nor its overflow bit, and
ALONE becomes JOINED (R46, R69). -/
def endReport (src : Nat) (es : List ReportEntry) (v : State) : State := { v with
  monitor := { v.monitor with link := if v.monitor.link = .alone then .joined else v.monitor.link }
  table := v.table.filter fun x => x.source != src || names es x.tenant || !v.recon.tenants.any fun r => r.id == x.tenant
  recon := { v.recon with
    tenants := v.recon.tenants.map fun r =>
      if names es r.id then r else { r with overflow := dropStation r.overflow src } } }

/-- The omission of some tenants (R69). -/
theorem foldl_omitTenant (src : Nat) (ids : List Nat) (s : State) : ids.foldl (omitTenant src) s = { s with
    table := s.table.filter fun x => !(x.source == src && ids.contains x.tenant)
    recon := { s.recon with
      tenants := s.recon.tenants.map fun r =>
        if ids.contains r.id then { r with overflow := dropStation r.overflow src } else r } } := by
  induction ids generalizing s with
  | nil => simp
  | cons id ids ih =>
    rw [List.foldl_cons, ih]
    have htable : (omitTenant src s id).table = s.table.filter fun x => !(x.source == src && x.tenant == id) := rfl
    have hrecon : (omitTenant src s id).recon.tenants = s.recon.tenants.map fun r =>
        if r.id = id then { r with overflow := dropStation r.overflow src } else r := rfl
    have hframe : omitTenant src s id =
        { s with table := (omitTenant src s id).table, recon := (omitTenant src s id).recon } := rfl
    rw [hframe]
    simp only [htable, hrecon, List.filter_filter, List.map_map]
    congr 2
    · funext x
      by_cases hid : x.tenant = id
      · cases hsource : x.source == src <;> simp [hid]
      · simp [hid]
    · congr 1
      funext r
      by_cases hid : r.id = id
      · by_cases hmem : ids.contains r.id = true <;> simp [hid, dropStation_dropStation]
      · simp [hid]

/-- The state in which the entries of a report are applied: the frame is heard, and its source is LIVE with age 0 (R51). -/
def reportFrom (src ticks : Nat) (s : State) : State := setRosterRecord src ⟨.live, 0, min 50 (max 5 ticks)⟩ s

/-- A report is its source's record, its entries in their order, and its end (R61). -/
theorem takeReport_eq (src ticks : Nat) (es : List ReportEntry) (s : State) :
    takeReport src ticks es s = endReport src es (es.foldl (applyEntry src) (reportFrom src ticks s)) := by
  have hclamp : clampTo 5 50 ticks = min 50 (max 5 ticks) := rfl
  simp only [takeReport, hclamp, foldl_omitTenant]
  generalize hv : es.foldl (applyEntry src) (setRosterRecord src ⟨.live, 0, min 50 (max 5 ticks)⟩ s) = v
  have homitted (id : Nat) : (omittedTenants v es).contains id =
      (!names es id && v.recon.tenants.any fun r => r.id == id) := by
    rw [Bool.eq_iff_iff]
    simp [omittedTenants, names]
    tauto
  have hrecon : (v.recon.tenants.map fun r =>
      if (omittedTenants v es).contains r.id then { r with overflow := dropStation r.overflow src } else r) =
      v.recon.tenants.map fun r => if names es r.id then r else { r with overflow := dropStation r.overflow src } := by
    refine List.map_congr_left fun r hr => ?_
    have hlocal : (v.recon.tenants.any fun r' => r'.id == r.id) = true := by simpa using ⟨r, hr, rfl⟩
    rw [homitted, hlocal]
    cases names es r.id <;> rfl
  have htable : (v.table.filter fun x => !(x.source == src && (omittedTenants v es).contains x.tenant)) =
      v.table.filter fun x =>
        x.source != src || names es x.tenant || !v.recon.tenants.any fun r => r.id == x.tenant := by
    congr 1
    funext x
    rw [homitted]
    cases names es x.tenant <;> cases hsource : x.source == src <;> simp [bne, hsource]
  rw [hrecon, htable, reportFrom, hv, endReport]
  by_cases halone : v.monitor.link = .alone <;>
    simp [halone, setLinkState_sends (.inr rfl), State.withMonitor]

/-! ## What a report leaves -/

/-- A local tenant has a record that is found under its id (R63). -/
theorem findTenant_of_mem {s : State} {id : Nat} (h : id ∈ tenantIds s) : ∃ r, findTenant s id = some r := by
  obtain ⟨r, hr, hid⟩ := mem_tenantIds.mp h
  exact Option.isSome_iff_exists.mp (List.find?_isSome.mpr ⟨r, hr, by simpa using hid⟩)

section

variable (src : Nat) (es : List ReportEntry) (s : State)

@[simp] theorem foldl_applyEntry_monitor : (es.foldl (applyEntry src) s).monitor = s.monitor :=
  foldl_keeps State.monitor _ (fun u e => applyEntry_monitor u src e) es s

@[simp] theorem foldl_applyEntry_link : (es.foldl (applyEntry src) s).link = s.link :=
  foldl_keeps State.link _ (fun u e => applyEntry_link u src e) es s

@[simp] theorem foldl_applyEntry_roster : (es.foldl (applyEntry src) s).roster = s.roster :=
  foldl_keeps State.roster _ (fun u e => applyEntry_roster u src e) es s

@[simp] theorem tenantIds_foldl_applyEntry : tenantIds (es.foldl (applyEntry src) s) = tenantIds s :=
  foldl_keeps tenantIds _ (fun _ _ => tenantIds_applyEntry) es s

/-- The blocks that the entries of a report do not reach. -/
theorem foldl_applyEntry_frame : es.foldl (applyEntry src) s = { s with
    table := (es.foldl (applyEntry src) s).table
    recon := (es.foldl (applyEntry src) s).recon
    alert := (es.foldl (applyEntry src) s).alert } :=
  State.eq_of_blocks (foldl_keeps State.meter _ (by simp) es s) (foldl_keeps State.time _ (by simp) es s)
    (by simp) (by simp) (by simp) rfl rfl (foldl_keeps State.relay _ (by simp) es s) rfl
    (foldl_keeps State.records _ (by simp) es s) (foldl_keeps State.closeInHand _ (by simp) es s)
    (foldl_keeps State.restartPending _ (by simp) es s) (foldl_keeps State.loader _ (by simp) es s)
    (foldl_keeps State.pending _ (by simp) es s)

@[simp] theorem tenantIds_endReport : tenantIds (endReport src es s) = tenantIds s := by
  simp only [tenantIds, endReport, List.map_map]
  refine List.map_congr_left fun r _ => ?_
  simp only [Function.comp]
  split <;> rfl

end

section

variable {src : Nat} {es : List ReportEntry} {s : State}

theorem foldl_applyEntry_otherSource {x : Entry} (hx : x ∈ (es.foldl (applyEntry src) s).table)
    (hsource : x.source ≠ src) : x ∈ s.table :=
  List.foldlRecOn (motive := fun u : State => ∀ x ∈ u.table, x.source ≠ src → x ∈ s.table) es (applyEntry src)
    (fun _ hx _ => hx) (fun _ hu _ _ x hx hsource => hu x (applyEntry_otherSource hx hsource) hsource) x hx hsource

/-- A pair of the report's source that no entry of a local tenant names keeps its entry and its bit (R61, R63). -/
theorem foldl_applyEntry_unnamed {id : Nat} (hlive : (rosterRecord s src).state = .live)
    (hunnamed : ∀ e ∈ es, e.tenant = id → id ∉ tenantIds s) :
    findEntry (es.foldl (applyEntry src) s) src id = findEntry s src id := by
  induction es generalizing s with
  | nil => rfl
  | cons e es ih =>
    rw [List.foldl_cons, ih (by rwa [rosterRecord_congr (applyEntry_roster ..)]) fun e' he' htenant => by
      rw [tenantIds_applyEntry]
      exact hunnamed e' (.tail _ he') htenant]
    by_cases hid : id = e.tenant
    · have hforeign : findTenant s e.tenant = none := by
        by_contra hsome
        obtain ⟨r, hr⟩ := Option.ne_none_iff_exists'.mp hsome
        exact hunnamed e (.head _) hid.symm (mem_tenantIds.mpr ⟨r, findTenant_mem hr, (findTenant_id hr).trans hid.symm⟩)
      rw [applyEntry_foreign hforeign]
    · exact (applyEntry_other hlive hid).1

/-- Every entry of a local tenant is recorded, since no two entries name one tenant (R59, R61). -/
theorem foldl_applyEntry_recorded (hsrc : 1 ≤ src) (hsrc' : src ≤ 16) (hlive : (rosterRecord s src).state = .live)
    (hdistinct : (es.map ReportEntry.tenant).Nodup) {e : ReportEntry} (he : e ∈ es) (hlocal : e.tenant ∈ tenantIds s) :
    Recorded src e (es.foldl (applyEntry src) s) := by
  have hliveAfter (u : State) (e' : ReportEntry) (hu : (rosterRecord u src).state = .live) :
      (rosterRecord (applyEntry src u e') src).state = .live := by rwa [rosterRecord_congr (applyEntry_roster ..)]
  have hstays (es : List ReportEntry) (hother : ∀ e' ∈ es, e.tenant ≠ e'.tenant) (u : State) (hu : Recorded src e u)
      (hl : (rosterRecord u src).state = .live) : Recorded src e (es.foldl (applyEntry src) u) := by
    refine (List.foldlRecOn (motive := fun u => Recorded src e u ∧ (rosterRecord u src).state = .live) es _ ⟨hu, hl⟩
      fun u hu e' he' => ?_).1
    exact ⟨hu.1.applyEntry hu.2 (hother e' he'), hliveAfter u e' hu.2⟩
  induction es generalizing s with
  | nil => cases he
  | cons e' es ih =>
    obtain ⟨hfirst, hrest⟩ := List.nodup_cons.mp hdistinct
    rw [List.foldl_cons]
    rcases List.mem_cons.mp he with rfl | he
    · have hfound := Option.isSome_iff_exists.mpr (findTenant_of_mem hlocal)
      refine hstays es (fun e' he' heq => hfirst ?_) _ (applyEntry_recorded hsrc hsrc' hlive hfound) (hliveAfter s e hlive)
      exact heq ▸ List.mem_map_of_mem he'
    · exact ih (hliveAfter s e' hlive) hrest he (by simpa using hlocal)

/-- The bits after the end of a report (R69). -/
theorem pairMask_endReport (hsrc : 1 ≤ src) (id : Nat) : pairMask (endReport src es s) src id =
    if names es id then pairMask s src id else (pairMask s src id).map fun _ => false := by
  have hfound : findTenant (endReport src es s) id = (findTenant s id).map fun r =>
      if names es r.id then r else { r with overflow := dropStation r.overflow src } := by
    simp only [findTenant, endReport, List.find?_map]
    congr 2
    funext r
    simp only [Function.comp]
    split <;> rfl
  rw [pairMask, hfound, pairMask]
  cases hr : findTenant s id with
  | none => simp
  | some r =>
    cases hnamed : names es id <;> simp [findTenant_id hr, hnamed, hasStation_dropStation_self _ hsrc]

/-- An entry that is named stays through the end of a report, and the entry of an unnamed local tenant goes (R69). -/
theorem findEntry_endReport_named {id : Nat} (h : names es id = true) :
    findEntry (endReport src es s) src id = findEntry s src id := by
  simp only [findEntry, endReport, List.find?_filter]
  congr 1
  funext x
  by_cases htenant : x.tenant = id
  · simp [htenant, h, beq_eq_decide]
  · simp [htenant]

theorem findEntry_endReport_unnamed {id : Nat} (h : names es id = false) (hlocal : id ∈ tenantIds s) :
    findEntry (endReport src es s) src id = none := by
  refine findEntry_eq_none.mpr fun x hx hpair => ?_
  obtain ⟨r, hr, hid⟩ := mem_tenantIds.mp hlocal
  have hkept := (List.mem_filter.mp hx).2
  have hany : (s.recon.tenants.any fun r => r.id == id) = true := by simpa using ⟨r, hr, hid⟩
  simp [hpair.1, hpair.2, h, hany] at hkept

/-- The end of a report makes no entry (R69). -/
theorem findEntry_endReport_none {id : Nat} (h : findEntry s src id = none) :
    findEntry (endReport src es s) src id = none :=
  findEntry_eq_none.mpr fun x hx => findEntry_eq_none.mp h x (List.mem_of_mem_filter hx)

end
end Sys2Proof.Machine
end

section
/-! PROOF. O41: a report is taken whole, entry by entry. -/

namespace Sys2Proof.Machine

/-! ## One entry, exactly -/

/-- The Draw Reconciler with other overflow masks. -/
def withMasks (v : State) (f : Tenant → StationSet) : Reconciler :=
  { v.recon with tenants := v.recon.tenants.map fun t => { t with overflow := f t } }

/-- The mask `m` of a tenant without the report's source, where the entry names that tenant (R64, R65). -/
def clearedMask (src : Nat) (e : ReportEntry) (t : Tenant) (m : StationSet) : StationSet :=
  if t.id = e.tenant then dropStation m src else m

/-- The latch of an unexpected host (R65). -/
def unexpectedLatch (src : Nat) (r : Tenant) : EventSet := if hasStation r.expected src then 0 else 0x0020

section

variable {src : Nat} {e : ReportEntry} {s : State} {r : Tenant}

/-- A change of one tenant's mask, over all tenants. -/
theorem setMask_recon (id : Nat) (f : StationSet → StationSet) (s : State) :
    (setTenant id (fun t => { t with overflow := f t.overflow }) s).recon =
      withMasks s fun t => if t.id = id then f t.overflow else t.overflow := by
  simp only [setTenant, withRecon_recon, withMasks]
  congr 1
  refine List.map_congr_left fun t _ => ?_
  split <;> rfl

theorem clearOverflowBit_recon (n id : Nat) (s : State) : (clearOverflowBit n id s).recon =
    withMasks s fun t => if t.id = id then dropStation t.overflow n else t.overflow :=
  setMask_recon id (dropStation · n) s

theorem setOverflowBit_recon (n id : Nat) (s : State) : (setOverflowBit n id s).recon =
    withMasks s fun t => if t.id = id then addStation t.overflow n else t.overflow :=
  setMask_recon id (addStation · n) s

theorem createEntry_latches : (createEntry src e r s).alert.latches = s.alert.latches ||| unexpectedLatch src r := by
  rw [createEntry_alert, unexpectedLatch]
  split
  · simp
  · rfl

theorem createEntry_mask_gap : (createEntry src e r s).alert.mask = s.alert.mask ∧
    (createEntry src e r s).alert.gap = s.alert.gap := by
  rw [createEntry_alert]
  split <;> exact ⟨rfl, rfl⟩

/-- An update changes the table and the mask of its tenant (R64). -/
theorem updateEntry_eq : updateEntry src e s = { s with
    table := s.table.map fun y =>
      if y.source = src ∧ y.tenant = e.tenant then
        { y with value := min 960000 e.value, shed := e.shed, unmeasured := e.unmeasured }
      else y
    recon := withMasks s fun t => clearedMask src e t t.overflow } := by
  have hframe : updateEntry src e s =
      { s with table := (updateEntry src e s).table, recon := (updateEntry src e s).recon } := rfl
  rw [hframe, updateEntry_recon, clearOverflowBit_recon]
  rfl

/-- The masks that are changed twice. -/
theorem withMasks_withMasks {u v : State} {f g : Tenant → StationSet} (h : u.recon = withMasks v f) :
    withMasks u g = withMasks v fun t => g { t with overflow := f t } := by
  simp only [withMasks, h, List.map_map]
  rfl

theorem mem_removeEntry {a b : Nat} {y : Entry} :
    y ∈ (removeEntry a b s).table ↔ y ∈ s.table ∧ ¬ (y.source = a ∧ y.tenant = b) := by
  simp [removeEntry, imp_iff_not_or]

/-- The entry that is better than every other candidate is the victim (R66). -/
theorem victim_of_best {x : Entry} (hx : x ∈ s.table) (hlate : (rosterRecord s x.source).state = .late)
    (hbest : ∀ y ∈ s.table, (rosterRecord s y.source).state = .late → y = x ∨
      (rosterRecord s y.source).age < (rosterRecord s x.source).age ∨
      ((rosterRecord s y.source).age = (rosterRecord s x.source).age ∧
        (x.source < y.source ∨ (x.source = y.source ∧ x.tenant < y.tenant)))) : victim s = some x := by
  have hbefore {y : Entry} (hy : y ∈ s.table) (hlate : (rosterRecord s y.source).state = .late) (hne : y ≠ x) :
      victimBefore s x y = true ∧ victimBefore s y x = false := by
    have hcases := (hbest y hy hlate).resolve_left hne
    simp only [victimBefore, decide_eq_true_eq, decide_eq_false_iff_not]
    omega
  have hstays (l : List Entry) (hl : ∀ y ∈ l, y ∈ s.table ∧ (rosterRecord s y.source).state = .late) :
      l.foldl (betterVictim s) (some x) = some x := by
    refine List.foldlRecOn (motive := (· = some x)) l _ rfl fun best hbest y hy => ?_
    subst hbest
    by_cases hne : y = x
    · simp [betterVictim, hne]
    · simp [betterVictim, (hbefore (hl y hy).1 (hl y hy).2 hne).2]
  have hfound (l : List Entry) (hl : ∀ y ∈ l, y ∈ s.table ∧ (rosterRecord s y.source).state = .late) (hmem : x ∈ l)
      (best : Option Entry) (hbest : ∀ b, best = some b → b ∈ s.table ∧ (rosterRecord s b.source).state = .late) :
      l.foldl (betterVictim s) best = some x := by
    induction l generalizing best with
    | nil => cases hmem
    | cons y l ih =>
      rw [List.foldl_cons]
      have hl' : ∀ z ∈ l, z ∈ s.table ∧ (rosterRecord s z.source).state = .late := fun z hz => hl z (.tail _ hz)
      by_cases hy : y = x
      · subst hy
        have htaken : betterVictim s best y = some y := by
          cases best with
          | none => rfl
          | some b =>
            by_cases hb : b = y
            · simp [betterVictim, hb]
            · simp [betterVictim, (hbefore (hbest b rfl).1 (hbest b rfl).2 hb).1]
        rw [htaken]
        exact hstays l hl'
      · refine ih hl' ((List.mem_cons.mp hmem).resolve_left fun h => hy h.symm) _ fun b hb => ?_
        rcases foldl_betterVictim_mem s (l := [y]) hb with hmem | hbest'
        · exact hl b (List.mem_singleton.mp hmem ▸ .head _)
        · exact hbest b hbest'
  rw [victim_eq]
  exact hfound _ (fun y hy => by simpa using hy) (by simpa using ⟨hx, hlate⟩) none nofun

/-- Without an entry of a LATE source there is no victim (R66). -/
theorem victim_of_none (h : ∀ y ∈ s.table, ¬ (rosterRecord s y.source).state = .late) : victim s = none := by
  rw [victim_eq, List.filter_eq_nil_iff.mpr fun y hy => by simpa using h y hy]
  rfl

/-- An entry of a report reaches the table, the masks and the latches alone (R61). -/
theorem applyEntry_frame : (applyEntry src s e).alert.mask = s.alert.mask ∧
    (applyEntry src s e).alert.gap = s.alert.gap ∧
    applyEntry src s e = { s with
      table := (applyEntry src s e).table, recon := (applyEntry src s e).recon, alert := (applyEntry src s e).alert } := by
  have halert : (applyEntry src s e).alert.mask = s.alert.mask ∧ (applyEntry src s e).alert.gap = s.alert.gap := by
    cases applyEntry_cases src e s with
    | foreign _ heq => rw [heq]; exact ⟨rfl, rfl⟩
    | held _ _ _ _ heq => rw [heq]; exact ⟨rfl, rfl⟩
    | added _ _ _ _ heq => rw [heq]; exact createEntry_mask_gap
    | evicts _ _ _ _ _ _ heq => rw [heq, raise_mask, raise_gap]; exact createEntry_mask_gap
    | refused _ _ _ _ _ heq => rw [heq]; exact ⟨rfl, rfl⟩
  exact ⟨halert.1, halert.2, foldl_applyEntry_frame src [e] s⟩

end

/-! ## The whole report -/

/-- The checks of R59 that a report which is taken has passed. -/
theorem wellFormed_of_not_malformed {own src : Nat} {p : List Byte} (h : reportMalformed own src p = false) :
    1 ≤ src ∧ src ≤ 16 ∧ src ≠ own ∧ ((reportEntries p).map ReportEntry.tenant).Nodup := by
  simp only [reportMalformed, Bool.or_eq_false_iff, decide_eq_false_iff_not, not_not] at h
  obtain ⟨⟨⟨⟨⟨hsource, -⟩, -⟩, -⟩, -⟩, hdistinct⟩ := h
  exact ⟨by omega, by omega, by omega, hdistinct⟩

/-- A malformed report is not taken (R59). -/
theorem deliverByKind_malformed {b : List Byte} {s : State} (hkind : linkKind b = 1)
    (hpeer : linkSource b ≠ s.loader.station)
    (hmalformed : reportMalformed s.loader.station (linkSource b) (linkPayload b) = true) : deliverByKind b s = s := by
  simp [deliverByKind, hkind, deliverReport, hpeer, hmalformed]

/-- The state in which the entries of a report are applied to what a close and the roster's rows have left (R51, R77). -/
def reportBase (b : List Byte) (w : State) : State :=
  reportFrom (linkSource b) (reportTicks (linkPayload b)) (heard (settleRoster w))

@[simp] theorem heard_roster (u : State) : (heard u).roster = u.roster := rfl
@[simp] theorem heard_table (u : State) : (heard u).table = u.table := rfl
@[simp] theorem heard_loader (u : State) : (heard u).loader = u.loader := rfl
@[simp] theorem tenantIds_heard (u : State) : tenantIds (heard u) = tenantIds u := rfl
@[simp] theorem reportFrom_monitor (src ticks : Nat) (u : State) : (reportFrom src ticks u).monitor = u.monitor := rfl
@[simp] theorem reportFrom_table (src ticks : Nat) (u : State) : (reportFrom src ticks u).table = u.table := rfl
@[simp] theorem tenantIds_reportFrom (src ticks : Nat) (u : State) : tenantIds (reportFrom src ticks u) = tenantIds u := rfl

@[simp] theorem tenantIds_reportBase (b : List Byte) (w : State) : tenantIds (reportBase b w) = tenantIds w := by
  simp [reportBase]

/-- The source of a report is LIVE with age 0 while its entries are applied (R51). -/
theorem rosterRecord_reportBase {b : List Byte} {w : State} (hlength : w.roster.length = 16) (hlow : 1 ≤ linkSource b)
    (hhigh : linkSource b ≤ 16) : rosterRecord (reportBase b w) (linkSource b) =
      ⟨.live, 0, min 50 (max 5 (reportTicks (linkPayload b)))⟩ := by
  have hroster : (heard (settleRoster w)).roster.length = 16 := by simpa using hlength
  rw [reportBase, reportFrom, rosterRecord_setRosterRecord _ hlow hlow (by omega), if_pos rfl]

/-- The link state in which the entries are applied: a search has ended, and JOINED may have been left for ALONE (R41,
R47). -/
theorem reportBase_link {b : List Byte} {w : State} :
    (reportBase b w).monitor.link = w.monitor.link ∧ w.monitor.link ≠ .search ∨
      (reportBase b w).monitor.link = .joined ∧ w.monitor.link = .search ∨
      (reportBase b w).monitor.link = .alone ∧ w.monitor.link = .joined := by
  rw [reportBase, reportFrom_monitor]
  by_cases hsearch : w.monitor.link = .search
  · exact .inr (.inl ⟨heard_joined ((settleRoster_search w).mpr hsearch), hsearch⟩)
  · rw [heard_monitor_rest fun h => hsearch ((settleRoster_search w).mp h)]
    rcases settleRoster_monitor w with h | ⟨hjoined, h⟩
    · exact .inl ⟨by simp [h], hsearch⟩
    · exact .inr (.inr ⟨by simp [h], hjoined⟩)

/-- A report that is taken: its entries, applied to that state, and its end; the roster has a record then, so that R47
finds nothing (R47, R61). -/
theorem completeFrame_taken {s : State} {b : List Byte} (hframe : completedFrame s = some b) (hvalid : linkValid b = true)
    (hkind : linkKind b = 1) (hlength : s.roster.length = 16)
    (hformed : reportMalformed s.loader.station (linkSource b) (linkPayload b) = false) :
    completeFrame s = endReport (linkSource b) (reportEntries (linkPayload b))
      ((reportEntries (linkPayload b)).foldl (applyEntry (linkSource b)) (reportBase b (finishClose s))) := by
  obtain ⟨hlow, hhigh, hpeer, -⟩ := wellFormed_of_not_malformed hformed
  have hstation : (heard (settleRoster (finishClose s))).loader.station = s.loader.station := by simp [heard]
  have hdelivered : deliverByKind b (heard (settleRoster (finishClose s))) =
      endReport (linkSource b) (reportEntries (linkPayload b))
        ((reportEntries (linkPayload b)).foldl (applyEntry (linkSource b)) (reportBase b (finishClose s))) := by
    simp only [deliverByKind, hkind, deliverReport, hstation, hformed, if_neg hpeer]
    exact takeReport_eq ..
  have hpresent : ¬ ∀ r ∈ (endReport (linkSource b) (reportEntries (linkPayload b))
      ((reportEntries (linkPayload b)).foldl (applyEntry (linkSource b)) (reportBase b (finishClose s)))).roster,
      r.state = .absent := by
    intro habsent
    have hrecord := rosterRecord_reportBase (b := b) (w := finishClose s) (by simpa using hlength) hlow hhigh
    have hmem : (⟨.live, 0, min 50 (max 5 (reportTicks (linkPayload b)))⟩ : RosterRecord) ∈
        (reportBase b (finishClose s)).roster := by
      rw [← hrecord, rosterRecord, List.getD_eq_getElem _ _ (by simp [reportBase, reportFrom, heard, hlength]; omega)]
      exact List.getElem_mem _
    have hstate := habsent _ (by simpa [endReport] using hmem)
    cases hstate
  rw [completeFrame_report hframe hvalid (by simp [bringsReport, hkind, hformed]), hdelivered,
    testAlone_rest fun _ => hpresent, ite_self]

/-- The link state that a taken report leaves (R41, R46, R47). -/
theorem link_after_report {b : List Byte} {w : State} :
    (if (reportBase b w).monitor.link = .alone then .joined else (reportBase b w).monitor.link) =
      if w.monitor.link = .alone ∨ w.monitor.link = .search then LinkState.joined else w.monitor.link := by
  rcases reportBase_link (b := b) (w := w) with ⟨hbase, hsearch⟩ | ⟨hbase, hsearch⟩ | ⟨hbase, hjoined⟩
  · simp [hbase, hsearch]
  · simp [hbase, hsearch]
  · simp [hbase, hjoined]

/-- A recorded entry stays recorded through the end of its report (R69). -/
theorem Recorded.endReport {src : Nat} {es : List ReportEntry} {e : ReportEntry} {v : State} (h : Recorded src e v)
    (hsrc : 1 ≤ src) (he : e ∈ es) : Recorded src e (endReport src es v) := by
  have hnamed : names es e.tenant = true := by simpa [names] using ⟨e, he, rfl⟩
  unfold Recorded
  rw [findEntry_endReport_named hnamed, pairMask_endReport hsrc, if_pos hnamed]
  exact h

theorem not_names_iff {es : List ReportEntry} {id : Nat} : names es id = false ↔ ∀ e ∈ es, e.tenant ≠ id := by
  simp [names]

/-- What a report leaves of a local tenant: each entry that names it is recorded, and where none does its source has
neither an entry nor an overflow bit for it (R61, R69). -/
theorem tenant_after_report {src : Nat} {es : List ReportEntry} {v : State} {id : Nat} (hsrc : 1 ≤ src)
    (hrecorded : ∀ e ∈ es, e.tenant = id → Recorded src e v) (hlocal : id ∈ tenantIds v) :
    ∃ r, findTenant (endReport src es v) id = some r ∧
      (∀ e ∈ es, e.tenant = id →
        (∃ x, findEntry (endReport src es v) src id = some x ∧ x.value = min 960000 e.value ∧ x.shed = e.shed ∧
          x.unmeasured = e.unmeasured ∧ hasStation r.overflow src = false) ∨
        (findEntry (endReport src es v) src id = none ∧ hasStation r.overflow src = true ∧
          latched (endReport src es v) .tableFull = true)) ∧
      ((∀ e ∈ es, e.tenant ≠ id) →
        findEntry (endReport src es v) src id = none ∧ hasStation r.overflow src = false) := by
  obtain ⟨r, hr⟩ := findTenant_of_mem ((tenantIds_endReport src es v).symm ▸ hlocal)
  have hbit {x : Bool} (h : pairMask (endReport src es v) src id = some x) : hasStation r.overflow src = x := by
    simpa [pairMask, hr] using h
  refine ⟨r, hr, fun e he htenant => ?_, fun hunnamed => ?_⟩
  · subst htenant
    rcases (hrecorded e he rfl).endReport hsrc he with ⟨x, hx, hvalue, hshed, hunmeasured, hmask⟩ | ⟨hnone, hmask, hfull⟩
    · exact .inl ⟨x, hx, hvalue, hshed, hunmeasured, hbit hmask⟩
    · exact .inr ⟨hnone, hbit hmask, hfull⟩
  · have hnot := not_names_iff.mpr hunnamed
    refine ⟨findEntry_endReport_unnamed hnot hlocal, hbit ?_⟩
    obtain ⟨r', hr'⟩ := findTenant_of_mem hlocal
    rw [pairMask_endReport hsrc, hnot, pairMask, hr']
    rfl

/-- The blocks that a taken report does not reach (R61, R77). -/
theorem report_frame (src : Nat) (es : List ReportEntry) (b : List Byte) (w : State) {t : State}
    (ht : t = endReport src es (es.foldl (applyEntry src) (reportBase b w))) : t = { w with
      link := t.link, monitor := t.monitor, roster := t.roster, table := t.table, recon := t.recon, alert := t.alert } := by
  have hbase : reportBase b w = { w with
      link := (reportBase b w).link, monitor := (reportBase b w).monitor, roster := (reportBase b w).roster
      table := (reportBase b w).table, recon := (reportBase b w).recon, alert := (reportBase b w).alert } := by
    apply State.eq_of_blocks <;> simp [reportBase, reportFrom, heard]
  have hentries := foldl_applyEntry_frame src es (reportBase b w)
  subst ht
  generalize es.foldl (applyEntry src) (reportBase b w) = v at hentries ⊢
  generalize reportBase b w = u at hentries hbase
  rw [hentries, hbase]
  rfl

/-- Settles O41: the frame is heard after the close and the roster's rows, each entry is one of the cases of R63 to R68,
and no entry reaches another pair of the report's source. -/
theorem reportsAreTakenWhole : Obligations.ReportsAreTakenWhole := by
  refine ⟨fun b s hframe hvalid hkind hpeer hlength hlink => ?_, fun src e v => ⟨applyEntry_foreign, fun r hr => ?_⟩⟩
  · intro src es named
    have hexec : exec .frameCompletion s = .next (completeFrame s) := rfl
    rw [hexec]
    refine ⟨fun hmalformed => ⟨_, rfl, ?_⟩, fun hformed => ?_⟩
    · have hreport : bringsReport b s = false := by
        simp only [bringsReport, Bool.and_eq_false_iff, Bool.not_eq_false']
        exact .inr hmalformed
      rw [completeFrame_heard hframe hvalid hreport, deliverByKind_malformed (s := heard s) hkind hpeer hmalformed]
      exact searchTested_testAlone heard_joined
    · intro w
      obtain ⟨hlow, hhigh, -, hdistinct⟩ := wellFormed_of_not_malformed hformed
      have hwlength : w.roster.length = 16 := (congrArg List.length (finishClose_roster s)).trans hlength
      have hwlink : w.monitor = s.monitor := finishClose_monitor s
      have hrecord := rosterRecord_reportBase (b := b) hwlength hlow hhigh
      have hlive : (rosterRecord (reportBase b w) src).state = .live := congrArg RosterRecord.state hrecord
      rw [completeFrame_taken hframe hvalid hkind hlength hformed]
      refine ⟨_, rfl, ?_, ?_, fun hsearch => ?_, ?_, fun r hr => ?_, fun id hid hnone => ?_, fun x hx hsource => ?_,
        report_frame src es b w rfl, fun v hv => ?_⟩
      · refine (rosterRecord_congr ?_ _).trans hrecord
        exact foldl_applyEntry_roster ..
      · rw [← hwlink]
        simp only [endReport, foldl_applyEntry_monitor]
        exact link_after_report
      · have hended := heard_monitor_search ((settleRoster_search (finishClose s)).mpr (hwlink ▸ hsearch))
        simp [endReport, reportBase, hended]
      · exact (tenantIds_endReport ..).trans ((tenantIds_foldl_applyEntry ..).trans (tenantIds_reportBase b w))
      · have hlocal : r.id ∈ tenantIds (reportBase b w) := by
          rw [tenantIds_reportBase]
          exact mem_tenantIds.mpr ⟨r, hr, rfl⟩
        refine tenant_after_report hlow (fun e he htenant => ?_) (by rwa [tenantIds_foldl_applyEntry])
        exact foldl_applyEntry_recorded hlow hhigh hlive hdistinct he (htenant ▸ hlocal)
      · refine findEntry_endReport_none ?_
        rw [foldl_applyEntry_unnamed hlive fun e _ _ => by rwa [tenantIds_reportBase]]
        refine findEntry_eq_none.mpr fun x hx => findEntry_eq_none.mp hnone x ?_
        rw [← finishClose_table s]
        exact settleRoster_table w (by simpa [reportBase] using hx)
      · have hbase := foldl_applyEntry_otherSource (List.mem_of_mem_filter hx) hsource
        rw [← finishClose_table s]
        exact settleRoster_table w (by simpa [reportBase] using hbase)
      · have hbase : v = es.foldl (applyEntry src) (reportBase b w) := by
          rw [hv, afterAll_rosterRows]
          rfl
        have hheard : v.monitor.heard = true := by
          rw [hbase, foldl_applyEntry_monitor]
          simp only [reportBase, reportFrom_monitor, heard]
          split <;> rfl
        have hlinkKept : v.link = (heard w).link := by
          rw [hbase, foldl_applyEntry_link]
          simp [reportBase, reportFrom, heard_link]
        rw [← hbase]
        refine ⟨?_, hlinkKept, rfl, rfl, rfl, rfl⟩
        simp [endReport, ← hheard]
  · obtain ⟨hmask, hgap, hframe⟩ := applyEntry_frame (src := src) (e := e) (s := v)
    refine ⟨fun hheld => ?_, fun hnew hroom => ?_, fun hnew hfull => ⟨fun hnone => ?_, fun x hx hlate hbest => ?_⟩,
      hmask, hgap, hframe⟩
    · rw [applyEntry_held hr hheld, updateEntry_eq]
      rfl
    · rw [applyEntry_added hr hnew hroom, createEntry_table, createEntry_recon, clearOverflowBit_recon,
        createEntry_latches]
      exact ⟨fun y => List.mem_orderedInsert _, List.orderedInsert_length .., rfl, rfl⟩
    · rw [applyEntry_refused hr hnew hfull (victim_of_none hnone), raise_recon, setOverflowBit_recon]
      exact ⟨rfl, rfl, rfl⟩
    · rw [applyEntry_evicts hr hnew hfull (victim_of_best hx hlate hbest), raise_recon, raise_table, raise_latches,
        createEntry_table, createEntry_recon, clearOverflowBit_recon, createEntry_latches]
      refine ⟨fun y => ?_, ?_, rfl⟩
      · rw [List.mem_orderedInsert, setOverflowBit_table, mem_removeEntry]
        rfl
      · exact withMasks_withMasks (setOverflowBit_recon ..)

end Sys2Proof.Machine
end

section
/-! PROOF. O14: a report as it is sent is read back, and is not malformed at any other station. -/

namespace Sys2Proof.Machine

/-! ## One entry (R57) -/

/-- The second byte of an entry: the tenant's four high bits, then the two flags. -/
theorem flagByte_fields {high : Nat} (hhigh : high < 16) (shed unmeasured : Bool) :
    let b := toByte (high + 16 * shed.toNat + 32 * unmeasured.toNat)
    b.toNat % 16 = high ∧ b.getLsbD 4 = shed ∧ b.getLsbD 5 = unmeasured := by
  have hshed := shed.toNat_lt
  have hunmeasured := unmeasured.toNat_lt
  refine ⟨?_, ?_, ?_⟩
  · rw [toByte_toNat (by omega)]
    omega
  · rw [BitVec.getLsbD, toByte_toNat (by omega), Nat.testBit_eq_decide_div_mod_eq]
    cases shed <;> simp <;> omega
  · rw [BitVec.getLsbD, toByte_toNat (by omega), Nat.testBit_eq_decide_div_mod_eq]
    cases unmeasured <;> simp <;> omega

/-- An entry whose figures fit their fields is read back from its five bytes. -/
theorem parseEntries_encodeEntry {e : ReportEntry} (htenant : e.tenant < 4096) (hvalue : e.value < 1048576)
    (rest : List Byte) : parseEntries (encodeEntry e ++ rest) = e :: parseEntries rest := by
  obtain ⟨hhigh, hshed, hunmeasured⟩ :=
    flagByte_fields (show e.tenant / 256 < 16 by omega) e.shed e.unmeasured
  rw [encodeEntry_eq htenant hvalue]
  simp only [List.cons_append, List.nil_append, parseEntries, parseEntry, hhigh, hshed, hunmeasured,
    toByte_toNat (show e.tenant % 256 < 256 by omega), toByte_toNat (show e.value % 256 < 256 by omega),
    toByte_toNat (show e.value / 256 % 256 < 256 by omega), toByte_toNat (show e.value / 65536 < 256 by omega)]
  rw [show e.tenant % 256 + 256 * (e.tenant / 256) = e.tenant by omega,
    show e.value % 256 + 256 * (e.value / 256 % 256) + 65536 * (e.value / 65536 % 16) = e.value by omega]

/-! ## The payload -/

theorem parseEntries_flatMap_encodeEntry {es : List ReportEntry}
    (hfit : ∀ e ∈ es, e.tenant < 4096 ∧ e.value < 1048576) : parseEntries (es.flatMap encodeEntry) = es := by
  induction es with
  | nil => rfl
  | cons e es ih =>
    obtain ⟨⟨htenant, hvalue⟩, hrest⟩ := List.forall_mem_cons.mp hfit
    rw [List.flatMap_cons, parseEntries_encodeEntry htenant hvalue, ih hrest]

theorem encodeReport_length (r : Snapshot) : (encodeReport r).length = 2 + 5 * r.entries.length := by
  have hentries : (r.entries.flatMap encodeEntry).length = 5 * r.entries.length := by
    simp [List.length_flatMap, encodeEntry, Nat.mul_comm]
  simp only [encodeReport, List.length_cons, hentries]
  omega

theorem reportTicks_encodeReport {r : Snapshot} (hticks : r.periodTicks < 256) :
    reportTicks (encodeReport r) = r.periodTicks := toByte_toNat hticks

theorem reportCount_encodeReport {r : Snapshot} (hcount : r.entries.length < 256) :
    reportCount (encodeReport r) = r.entries.length := toByte_toNat hcount

theorem reportEntries_encodeReport {r : Snapshot} (hfit : ∀ e ∈ r.entries, e.tenant < 4096 ∧ e.value < 1048576) :
    reportEntries (encodeReport r) = r.entries := parseEntries_flatMap_encodeEntry hfit

/-- Each of the checks of R59 passes on a payload that is well formed. -/
theorem reportMalformed_eq_false {own source : Nat} {p : List Byte}
    (hsource : 1 ≤ source ∧ source ≤ 16 ∧ source ≠ own) (hticks : 1 ≤ reportTicks p) (hcount : reportCount p ≤ 24)
    (hlength : p.length = 2 + 5 * reportCount p) (hnamed : ∀ e ∈ reportEntries p, 1 ≤ e.tenant)
    (hdistinct : ((reportEntries p).map ReportEntry.tenant).Nodup) : reportMalformed own source p = false := by
  have hnumber : ¬ (source = 0 ∨ 16 < source ∨ source = own) := by omega
  have hshort : ¬ p.length < 2 := by omega
  have hzero : reportTicks p ≠ 0 := by omega
  have hfields : ¬ (24 < reportCount p ∨ p.length ≠ 2 + 5 * reportCount p) := by omega
  have hunnamed : (reportEntries p).any (fun e => decide (e.tenant = 0)) = false :=
    List.any_eq_false.mpr fun e he => by simpa using Nat.one_le_iff_ne_zero.mp (hnamed e he)
  simp [reportMalformed, hnumber, hshort, hzero, hfields, hunnamed, hdistinct]

/-- Settles O14: the fields are read back one by one, so that the checks of R59 judge the snapshot's own figures. -/
theorem reportsSurviveTheLink : Obligations.ReportsSurviveTheLink := by
  intro r own source hpos hticks hcount hentries hdistinct hsource hlast hother
  have hticksBack := reportTicks_encodeReport hticks
  have hcountBack : reportCount (encodeReport r) = r.entries.length := reportCount_encodeReport (by omega)
  have hentriesBack : reportEntries (encodeReport r) = r.entries :=
    reportEntries_encodeReport fun e he => (hentries e he).2
  refine ⟨encodeReport_length r, hticksBack, hentriesBack,
    reportMalformed_eq_false ⟨hsource, hlast, hother⟩ ?_ ?_ ?_ ?_ ?_⟩
  · rwa [hticksBack]
  · rwa [hcountBack]
  · rw [hcountBack, encodeReport_length]
  · rw [hentriesBack]
    exact fun e he => (hentries e he).1
  · rwa [hentriesBack]

end Sys2Proof.Machine
end

section
/-! SUPPORT. The flags of the switching records, which no job and no coil changes, and the work of a close for one tenant:
it reaches that tenant's record and the flags of that tenant's outlets alone. -/

namespace Sys2Proof.Machine

/-! ## The flags of the switching records -/

/-- The part of a switching record that the Relay Driver's jobs leave as it is: all but the relay state (R129). -/
def RelayOutlet.flags (o : RelayOutlet) : Nat × Nat × Bool × Option Nat := (o.tenant, o.cls, o.lock, o.shed)

/-- The flags of all switching records. -/
def switchFlags (s : State) : List (Nat × Nat × Bool × Option Nat) := s.relay.outlets.map RelayOutlet.flags

section

variable {s t : State}

theorem relayOutlet_flags (h : switchFlags t = switchFlags s) (n : Nat) :
    (relayOutlet t n).flags = (relayOutlet s n).flags := relayOutlet_of_map h n

@[simp] theorem switchFlags_setRelay (n : Nat) (x : RelayState) (s : State) :
    switchFlags (setRelayOutlet n (fun r => { r with relay := x }) s) = switchFlags s :=
  setRelayOutlet_map n s fun _ => rfl

@[simp] theorem switchFlags_withJobs (q : List Job) (c : Option CoilJob) (s : State) :
    switchFlags (s.withRelay { s.relay with queue := q, coil := c }) = switchFlags s := rfl

@[simp] theorem switchFlags_coilTake (s : State) : switchFlags (coilTake s) = switchFlags s := by
  unfold coilTake
  split
  · exact switchFlags_setRelay ..
  · rfl

@[simp] theorem switchFlags_queueJob (n : Nat) (d : JobDir) (s : State) :
    switchFlags (queueJob n d s) = switchFlags s :=
  (switchFlags_coilTake _).trans (switchFlags_setRelay ..)

@[simp] theorem switchFlags_turnBack (n : Nat) (b : RelayState) (s : State) :
    switchFlags (turnBack n b s) = switchFlags s := by
  unfold turnBack
  split
  · rfl
  · split <;> exact switchFlags_setRelay ..

@[simp] theorem switchFlags_compareDesired (n : Nat) (s : State) :
    switchFlags (compareDesired n s) = switchFlags s := by
  unfold compareDesired
  split <;> simp

/-- A change of flags changes the flags, whatever the Relay Driver makes of it (R129). -/
@[simp] theorem switchFlags_changeFlags (n : Nat) (f : RelayOutlet → RelayOutlet) (s : State) :
    switchFlags (changeFlags n f s) = switchFlags (setRelayOutlet n f s) := by
  unfold changeFlags
  split <;> simp

@[simp] theorem switchFlags_completeJob (n : Nat) (x : RelayState) (s : State) :
    switchFlags (completeJob n x s) = switchFlags s := by
  simp only [completeJob, switchFlags_coilTake, switchFlags_compareDesired, switchFlags_setRelay]
  rfl

/-- The switching records after a change in the place of outlet `n`. -/
theorem relayOutlet_setRelayOutlet_place (n m : Nat) (f : RelayOutlet → RelayOutlet) (s : State) :
    relayOutlet (setRelayOutlet n f s) m =
      if m - 1 = n - 1 ∧ n - 1 < s.relay.outlets.length then f (relayOutlet s n) else relayOutlet s m := by
  simp only [relayOutlet, setRelayOutlet, withRelay_relay, List.getD_eq_getElem?_getD, List.getElem?_modify]
  by_cases hplace : m - 1 = n - 1
  · by_cases hin : n - 1 < s.relay.outlets.length <;> simp [hplace, hin]
  · simp [hplace, Ne.symm hplace]

/-- Where the flags are those of a change of outlet `n`, an outlet in its place has the changed flags, or every flag is
as it was. -/
theorem relayOutlet_flags_set {n : Nat} {f : RelayOutlet → RelayOutlet}
    (h : switchFlags t = switchFlags (setRelayOutlet n f s)) (m : Nat) :
    relayOutlet s m = relayOutlet s n ∧ (relayOutlet t m).flags = (f (relayOutlet s m)).flags ∨
      (relayOutlet t m).flags = (relayOutlet s m).flags := by
  rw [relayOutlet_flags h, relayOutlet_setRelayOutlet_place]
  split
  · next hplace =>
    have hsame : relayOutlet s m = relayOutlet s n := by rw [relayOutlet, hplace.1, relayOutlet]
    exact .inl ⟨hsame, by rw [hsame]⟩
  · exact .inr rfl

theorem mem_tenantOutlets {id n : Nat} :
    n ∈ tenantOutlets s id ↔ n ∈ presentOutlets s ∧ (relayOutlet s n).tenant = id := by
  simp [tenantOutlets]

theorem mem_shedOutlets {id n : Nat} :
    n ∈ shedOutlets s id ↔ n ∈ tenantOutlets s id ∧ (relayOutlet s n).shed.isSome = true := by
  simp [shedOutlets]

/-- A tenant's outlets are those whose record names it (R91). -/
theorem tenantOutlets_congr {id : Nat} (hpresent : t.loader.params = s.loader.params)
    (h : ∀ n, (relayOutlet t n).tenant = (relayOutlet s n).tenant) : tenantOutlets t id = tenantOutlets s id := by
  simp [tenantOutlets, presentOutlets_congr hpresent, h]

/-- A tenant's shed outlets follow from the flags of its outlets (R91). -/
theorem shedOutlets_of_shed {id : Nat} (hpresent : t.loader.params = s.loader.params)
    (htenant : ∀ n, (relayOutlet t n).tenant = (relayOutlet s n).tenant)
    (hshed : ∀ n, (relayOutlet s n).tenant = id → (relayOutlet t n).shed = (relayOutlet s n).shed) :
    shedOutlets t id = shedOutlets s id := by
  rw [shedOutlets, tenantOutlets_congr hpresent htenant, shedOutlets]
  refine List.filter_congr fun n hn => ?_
  rw [hshed n (mem_tenantOutlets.mp hn).2]

theorem shedOutlets_of_flags (hpresent : t.loader.params = s.loader.params) (h : switchFlags t = switchFlags s)
    (id : Nat) : shedOutlets t id = shedOutlets s id :=
  shedOutlets_of_shed hpresent (fun n => congrArg Prod.fst (relayOutlet_flags h n))
    fun n _ => congrArg (fun p => p.2.2.2) (relayOutlet_flags h n)

end

/-! ## The record of a tenant -/

@[simp] theorem findTenant_raise (k : EventKind) (s : State) (i : Nat) :
    findTenant (raise k s) i = findTenant s i := rfl

@[simp] theorem findTenant_appendRecord (r : ExcursionRecord) (s : State) (i : Nat) :
    findTenant (appendRecord r s) i = findTenant s i := findTenant_congr (appendRecord_recon s r) i

@[simp] theorem findTenant_shedRound (id : Nat) (s : State) (i : Nat) :
    findTenant (shedRound id s) i = findTenant s i := findTenant_congr (shedRound_recon s id) i

@[simp] theorem findTenant_restoreStep (id : Nat) (s : State) (i : Nat) :
    findTenant (restoreStep id s) i = findTenant s i := findTenant_congr (restoreStep_recon s id) i

/-- The record of a tenant after a change of the record of tenant `id`, which may replace it whole. -/
theorem findTenant_setTenant_of {id : Nat} {f : Tenant → Tenant} (hf : ∀ u, u.id = id → (f u).id = id) (s : State)
    (i : Nat) : findTenant (setTenant id f s) i = (findTenant s i).map fun u => if u.id = id then f u else u := by
  simp only [findTenant, setTenant, withRecon_recon, List.find?_map]
  congr 2
  funext u
  by_cases hu : u.id = id
  · simp [hu, hf u hu]
  · simp [hu]

theorem findTenant_setTenant_other {id i : Nat} {f : Tenant → Tenant} (hf : ∀ u, u.id = id → (f u).id = id) (s : State)
    (hi : i ≠ id) : findTenant (setTenant id f s) i = findTenant s i := by
  rw [findTenant_setTenant_of hf]
  cases h : findTenant s i with
  | none => rfl
  | some u => simp [findTenant_id h, hi]

theorem findTenant_setTenant_own {id : Nat} {f : Tenant → Tenant} {s : State} {t : Tenant}
    (hf : ∀ u, u.id = id → (f u).id = id) (h : findTenant s id = some t) :
    findTenant (setTenant id f s) id = some (f t) := by
  simp [findTenant_setTenant_of hf, h, findTenant_id h]

/-! ## The outlets of a round and of a restore step -/

theorem takeUntil_prefix (share : Nat) (power : Nat → Nat) (sum : Nat) (l : List Nat) :
    takeUntil share power sum l <+: l := by
  induction l generalizing sum with
  | nil => exact List.prefix_rfl
  | cons n rest ih =>
    rw [takeUntil, List.prefix_cons_inj]
    split
    · exact List.nil_prefix
    · exact ih _

theorem mem_shedCandidates {s : State} {id n : Nat} :
    n ∈ shedCandidates s id ↔ n ∈ tenantOutlets s id ∧ shedCandidate s n = true := by
  simp [shedCandidates, List.mem_insertionSort]

/-- A round takes candidates (R117). -/
theorem shedTaken_candidate {s : State} {id x n : Nat} (h : n ∈ shedTaken s id x) : n ∈ shedCandidates s id :=
  (takeUntil_prefix ..).subset h

theorem mem_restoreCandidates {s : State} {id n : Nat} : n ∈ restoreCandidates s id ↔ n ∈ shedOutlets s id := by
  simp [restoreCandidates, List.mem_insertionSort]

/-! ## The work for one tenant -/

/-- From `s` to `t` work has been done for tenant `id`: some moves that leave the records of the other tenants and the
shed flags of their outlets, and keep the Record Queue within its capacity (R112, R156). -/
structure OnlyTenant (id : Nat) (s t : State) : Prop where
  moves : Moves s t
  tenants : ∀ i, i ≠ id → findTenant t i = findTenant s i
  shed : ∀ n, (relayOutlet s n).tenant ≠ id → (relayOutlet t n).shed = (relayOutlet s n).shed
  records : s.records.length ≤ 16 → t.records.length ≤ 16

/-- Moves leave an outlet its tenant (R139). -/
theorem Moves.outletTenant {s t : State} (h : Moves s t) (n : Nat) :
    (Machine.relayOutlet t n).tenant = (Machine.relayOutlet s n).tenant := congrArg Prod.fst (h.relayOutlet n)

theorem Moves.tenantOutlets {s t : State} (h : Moves s t) (id : Nat) :
    tenantOutlets t id = tenantOutlets s id :=
  tenantOutlets_congr (congrArg Loader.params h.loader) h.outletTenant

namespace OnlyTenant

variable {id : Nat} {s t u : State}

theorem refl : OnlyTenant id s s := ⟨.refl, fun _ _ => rfl, fun _ _ => rfl, fun h => h⟩

theorem trans (h : OnlyTenant id s t) (g : OnlyTenant id t u) : OnlyTenant id s u where
  moves := h.moves.trans g.moves
  tenants i hi := (g.tenants i hi).trans (h.tenants i hi)
  shed n hn := (g.shed n (by rwa [h.moves.outletTenant])).trans (h.shed n hn)
  records hr := g.records (h.records hr)

/-- A move that reaches neither the tenant records nor the switching records. -/
theorem of_move (h : OnlyTenant id s t) (hm : Moves t u) (hrecon : u.recon = t.recon) (hrelay : u.relay = t.relay)
    (hrecords : t.records.length ≤ 16 → u.records.length ≤ 16) : OnlyTenant id s u :=
  h.trans ⟨hm, fun _ _ => findTenant_congr hrecon _, fun _ _ => by rw [relayOutlet, hrelay, relayOutlet], hrecords⟩

theorem raise (h : OnlyTenant id s t) {k : EventKind} (hk : k ≠ .reportSuperseded := by decide) :
    OnlyTenant id s (raise k t) :=
  h.of_move (Moves.refl.raise hk) rfl rfl fun hr => hr

theorem appendRecord (h : OnlyTenant id s t) {r : ExcursionRecord} : OnlyTenant id s (appendRecord r t) := by
  refine h.of_move (Moves.refl.appendRecord) (by simp) (by simp) fun hr => ?_
  rcases Nat.lt_or_ge t.records.length 16 with hroom | hfull
  · simp [appendRecord_room r t hroom]
    omega
  · simpa [appendRecord_full r t hfull] using hr

theorem setTenant (h : OnlyTenant id s t) {f : Tenant → Tenant}
    (hf : ∀ u, (f u).installed = u.installed := by intro _; rfl) : OnlyTenant id s (setTenant id f t) :=
  h.trans ⟨Moves.refl.setTenant hf,
    fun _ hi => findTenant_setTenant_other (fun u hu => (Tenant.id_of_installed (hf u)).trans hu) t hi,
    fun _ _ => rfl, fun hr => hr⟩

theorem figures (h : OnlyTenant id s t) {r : Tenant} (hr : findTenant t id = some r) :
    OnlyTenant id s (Machine.setTenant id (fun _ => closeFigures t r) t) :=
  h.trans ⟨Moves.refl.tail (.figures t id r hr),
    fun _ hi => findTenant_setTenant_other (f := fun _ => closeFigures t r)
      (fun _ _ => (findTenant_id hr : r.id = id)) t hi,
    fun _ _ => rfl, fun hr => hr⟩

/-- The shed flag of one of the tenant's outlets is set or cleared, and the Relay Driver acts on it (R117, R126). -/
theorem changeShed (h : OnlyTenant id s t) {n : Nat} (hn : (relayOutlet t n).tenant = id) {x : Option Nat} :
    OnlyTenant id s (changeFlags n (fun r => { r with shed := x }) t) := by
  have hm : Moves t (changeFlags n (fun r => { r with shed := x }) t) := .changeFlags (.setShed .refl)
  refine h.trans ⟨hm, fun _ _ => findTenant_congr (by simp) _, fun m hother => ?_, fun hr => by simpa using hr⟩
  rcases relayOutlet_flags_set (switchFlags_changeFlags n (fun r => { r with shed := x }) t) m with ⟨hsame, -⟩ | hflags
  · exact absurd (hsame ▸ hn) hother
  · exact congrArg (fun p => p.2.2.2) hflags

theorem shedOutlets (h : OnlyTenant id s t) (l : List Nat) (hl : ∀ n ∈ l, (relayOutlet t n).tenant = id) :
    OnlyTenant id s (l.foldl shedOutlet t) := by
  induction l generalizing t with
  | nil => exact h
  | cons n l ih =>
    refine ih (h.changeShed (hl n (.head _))) fun m hm => ?_
    rw [← hl m (.tail _ hm)]
    exact (Moves.changeFlags (.setShed .refl) : Moves t (shedOutlet t n)).outletTenant m

theorem shedRound (h : OnlyTenant id s t) : OnlyTenant id s (shedRound id t) := by
  have hshed (x : Nat) : OnlyTenant id s ((shedTaken t id x).foldl shedOutlet t) :=
    h.shedOutlets _ fun n hn => (mem_tenantOutlets.mp (mem_shedCandidates.mp (shedTaken_candidate hn)).1).2
  unfold Machine.shedRound
  split
  · exact h
  · simp only
    split_ifs
    · exact h
    · exact h
    · exact (hshed _).appendRecord
    · exact (hshed _).appendRecord.raise

theorem restoreStep (h : OnlyTenant id s t) : OnlyTenant id s (restoreStep id t) := by
  unfold Machine.restoreStep
  split
  · next r n rest _ hn =>
    split
    · have hmem : n ∈ Machine.shedOutlets t id := mem_restoreCandidates.mp (hn ▸ .head _)
      exact (h.changeShed (mem_tenantOutlets.mp (mem_shedOutlets.mp hmem).1).2).appendRecord
    · exact h
  · exact h

theorem beginExcursion (h : OnlyTenant id s t) {r : Tenant} : OnlyTenant id s (beginExcursion r t) :=
  h.appendRecord.raise

theorem endExcursion (h : OnlyTenant id s t) {r : Tenant} (hr : r.id = id) : OnlyTenant id s (endExcursion r t) := by
  subst hr
  exact h.setTenant.appendRecord

theorem enterCurtail (h : OnlyTenant id s t) {n : Nat} : OnlyTenant id s (enterCurtail id n t) := h.setTenant.raise

theorem runRound (h : OnlyTenant id s t) : OnlyTenant id s (runRound id t) := h.shedRound.setTenant

theorem applyStanding (h : OnlyTenant id s t) {c : StandingCase} {r : Tenant} (hr : r.id = id) :
    OnlyTenant id s (applyStanding c r t) := by
  subst hr
  cases c
  case burst => exact h.enterCurtail.runRound
  case straightOn | graceEnd => exact h.setTenant.enterCurtail.runRound
  case endOfExcess | releaseBare => exact h.endExcursion rfl
  case round => exact h.runRound
  case renewedExcess => exact h.enterCurtail
  case restoreAttempt => exact h.restoreStep.setTenant
  all_goals exact h.setTenant

theorem tenantFigures (h : OnlyTenant id s t) : OnlyTenant id s (tenantFigures id t) := by
  unfold Machine.tenantFigures
  split
  · exact h
  · next r hr =>
    have hfigures := h.figures hr
    simp only
    split
    · exact hfigures
    · split_ifs
      · exact hfigures.raise.beginExcursion
      · exact hfigures.beginExcursion
      · exact hfigures.raise
      · exact hfigures

theorem tenantStanding (h : OnlyTenant id s t) : OnlyTenant id s (tenantStanding id t) := by
  unfold Machine.tenantStanding
  split
  · exact h
  · next r hr =>
    split
    · exact h
    · exact h.applyStanding (findTenant_id hr)

theorem tenantDeparture (h : OnlyTenant id s t) : OnlyTenant id s (tenantDeparture id t) := by
  unfold Machine.tenantDeparture
  split
  · exact h
  · next r hr =>
    split
    · exact (h.endExcursion (findTenant_id hr)).raise
    · exact h

theorem evaluateTenant (h : OnlyTenant id s t) : OnlyTenant id s (evaluateTenant id t) := by
  unfold Machine.evaluateTenant
  split
  · exact h.tenantStanding.tenantDeparture
  · exact h.tenantStanding

theorem closeTenant (h : OnlyTenant id s t) : OnlyTenant id s (closeTenant t id) := h.tenantFigures.evaluateTenant

theorem recoverDeparture (h : OnlyTenant id s t) : OnlyTenant id s (recoverDeparture id t) := by
  unfold Machine.recoverDeparture
  split
  · exact h
  · split_ifs
    · exact h.setTenant
    · exact h.setTenant.appendRecord
    · exact h

/-- The other tenants keep their outlets shed as they were (R112). -/
theorem otherShed (h : OnlyTenant id s t) {i : Nat} (hi : i ≠ id) : Machine.shedOutlets t i = Machine.shedOutlets s i :=
  shedOutlets_of_shed (congrArg Loader.params h.moves.loader) h.moves.outletTenant
    fun n hn => h.shed n (by rwa [hn])

end OnlyTenant

end Sys2Proof.Machine
end

section
/-! SUPPORT. The record of a tenant after each case of its evaluation (R96 to R105), and when each case is taken. -/

namespace Sys2Proof.Machine

/-- The record of a tenant after case `c` of its evaluation, `t` being its record with the figures of the close (R96 to
R105). -/
def standingAfter (p : Params) (c : StandingCase) (t : Tenant) : Tenant :=
  match c with
  | .burst => { t with standing := .curtail, settle := p.settle }
  | .straightOn | .graceEnd => { t with standing := .curtail, settle := p.settle, grace := 0 }
  | .enterExcess => { t with standing := .excess, grace := t.graceSetting }
  | .byDemand | .endOfExcess | .releaseBare => { t with standing := standingByDemand t }
  | .graceRun => { t with grace := t.grace - 1 }
  | .release => { t with standing := .recover, restore := p.spacing }
  | .round => { t with settle := p.settle }
  | .settleRun => { t with settle := t.settle - 1 }
  | .renewedExcess => { t with standing := .curtail, settle := p.settle }
  | .restoreAttempt => { t with restore := p.spacing }
  | .restoreRun => { t with restore := t.restore - 1 }

/-- The case runs a shed round (R101). -/
def StandingCase.rounds : StandingCase → Bool
  | .burst | .straightOn | .graceEnd | .round => true
  | _ => false

section

variable {s : State} {t : Tenant} {id : Nat}

theorem findTenant_setTenant_self {f : Tenant → Tenant} (hf : ∀ u, (f u).id = u.id) (h : findTenant s id = some t) :
    findTenant (setTenant id f s) id = some (f t) :=
  findTenant_setTenant_own (fun u hu => (hf u).trans hu) h

theorem findTenant_enterCurtail (n : Nat) (h : findTenant s id = some t) :
    findTenant (enterCurtail id n s) id = some { t with standing := .curtail, settle := n } :=
  (findTenant_raise ..).trans
    (findTenant_setTenant_self (f := fun u => { u with standing := .curtail, settle := n }) (fun _ => rfl) h)

theorem findTenant_runRound (h : findTenant s id = some t) :
    findTenant (runRound id s) id = some { t with settle := s.loader.params.settle } := by
  simp only [runRound, shedRound_loader]
  exact findTenant_setTenant_self (f := fun u => { u with settle := s.loader.params.settle }) (fun _ => rfl)
    (by rwa [findTenant_shedRound])

theorem findTenant_attemptRestore (h : findTenant s id = some t) :
    findTenant (attemptRestore id s) id = some { t with restore := s.loader.params.spacing } := by
  simp only [attemptRestore, restoreStep_loader]
  exact findTenant_setTenant_self (f := fun u => { u with restore := s.loader.params.spacing }) (fun _ => rfl)
    (by rwa [findTenant_restoreStep])

theorem findTenant_endExcursion (h : findTenant s id = some t) :
    findTenant (endExcursion t s) id = some { t with standing := standingByDemand t } := by
  obtain rfl := findTenant_id h
  exact (findTenant_appendRecord ..).trans
    (findTenant_setTenant_self (f := fun u => { u with standing := standingByDemand u }) (fun _ => rfl) h)

/-- What a case makes of the tenant's record (R96 to R105). -/
theorem findTenant_applyStanding (c : StandingCase) (h : findTenant s id = some t) :
    findTenant (applyStanding c t s) id = some (standingAfter s.loader.params c t) := by
  obtain rfl := findTenant_id h
  have hset (f : Tenant → Tenant) (hf : ∀ u, (f u).id = u.id := by exact fun _ => rfl) :=
    findTenant_setTenant_self hf h
  cases c
  case burst => simpa [applyStanding, standingAfter] using findTenant_runRound (findTenant_enterCurtail 0 h)
  case straightOn | graceEnd =>
    simpa [applyStanding, standingAfter] using
      findTenant_runRound (findTenant_enterCurtail 0 (hset fun u => { u with grace := 0 }))
  case endOfExcess | releaseBare => exact findTenant_endExcursion h
  case round => exact findTenant_runRound h
  case renewedExcess => exact findTenant_enterCurtail _ h
  case restoreAttempt => exact findTenant_attemptRestore h
  case enterExcess => exact hset fun u => { u with standing := .excess, grace := u.graceSetting }
  case byDemand => exact hset fun u => { u with standing := standingByDemand u }
  case graceRun => exact hset fun u => { u with grace := u.grace - 1 }
  case release =>
    exact hset fun u => { u with standing := .recover, restore := s.loader.params.spacing }
  case settleRun => exact hset fun u => { u with settle := u.settle - 1 }
  case restoreRun => exact hset fun u => { u with restore := u.restore - 1 }

/-- Only a round and a restore step reach the switching records (R101, R103). -/
theorem applyStanding_relay {c : StandingCase} (hround : c.rounds = false) (hrestore : c ≠ .restoreAttempt) :
    (applyStanding c t s).relay = s.relay := by
  cases c
  case burst | straightOn | graceEnd | round => cases hround
  case restoreAttempt => contradiction
  all_goals simp [applyStanding]

/-- What the figures of a close make of the tenant's record (R77 to R86). -/
theorem findTenant_tenantFigures (h : findTenant s id = some t) :
    findTenant (tenantFigures id s) id = some (closeFigures s t) := by
  have hset : findTenant (setTenant id (fun _ => closeFigures s t) s) id = some (closeFigures s t) :=
    findTenant_setTenant_own (f := fun _ => closeFigures s t) (fun _ _ => (findTenant_id h : t.id = id)) h
  unfold tenantFigures
  simp only [h]
  split
  · exact hset
  · split_ifs <;> simpa [beginExcursion] using hset

end

/-- The standings in which each case can be taken, and whether the tenant then has shed outlets here (R96 to R105). -/
def StandingCase.TakenIn (c : StandingCase) (x : Standing) (shedHere : Bool) : Prop :=
  match c with
  | .burst => x ≠ .curtail
  | .straightOn | .enterExcess | .byDemand => x = .clear ∨ x = .watch
  | .endOfExcess | .graceEnd | .graceRun => x = .excess
  | .release => x = .curtail ∧ shedHere = true
  | .releaseBare => x = .curtail ∧ shedHere = false
  | .round | .settleRun => x = .curtail
  | .renewedExcess | .restoreAttempt | .restoreRun => x = .recover

theorem standingCase_takenIn (t : Tenant) (shedHere : Bool) :
    (standingCase t shedHere).TakenIn t.standing shedHere := by
  unfold standingCase
  cases hstanding : t.standing <;> simp only <;> split_ifs <;> simp_all [StandingCase.TakenIn]

/-- After a round the tenant stands in CURTAIL (R101). -/
theorem standingAfter_rounds (p : Params) {c : StandingCase} {t : Tenant} {shedHere : Bool}
    (h : c.TakenIn t.standing shedHere) (hround : c.rounds = true) : (standingAfter p c t).standing = .curtail := by
  cases c
  case burst | straightOn | graceEnd => rfl
  case round => exact h
  all_goals cases hround

theorem standingByDemand_ne (t : Tenant) :
    standingByDemand t ≠ .excess ∧ standingByDemand t ≠ .curtail ∧ standingByDemand t ≠ .recover := by
  unfold standingByDemand
  split <;> simp

/-- A case without a round or a restore step leaves a tenant with shed outlets in CURTAIL or RECOVER, and in RECOVER a
tenant with shed outlets only, if the tenant stood so (R91, R106). -/
theorem standingAfter_shed (p : Params) {c : StandingCase} {t : Tenant} {shedHere : Bool}
    (h : c.TakenIn t.standing shedHere) (hround : c.rounds = false)
    (hshed : shedHere = true → t.standing = .curtail ∨ t.standing = .recover)
    (hrecover : t.standing = .recover → shedHere = true) :
    (shedHere = true → (standingAfter p c t).standing = .curtail ∨ (standingAfter p c t).standing = .recover) ∧
      ((standingAfter p c t).standing = .recover → shedHere = true) := by
  obtain ⟨-, -, hdemand⟩ := standingByDemand_ne t
  cases c
  case burst | straightOn | graceEnd | round => cases hround
  case byDemand | enterExcess => rcases h with h | h <;> cases shedHere <;> simp_all [standingAfter]
  all_goals cases shedHere <;> simp_all [standingAfter, StandingCase.TakenIn]

end Sys2Proof.Machine
end

section
/-! PROOF. O60: every step keeps the tenant ids apart, the shed outlets with their standings, and the Record Queue
within its capacity. The rule is kept tenant by tenant: the work of a close, a lock and a STUCK result each reach one
tenant, which for a moment may stand in RECOVER without a shed outlet until its departure is taken. -/

namespace Sys2Proof.Machine

/-- The rule of the excursions, where the tenant `leaving`, if there is one, may stand in RECOVER without a shed outlet:
its departure comes next (R104, R106). -/
structure ExcursionsHold (leaving : Option Nat) (s : State) : Prop where
  ids : (tenantIds s).Nodup
  shedding : ∀ r ∈ s.recon.tenants, shedOutlets s r.id ≠ [] → r.standing = .curtail ∨ r.standing = .recover
  recovering : ∀ r ∈ s.recon.tenants, r.standing = .recover → shedOutlets s r.id ≠ [] ∨ leaving = some r.id
  records : s.records.length ≤ 16

/-- The tenant whose departure a close in hand takes next (R104, log entry 26). -/
def leavingNext (s : State) : Option Nat :=
  match s.closeInHand with
  | some ⟨.departure, id :: _⟩ => some id
  | _ => none

theorem leavingNext_eq_some {s : State} {id : Nat} :
    leavingNext s = some id ↔ ∃ rest, s.closeInHand = some ⟨.departure, id :: rest⟩ := by
  unfold leavingNext
  split
  · next hhand => simp [hhand]
  · next hhand => simpa using fun rest => hhand id rest

theorem leavingNext_of_none {s : State} (h : s.closeInHand = none) : leavingNext s = none := by
  simp [leavingNext, h]

/-- The rule that every step keeps, in these words. -/
theorem excursionRule_iff {s : State} : ExcursionRule s ↔ ExcursionsHold (leavingNext s) s where
  mp h := ⟨h.ids, h.shedding, fun r hr hrecover => (h.recovering r hr hrecover).imp_right leavingNext_eq_some.mpr,
    h.records⟩
  mpr h := ⟨h.ids, h.shedding, fun r hr hrecover => (h.recovering r hr hrecover).imp_right leavingNext_eq_some.mp,
    h.records⟩

/-- The standing of every tenant, with its id. -/
def standings (s : State) : List (Nat × Standing) := s.recon.tenants.map fun r => (r.id, r.standing)

theorem tenantIds_of_standings {s t : State} (h : standings t = standings s) : tenantIds t = tenantIds s := by
  have hids (u : State) : tenantIds u = (standings u).map Prod.fst := by simp [tenantIds, standings, Function.comp_def]
  rw [hids, hids, h]

/-! ## The roster and the Contribution Table leave the standings -/

theorem standings_setTenant {id : Nat} {f : Tenant → Tenant} {s : State}
    (hf : ∀ u, (f u).id = u.id ∧ (f u).standing = u.standing := by exact fun _ => ⟨rfl, rfl⟩) :
    standings (setTenant id f s) = standings s :=
  setTenant_map (g := fun r => (r.id, r.standing)) id f s fun u _ _ => by simp [hf u]

theorem standings_expireStation (n : Nat) (s : State) : standings (expireStation n s) = standings s := by
  simp [standings, expireStation, clearOverflow, Function.comp_def]

theorem standings_settleRoster (s : State) : standings (settleRoster s) = standings s :=
  settleRoster_keeps (P := fun u => standings u = standings s) s rfl (fun _ _ h => h)
    fun u n h => (standings_expireStation n u).trans h

theorem standings_createEntry (src : Nat) (e : ReportEntry) (r : Tenant) (s : State) :
    standings (createEntry src e r s) = standings s := by
  simp only [createEntry]
  split <;> exact standings_setTenant

theorem standings_applyEntry (src : Nat) (s : State) (e : ReportEntry) :
    standings (applyEntry src s e) = standings s := by
  unfold applyEntry
  split
  · rfl
  · split_ifs
    · exact standings_setTenant
    · exact standings_createEntry ..
    · unfold applyToFullTable
      split
      · exact (standings_createEntry ..).trans standings_setTenant
      · exact standings_setTenant

theorem standings_takeReport (src ticks : Nat) (es : List ReportEntry) (s : State) :
    standings (takeReport src ticks es s) = standings s := by
  have homitted (u : State) (l : List Nat) : standings (l.foldl (omitTenant src) u) = standings u :=
    foldl_keeps standings (omitTenant src) (fun _ _ => standings_setTenant) l u
  have hentries (u : State) : standings (es.foldl (applyEntry src) u) = standings u :=
    foldl_keeps standings _ (standings_applyEntry src) es u
  simp only [takeReport]
  split
  · rw [standings, setLinkState_recon]
    exact (homitted ..).trans (hentries _)
  · exact (homitted ..).trans (hentries _)

namespace ExcursionsHold

variable {leaving : Option Nat} {id : Nat} {s t : State}

/-- With distinct ids each record is the one found under its id (R172). -/
theorem find (h : ExcursionsHold leaving s) {r : Tenant} (hr : r ∈ s.recon.tenants) : findTenant s r.id = some r := by
  obtain ⟨u, hu⟩ := findTenant_of_mem (mem_tenantIds.mpr ⟨r, hr, rfl⟩)
  rw [hu, eq_of_findTenant h.ids hu hr rfl]

/-- The rule speaks of the standings, the shed outlets and the length of the Record Queue alone. -/
theorem congr (h : ExcursionsHold leaving s) (hstandings : standings t = standings s)
    (hshed : ∀ i, shedOutlets t i = shedOutlets s i) (hrecords : t.records.length ≤ s.records.length) :
    ExcursionsHold leaving t := by
  have hsame {r : Tenant} (hr : r ∈ t.recon.tenants) :
      ∃ r' ∈ s.recon.tenants, r'.id = r.id ∧ r'.standing = r.standing := by
    have hmem : (r.id, r.standing) ∈ standings s := hstandings ▸ List.mem_map_of_mem hr
    simpa [standings] using hmem
  refine ⟨by rw [tenantIds_of_standings hstandings]; exact h.ids, fun r hr hne => ?_, fun r hr hrecover => ?_,
    hrecords.trans h.records⟩
  · obtain ⟨r', hr', hid, hstanding⟩ := hsame hr
    rw [← hstanding]
    exact h.shedding r' hr' (by rwa [hid, ← hshed])
  · obtain ⟨r', hr', hid, hstanding⟩ := hsame hr
    rw [hshed, ← hid]
    exact h.recovering r' hr' (hstanding.trans hrecover)

/-- An operation that leaves the standings, the flags of the switching records and the Record Queue. -/
theorem of_flags (h : ExcursionsHold leaving s) (hstandings : standings t = standings s)
    (hflags : switchFlags t = switchFlags s) (hparams : t.loader.params = s.loader.params)
    (hrecords : t.records = s.records) : ExcursionsHold leaving t :=
  h.congr hstandings (shedOutlets_of_flags hparams hflags) (congrArg List.length hrecords).le

/-- An operation that leaves the blocks concerned. -/
theorem frames (h : ExcursionsHold leaving s) (htenants : t.recon.tenants = s.recon.tenants := by simp)
    (hrelay : t.relay = s.relay := by simp) (hloader : t.loader = s.loader := by simp)
    (hrecords : t.records = s.records := by simp) : ExcursionsHold leaving t :=
  h.of_flags (by rw [standings, htenants, standings]) (by rw [switchFlags, hrelay, switchFlags]) (by rw [hloader])
    hrecords

/-- Work for one tenant keeps the rule where it keeps it for this tenant; the tenant may be the one that was leaving. -/
theorem ofTenant {leaving' : Option Nat} (h : ExcursionsHold leaving s) (hwork : OnlyTenant id s t)
    (hleaving : leaving = none ∨ leaving = some id)
    (hown : ∀ r, findTenant t id = some r →
      (shedOutlets t id ≠ [] → r.standing = .curtail ∨ r.standing = .recover) ∧
        (r.standing = .recover → shedOutlets t id ≠ [] ∨ leaving' = some id)) : ExcursionsHold leaving' t := by
  have hids : (tenantIds t).Nodup := by rw [hwork.moves.tenantIds]; exact h.ids
  have hfind {r : Tenant} (hr : r ∈ t.recon.tenants) : findTenant t r.id = some r := by
    obtain ⟨u, hu⟩ := findTenant_of_mem (mem_tenantIds.mpr ⟨r, hr, rfl⟩)
    rw [hu, eq_of_findTenant hids hu hr rfl]
  have hother {r : Tenant} (hr : r ∈ t.recon.tenants) (hid : r.id ≠ id) : r ∈ s.recon.tenants :=
    findTenant_mem ((hwork.tenants r.id hid).symm.trans (hfind hr))
  refine ⟨hids, fun r hr hne => ?_, fun r hr hrecover => ?_, hwork.records h.records⟩
  · by_cases hid : r.id = id
    · exact (hown r (hid ▸ hfind hr)).1 (hid ▸ hne)
    · exact h.shedding r (hother hr hid) (by rwa [← hwork.otherShed hid])
  · by_cases hid : r.id = id
    · exact hid ▸ (hown r (hid ▸ hfind hr)).2 hrecover
    · refine .inl ?_
      rw [hwork.otherShed hid]
      rcases h.recovering r (hother hr hid) hrecover with hne | hleave
      · exact hne
      · rcases hleaving with rfl | rfl
        · cases hleave
        · exact absurd (Option.some.inj hleave).symm hid

/-! ## The departures -/

/-- A tenant that may leave and does not stand in RECOVER without a shed outlet stays. -/
theorem stays (h : ExcursionsHold (some id) s)
    (hown : ∀ r, findTenant s id = some r → r.standing = .recover → shedOutlets s id ≠ []) : ExcursionsHold none s :=
  h.ofTenant .refl (.inr rfl) fun r hr => by
    obtain rfl := findTenant_id hr
    exact ⟨h.shedding r (findTenant_mem hr), fun hrecover => .inl (hown r hr hrecover)⟩

/-- A tenant without a shed outlet that takes a standing other than RECOVER has left it (R104, R106). -/
theorem left {r : Tenant} (h : ExcursionsHold (some id) s) (hwork : OnlyTenant id s t) (hrelay : t.relay = s.relay)
    (hnone : shedOutlets s id = []) (hfind : findTenant t id = some r) (hstanding : r.standing ≠ .recover) :
    ExcursionsHold none t :=
  h.ofTenant hwork (.inr rfl) fun u hu => by
    obtain rfl := Option.some.inj (hfind.symm.trans hu)
    refine ⟨fun hne => ?_, fun hrecover => absurd hrecover hstanding⟩
    rw [shedOutlets_congr hrelay hwork.moves.loader] at hne
    exact absurd hnone hne

theorem recoverDeparture (h : ExcursionsHold (some id) s) : ExcursionsHold none (recoverDeparture id s) := by
  have hwork : OnlyTenant id s (Machine.recoverDeparture id s) := OnlyTenant.refl.recoverDeparture
  have hrelay := recoverDeparture_relay s id
  unfold Machine.recoverDeparture at hwork hrelay ⊢
  cases hr : findTenant s id with
  | none => exact h.stays fun r hr' => by simp [hr] at hr'
  | some r =>
    simp only [hr] at hwork hrelay ⊢
    by_cases hleaves : r.standing = .recover ∧ shedOutlets s id = []
    · rw [if_pos hleaves] at hwork hrelay ⊢
      obtain ⟨-, hnone⟩ := hleaves
      split
      · next hwarmup =>
        rw [if_pos hwarmup] at hwork hrelay
        exact h.left (r := { r with standing := .clear }) hwork hrelay hnone
          (findTenant_setTenant_self (f := fun u => { u with standing := .clear }) (fun _ => rfl) hr) (by simp)
      · next hwarmup =>
        rw [if_neg hwarmup] at hwork hrelay
        exact h.left (r := { r with standing := standingByDemand r }) hwork hrelay hnone
          ((findTenant_appendRecord ..).trans (findTenant_setTenant_self
            (f := fun u => { u with standing := standingByDemand u }) (fun _ => rfl) hr)) (standingByDemand_ne r).2.2
    · rw [if_neg hleaves]
      exact h.stays fun u hu hrecover hnone =>
        hleaves ⟨Option.some.inj (hr.symm.trans hu) ▸ hrecover, hnone⟩

theorem tenantDeparture (h : ExcursionsHold (some id) s) : ExcursionsHold none (tenantDeparture id s) := by
  have hwork : OnlyTenant id s (Machine.tenantDeparture id s) := OnlyTenant.refl.tenantDeparture
  unfold Machine.tenantDeparture at hwork ⊢
  cases hr : findTenant s id with
  | none => exact h.stays fun r hr' => by simp [hr] at hr'
  | some r =>
    simp only [hr] at hwork ⊢
    by_cases hnone : shedOutlets s id = []
    · rw [if_pos hnone] at hwork ⊢
      exact h.left hwork (by simp) hnone ((findTenant_raise ..).trans (findTenant_endExcursion hr))
        (standingByDemand_ne r).2.2
    · rw [if_neg hnone]
      exact h.stays fun _ _ _ => hnone

/-! ## The work of a close -/

theorem tenantFigures (h : ExcursionsHold none s) : ExcursionsHold none (tenantFigures id s) := by
  refine h.ofTenant OnlyTenant.refl.tenantFigures (.inl rfl) fun r hr => ?_
  rw [shedOutlets_congr (tenantFigures_relay s id) (tenantFigures_loader s id)]
  cases hfind : findTenant s id with
  | none => simp [Machine.tenantFigures, hfind] at hr
  | some u =>
    obtain rfl := findTenant_id hfind
    obtain rfl := Option.some.inj ((findTenant_tenantFigures hfind).symm.trans hr)
    exact ⟨h.shedding u (findTenant_mem hfind), h.recovering u (findTenant_mem hfind)⟩

/-- After the standing of a tenant only a restore step may leave it in RECOVER without a shed outlet (R101, R104). -/
theorem tenantStanding (h : ExcursionsHold none s) :
    ExcursionsHold (if attemptsRestore id s then some id else none) (tenantStanding id s) := by
  refine h.ofTenant OnlyTenant.refl.tenantStanding (.inl rfl) fun r' hr' => ?_
  cases hr : findTenant s id with
  | none => simp [Machine.tenantStanding, hr] at hr'
  | some r =>
    obtain rfl := findTenant_id hr
    have hshed := h.shedding r (findTenant_mem hr)
    have hrecover := (h.recovering r (findTenant_mem hr) · |>.resolve_right nofun)
    simp only [Machine.tenantStanding, attemptsRestore, hr, Option.any_some] at hr' ⊢
    cases hcase : tenantCase s r with
    | none =>
      simp only [hcase] at hr' ⊢
      obtain rfl := Option.some.inj (hr.symm.trans hr')
      exact ⟨hshed, fun hstanding => .inl (hrecover hstanding)⟩
    | some c =>
      have htaken : c.TakenIn r.standing (decide (shedOutlets s r.id ≠ [])) := by
        simp only [tenantCase] at hcase
        split at hcase
        · cases hcase
        · exact Option.some.inj hcase ▸ standingCase_takenIn ..
      simp only [hcase] at hr' ⊢
      obtain rfl := Option.some.inj ((findTenant_applyStanding c hr).symm.trans hr')
      by_cases hround : c.rounds = true
      · have hcurtail := standingAfter_rounds s.loader.params htaken hround
        exact ⟨fun _ => .inl hcurtail, fun hstanding => by simp [hcurtail] at hstanding⟩
      · by_cases hrestore : c = .restoreAttempt
        · subst hrestore
          exact ⟨fun _ => .inr htaken, fun _ => .inr (by simp)⟩
        · have hkept := shedOutlets_congr (applyStanding_relay (s := s) (t := r) (by simpa using hround) hrestore)
            (applyStanding_loader s c r) r.id
          have hafter := standingAfter_shed s.loader.params htaken (by simpa using hround) (by simpa using hshed)
            (by simpa using hrecover)
          rw [hkept]
          simpa [hrestore] using hafter

theorem evaluateTenant (h : ExcursionsHold none s) : ExcursionsHold none (evaluateTenant id s) := by
  have hstanding := h.tenantStanding (id := id)
  unfold Machine.evaluateTenant
  split
  · next hattempts => exact (by simpa [hattempts] using hstanding : ExcursionsHold (some id) _).tenantDeparture
  · next hattempts => simpa [hattempts] using hstanding

theorem closeTenant (h : ExcursionsHold none s) : ExcursionsHold none (closeTenant s id) :=
  h.tenantFigures.evaluateTenant

/-! ## A shed flag is cleared -/

/-- The flags of an outlet are changed so that it is no longer shed, and its tenant, where it was, departs if that was
the last one (R106). -/
theorem clearShed (h : ExcursionsHold none s) {n : Nat} {f : RelayOutlet → RelayOutlet}
    (hf : ∀ r, (f r).tenant = r.tenant ∧ (f r).shed = none)
    (hflags : switchFlags t = switchFlags (setRelayOutlet n f s)) (htenants : t.recon.tenants = s.recon.tenants)
    (hloader : t.loader = s.loader) (hrecords : t.records = s.records) :
    ExcursionsHold none (if (relayOutlet s n).shed.isSome then Machine.recoverDeparture (relayOutlet s n).tenant t
      else t) := by
  have hset (m : Nat) : (relayOutlet t m).tenant = (relayOutlet s m).tenant ∧
      ((relayOutlet t m).shed = (relayOutlet s m).shed ∨
        (relayOutlet s m).tenant = (relayOutlet s n).tenant ∧ (relayOutlet s m).shed = (relayOutlet s n).shed ∧
          (relayOutlet t m).shed = none) := by
    rcases relayOutlet_flags_set hflags m with ⟨hsame, hm⟩ | hm
    · simp only [RelayOutlet.flags, Prod.mk.injEq, hf] at hm
      obtain ⟨htenant, -, -, hshed⟩ := hm
      exact ⟨htenant, .inr ⟨by rw [hsame], by rw [hsame], hshed⟩⟩
    · simp only [RelayOutlet.flags, Prod.mk.injEq] at hm
      obtain ⟨htenant, -, -, hshed⟩ := hm
      exact ⟨htenant, .inl hshed⟩
  have hparams : t.loader.params = s.loader.params := by rw [hloader]
  have hstandings : standings t = standings s := by rw [standings, htenants, standings]
  split
  · refine recoverDeparture ?_
    have hother {i : Nat} (hi : i ≠ (relayOutlet s n).tenant) : shedOutlets t i = shedOutlets s i :=
      shedOutlets_of_shed hparams (fun m => (hset m).1) fun m hm =>
        (hset m).2.resolve_right fun hcleared => hi (hm.symm.trans hcleared.1)
    have hless {i : Nat} (hne : shedOutlets t i ≠ []) : shedOutlets s i ≠ [] := by
      obtain ⟨m, hm⟩ := List.exists_mem_of_ne_nil _ hne
      rw [mem_shedOutlets, tenantOutlets_congr hparams fun m => (hset m).1] at hm
      refine List.ne_nil_of_mem (a := m) (mem_shedOutlets.mpr ⟨hm.1, ?_⟩)
      rcases (hset m).2 with hkept | hcleared
      · rw [← hkept]
        exact hm.2
      · simp [hcleared.2.2] at hm
    refine ⟨by rw [tenantIds_of_standings hstandings]; exact h.ids, fun r hr hne => ?_, fun r hr hrecover => ?_,
      by rw [hrecords]; exact h.records⟩
    · exact h.shedding r (htenants ▸ hr) (hless hne)
    · by_cases hid : r.id = (relayOutlet s n).tenant
      · exact .inr (by rw [hid])
      · rw [hother hid]
        exact (h.recovering r (htenants ▸ hr) hrecover).imp_right nofun
  · next hclear =>
    refine h.congr hstandings (fun i => shedOutlets_of_shed hparams (fun m => (hset m).1) fun m _ => ?_)
      (by rw [hrecords])
    rcases (hset m).2 with hkept | ⟨-, hbefore, hafter⟩
    · exact hkept
    · rw [hafter, hbefore]
      exact (Option.not_isSome_iff_eq_none.mp hclear).symm

theorem lockOutlet (h : ExcursionsHold none s) {n : Nat} : ExcursionsHold none (lockOutlet n s) :=
  h.clearShed (n := n) (f := fun r => { r with lock := true, shed := none }) (fun _ => ⟨rfl, rfl⟩)
    (switchFlags_changeFlags ..) (by simp) (by simp) (by simp)

theorem unlockOutlet (h : ExcursionsHold none s) {n : Nat} : ExcursionsHold none (unlockOutlet n s) := by
  have hset (m : Nat) : (relayOutlet (Machine.unlockOutlet n s) m).tenant = (relayOutlet s m).tenant ∧
      (relayOutlet (Machine.unlockOutlet n s) m).shed = (relayOutlet s m).shed := by
    rcases relayOutlet_flags_set (switchFlags_changeFlags n (fun r => { r with lock := false }) s) m with
      ⟨-, hm⟩ | hm <;>
    · simp only [RelayOutlet.flags, Prod.mk.injEq] at hm
      obtain ⟨htenant, -, -, hshed⟩ := hm
      exact ⟨htenant, hshed⟩
  exact h.congr (by simp [standings, Machine.unlockOutlet])
    (fun i => shedOutlets_of_shed (by simp [Machine.unlockOutlet]) (fun m => (hset m).1) fun m _ => (hset m).2)
    (by simp [Machine.unlockOutlet])

theorem clearStuck (h : ExcursionsHold none s) {n : Nat} : ExcursionsHold none (clearStuck n s) :=
  h.of_flags (by simp [standings, Machine.clearStuck]) (by simp [Machine.clearStuck]) (by simp) (by simp)

theorem completeJob (h : ExcursionsHold leaving s) {n : Nat} {x : RelayState} :
    ExcursionsHold leaving (completeJob n x s) :=
  h.of_flags (by simp [standings]) (by simp) (by simp) (by simp)

theorem stuckResult (h : ExcursionsHold none s) {n : Nat} : ExcursionsHold none (stuckResult n s) :=
  h.clearShed (n := n) (f := fun r => { r with shed := none }) (fun _ => ⟨rfl, rfl⟩)
    ((switchFlags_completeJob ..).trans rfl) (by simp) (by simp) (by simp)

theorem verifyOpen (h : ExcursionsHold none s) : ExcursionsHold none (verifyOpen s) := by
  unfold Machine.verifyOpen
  split
  · split
    · exact h.completeJob
    · exact h.stuckResult
  · exact h

theorem settleEnds (h : ExcursionsHold leaving s) : ExcursionsHold leaving (settleEnds s) := by
  unfold Machine.settleEnds
  split
  · split
    · exact h.completeJob
    · exact h.of_flags rfl rfl rfl rfl
  · exact h

theorem endClose (h : ExcursionsHold leaving s) : ExcursionsHold leaving (endClose s) := h.frames

/-- The tenant that was leaving has left when the close is finished (R104). -/
theorem finishClose (h : ExcursionsHold (leavingNext s) s) : ExcursionsHold none (finishClose s) := by
  cases hhand : s.closeInHand with
  | none =>
    rw [finishClose_none s hhand]
    rwa [leavingNext_of_none hhand] at h
  | some work =>
    obtain ⟨stage, ids⟩ := work
    cases ids with
    | nil =>
      rw [finishClose_nil s stage hhand]
      have hnone : leavingNext s = none := by cases stage <;> simp [leavingNext, hhand]
      exact (hnone ▸ h).endClose
    | cons id rest =>
      rw [finishClose_cons s stage id rest hhand]
      have hfirst : ExcursionsHold none (finishTenant stage id s) := by
        simp only [leavingNext, hhand] at h
        cases stage
        · exact h.closeTenant
        · exact h.evaluateTenant
        · exact h.tenantDeparture
      exact endClose (List.foldlRecOn rest _ hfirst fun _ hu _ _ => hu.closeTenant)

end ExcursionsHold

/-! ## The tenants that an image installs -/

/-- An installation gives the tenants their standings by the switching records that it leaves (R93). -/
theorem install_startStanding (im : List Byte) (s : State) : ∃ u : State,
    install im s = enterSearch (u.withRecon
      ⟨(imageTenantRecords im).map (startStanding u), (imageParams im).expire, true⟩) ∧ u.records = s.records := by
  refine ⟨if s.loader.afterRestart then installRestart im (installing im s) else installPowerOn im (installing im s),
    rfl, ?_⟩
  split
  · rw [installRestart_onlyRelay]
    rfl
  · rw [installPowerOn_onlyRelay]
    rfl

/-- The tenants of an accepted image carry different ids (R172). -/
theorem imageTenantRecords_nodup {im : List Byte} (h : imageAccepted im = true) :
    ((imageTenantRecords im).map Tenant.id).Nodup := by
  have hids : imageTenantIds im = (imageTenantRecords im).map Tenant.id := by
    simp [imageTenantIds, imageTenantRecords, Function.comp_def, imageTenantRecord]
  simp only [imageAccepted, Bool.and_eq_true, decide_eq_true_eq] at h
  obtain ⟨⟨-, hdistinct⟩, -⟩ := h
  rwa [← hids]

namespace ExcursionRule

variable {s t : State}

/-! ## What every operation leaves of the rule -/

/-- With no close in hand no tenant is leaving. -/
theorem settled (h : ExcursionRule s) (hhand : s.closeInHand = none) : ExcursionsHold none s := by
  rw [← leavingNext_of_none hhand]
  exact excursionRule_iff.mp h

theorem of_hold (h : ExcursionsHold none s) : ExcursionRule s :=
  ⟨h.ids, h.shedding, fun r hr hrecover => (h.recovering r hr hrecover).imp_right nofun, h.records⟩

/-- An operation that leaves the standings, the flags of the switching records, the Record Queue and what is in hand. -/
theorem of_flags (h : ExcursionRule s) (hstandings : standings t = standings s)
    (hflags : switchFlags t = switchFlags s) (hparams : t.loader.params = s.loader.params)
    (hrecords : t.records = s.records) (hhand : t.closeInHand = s.closeInHand) : ExcursionRule t := by
  have hleaving : leavingNext t = leavingNext s := by rw [leavingNext, hhand, leavingNext]
  rw [excursionRule_iff, hleaving]
  exact (excursionRule_iff.mp h).of_flags hstandings hflags hparams hrecords

/-- An operation that leaves the blocks concerned. -/
theorem frames (h : ExcursionRule s) (htenants : t.recon.tenants = s.recon.tenants := by simp)
    (hrelay : t.relay = s.relay := by simp) (hloader : t.loader = s.loader := by simp)
    (hrecords : t.records = s.records := by simp) (hhand : t.closeInHand = s.closeInHand := by simp) :
    ExcursionRule t :=
  h.of_flags (by rw [standings, htenants, standings]) (by rw [switchFlags, hrelay, switchFlags]) (by rw [hloader])
    hrecords hhand

/-- Without tenants there is no excursion (R75). -/
theorem of_noTenants (htenants : s.recon.tenants = []) (hrecords : s.records.length ≤ 16) : ExcursionRule s where
  ids := by simp [htenants]
  shedding := by simp [htenants]
  recovering := by simp [htenants]
  records := hrecords

theorem finishClose (h : ExcursionRule s) : ExcursionsHold none (finishClose s) :=
  (excursionRule_iff.mp h).finishClose

theorem beginClose (h : ExcursionsHold none s) : ExcursionRule (beginClose s) :=
  of_hold (h.frames : ExcursionsHold none (Machine.beginClose s))

theorem closePeriod (h : ExcursionRule s) : ExcursionsHold none (closePeriod s) :=
  (beginClose h.finishClose).finishClose

/-- A part of a close keeps the rule: after a restore step the departure comes next (R104). -/
theorem workOn (h : ExcursionRule s) : ExcursionRule (workOn s) := by
  have hhold := excursionRule_iff.mp h
  have hpart {u : State} {x : Option CloseWork} (hu : ExcursionsHold (leavingNext (u.withCloseInHand x)) u) :
      ExcursionRule (u.withCloseInHand x) := excursionRule_iff.mpr hu.frames
  unfold Machine.workOn
  split
  · exact h
  · next stage hhand =>
    have hnone : leavingNext s = none := by cases stage <;> simp [leavingNext, hhand]
    exact of_hold (hnone ▸ hhold).endClose
  · next id rest hhand =>
    simp only [leavingNext, hhand] at hhold
    exact hpart hhold.tenantFigures
  · next id rest hhand =>
    simp only [leavingNext, hhand] at hhold
    refine hpart ?_
    have hstanding := hhold.tenantStanding (id := id)
    by_cases hattempts : attemptsRestore id s = true <;> simpa [leavingNext, hattempts] using hstanding
  · next id rest hhand =>
    simp only [leavingNext, hhand] at hhold
    exact hpart hhold.tenantDeparture

theorem expireStation (h : ExcursionRule s) (n : Nat) : ExcursionRule (expireStation n s) :=
  h.of_flags (standings_expireStation n s) (by simp [switchFlags]) (by simp) (by simp) (by simp)

theorem settleRoster (h : ExcursionRule s) : ExcursionRule (settleRoster s) :=
  h.of_flags (standings_settleRoster s) (by simp [switchFlags]) (by simp) (by simp) (by simp)

theorem takeReport (h : ExcursionRule s) (src ticks : Nat) (es : List ReportEntry) :
    ExcursionRule (takeReport src ticks es s) :=
  h.of_flags (standings_takeReport src ticks es s) (by simp [switchFlags]) (by simp) (by simp) (by simp)

/-! ## The commands of the gateway -/

theorem respond (h : ExcursionsHold none s) (c : Byte) (r : Result) (d : List Byte) : ExcursionRule (respond c r d s) :=
  of_hold h.frames

theorem commandEffect (h : ExcursionRule s) (code : Byte) (arg : List Byte) :
    ExcursionRule (commandEffect code arg s) := by
  unfold Machine.commandEffect
  split
  · unfold queryStatusEffect
    split
    · exact respond h.finishClose ..
    · exact h.frames
  · unfold queryOutletEffect
    split
    · exact respond h.finishClose ..
    · exact h.frames
  · unfold lockOffEffect
    split
    · exact h.frames
    · split
      · exact h.frames
      · exact respond h.finishClose.lockOutlet ..
  · unfold unlockEffect
    split
    · exact h.frames
    · exact respond h.finishClose.unlockOutlet ..
  · unfold clearFaultEffect
    split
    · exact h.frames
    · split
      · exact respond h.finishClose.clearStuck ..
      · exact h.frames
  · exact h.frames
  · exact h.frames
  · unfold fetchRecordEffect
    split
    · split
      · exact h.frames
      · next r rest hrecords =>
        have hlength := h.records
        have hfetched : ExcursionRule (s.withRecords rest) :=
          ⟨h.ids, h.shedding, h.recovering, by rw [hrecords, List.length_cons] at hlength; exact Nat.le_of_lt hlength⟩
        exact hfetched.frames
    · exact h.frames
  · exact h.frames
  · exact h.frames

theorem receiveCommand (h : ExcursionRule s) (code : Byte) (arg : List Byte) :
    ExcursionRule (receiveCommand arg (Machine.commandEffect code arg) s) := by
  unfold Machine.receiveCommand
  split_ifs
  · exact h
  · exact h.frames
  · exact h.commandEffect code arg

/-! ## Frames, characters and ticks -/

theorem deliverByKind (h : ExcursionRule s) (b : List Byte) : ExcursionRule (deliverByKind b s) := by
  unfold Machine.deliverByKind
  split
  · unfold deliverReport
    split_ifs
    · exact h.frames
    · exact h
    · exact h
    · exact h.takeReport ..
  · unfold deliverCommand
    split
    · split
      · exact h.receiveCommand ..
      · exact h
    · exact h
  · exact h

theorem deliverFrame (h : ExcursionRule s) (b : List Byte) : ExcursionRule (deliverFrame b s) := by
  have hsettled : ExcursionRule (settleForReport b s) := by
    unfold settleForReport
    split
    · exact (of_hold h.finishClose).settleRoster
    · exact h
  simp only [Machine.deliverFrame]
  have hadopted : ExcursionRule (adoptRate (hearFrame (settleForReport b s))) := hsettled.frames
  have hheard : ExcursionRule (hearFrame (settleForReport b s)) := hsettled.frames
  split
  · exact (hadopted.deliverByKind b).frames
  · exact hheard.deliverByKind b

theorem completeFrame (h : ExcursionRule s) : ExcursionRule (completeFrame s) := by
  unfold Machine.completeFrame
  split
  · exact h
  · have hjudged : ExcursionRule (s.withLink { s.link with assembler := .waitQuiet }) := h.frames
    simp only
    split
    · exact hjudged.deliverFrame _
    · exact hjudged

theorem takeCharacter (h : ExcursionRule s) (levels : BitVec 11) : ExcursionRule (takeCharacter levels s) := by
  unfold Machine.takeCharacter
  split
  · exact h.completeFrame.frames
  · exact h

theorem startRead (h : ExcursionRule s) : ExcursionRule (startRead s) := by
  have hsettled : ExcursionRule (Machine.settleRoster (verifyOpen (Machine.finishClose s))) :=
    (of_hold h.finishClose.verifyOpen).settleRoster
  have hdue : ExcursionRule (takeDueWork s) := by
    simp only [takeDueWork]
    split
    · exact of_hold hsettled.closePeriod
    · exact hsettled
  exact (hdue.frames : ExcursionRule ((takeDueWork s).withMeter { (takeDueWork s).meter with reading := some 1 }))

/-! ## Every command -/

/-- An installed image gives the tenants distinct ids, and lets those begin in RECOVER that have kept a shed outlet
(R93, R172). -/
theorem install {im : List Byte} (haccepted : imageAccepted im = true) (hrecords : s.records.length ≤ 16) :
    ExcursionRule (install im s) := by
  obtain ⟨u, hinstall, hkept⟩ := install_startStanding im s
  have hshed (id : Nat) : shedOutlets (Machine.install im s) id = shedOutlets u id :=
    shedOutlets_congr (by simp [hinstall]) (by simp [hinstall]) id
  have htenants : (Machine.install im s).recon.tenants = (imageTenantRecords im).map (startStanding u) := by
    simp [hinstall]
  have hid (r : Tenant) : (startStanding u r).id = r.id := by
    unfold startStanding
    split <;> rfl
  refine ⟨?_, fun r hr => ?_, fun r hr => ?_, by simpa [hinstall, hkept] using hrecords⟩
  · simp only [htenants, List.map_map, Function.comp_def, hid]
    exact imageTenantRecords_nodup haccepted
  all_goals
    rw [htenants] at hr
    obtain ⟨r', hr', rfl⟩ := List.mem_map.mp hr
    obtain ⟨i, -, rfl⟩ := List.mem_map.mp hr'
    rw [hshed, hid, startStanding_imageTenantRecord]
  · exact fun hne => .inr (if_neg hne)
  · intro hrecover
    left
    rintro hnone
    exact absurd hrecover (by simp [show shedOutlets u (imageTenantId im i) = [] from hnone])

/-- A reset, a rejection and the end of the hold leave no tenant; an installation begins the excursions afresh. -/
theorem exec_loads {c : Instr} (h : ExcursionRule s) (hrest : RestUntilInstalled s) (hexec : exec c s = .next t)
    (hc : loads c = true) : ExcursionRule t := by
  cases c
  case powerOnReset =>
    obtain rfl := Host.Outcome.next.inj hexec
    exact of_noTenants rfl (Nat.zero_le _)
  case restartReset straps =>
    obtain rfl := Host.Outcome.next.inj hexec
    split
    · exact of_noTenants rfl (Nat.zero_le _)
    · exact h
  case holdEnd straps =>
    obtain rfl := Host.Outcome.next.inj hexec
    split
    · next hheld => exact of_noTenants (hrest (by simp [hheld])).tenants h.records
    · exact h
  case imageReadComplete im =>
    obtain rfl := Host.Outcome.next.inj hexec
    split
    · next hread =>
      split
      · next haccepted => exact install haccepted h.records
      · exact of_noTenants (hrest (by simp [hread])).reject.tenants h.records
    · exact h
  all_goals simp [loads] at hc

/-- Every command that does not reach the Image Loader keeps the rule. -/
theorem exec {c : Instr} (h : ExcursionRule s) (hexec : exec c s = .next t) (hc : loads c = false) :
    ExcursionRule t := by
  have hif {p : Prop} [Decidable p] {u : State} (hu : ExcursionRule u) : ExcursionRule (if p then u else s) := by
    split
    · exact hu
    · exact h
  cases c
  case powerOnReset | restartReset | holdEnd | imageReadComplete => simp [loads] at hc
  all_goals obtain rfl := Host.Outcome.next.inj hexec
  case tick => exact hif h.startRead
  case captureCompletion f =>
    split
    · exact h
    · next c _ =>
      have happlied : ExcursionRule (applyFrame c (capturedBytes f) s) := by
        refine h.of_flags (by simp [standings]) ?_ (by simp) (by simp) (by simp)
        simp only [applyFrame, takeVerifySample]
        split <;> rfl
      split
      · exact happlied.frames
      · exact h.frames
  case stationExpiry n => exact hif (h.expireStation n)
  case periodClose | graceExpiry | settleExpiry | restoreCounterExpiry | checkCountdownExpiry =>
    exact hif (of_hold h.closePeriod)
  case character levels => exact h.takeCharacter levels
  case searchOnCharacterErrors levels => exact hif (h.takeCharacter levels)
  case assemblerArmed => exact hif h.completeFrame.frames
  case frameCompletion => exact h.completeFrame
  case queryStatus arg => exact h.receiveCommand 1 arg
  case queryOutlet arg => exact h.receiveCommand 2 arg
  case lockOff arg => exact h.receiveCommand 3 arg
  case unlock arg => exact h.receiveCommand 4 arg
  case clearFault arg => exact h.receiveCommand 5 arg
  case ackEvents arg => exact h.receiveCommand 6 arg
  case endAlert arg => exact h.receiveCommand 7 arg
  case fetchRecord arg => exact h.receiveCommand 8 arg
  case restart arg => exact h.receiveCommand 9 arg
  case invalidCommand code arg => exact h.receiveCommand code arg
  case attemptStart => exact hif h.completeFrame.frames
  case pulseEnd =>
    unfold pulseEnds
    split
    · exact h.of_flags rfl rfl rfl rfl rfl
    · exact h
  case settleEnd => exact hif (of_hold h.finishClose.settleEnds)
  case openVerify => exact hif (of_hold h.finishClose.verifyOpen)
  all_goals (repeat' split) <;> exact h.frames

theorem idle (h : ExcursionRule s) : ExcursionRule (idle s) := by
  unfold Machine.idle
  split_ifs with _ hhand
  · exact h.completeFrame
  · exact h.workOn
  · exact of_hold (h.settled (not_not.mp hhand)).verifyOpen
  · simp only [beginDueWork]
    split
    · exact beginClose (h.settleRoster.settled (by simpa using hhand))
    · exact h.settleRoster
  · exact h.frames
  · exact h.frames
  · exact h

end ExcursionRule

/-- Settles O60: a reset leaves no tenant, an installation begins the excursions afresh, and every other command and
idle step is made of operations that keep the rule tenant by tenant. -/
theorem stepKeepsExcursionRule : Obligations.StepKeepsExcursionRule := by
  intro s t hrest h hstep
  rcases step_cases hstep with ⟨-, rfl⟩ | ⟨c, rest, -, hexec⟩
  · exact h.idle
  · have hqueued : ExcursionRule (s.withPending rest) := h.frames
    cases hc : loads c
    · exact hqueued.exec hexec hc
    · exact hqueued.exec_loads (fun hload => (hrest hload).withPending rest) hexec hc

end Sys2Proof.Machine
end

section
/-! PROOF. O21, O29 and O30: the levels of a contract, the step of the demand, and the grades of the view. -/

namespace Sys2Proof.Machine

/-! ## The levels of a contract (R76) -/

theorem imageWord_le (im : List Byte) (i : Nat) : imageWord im i ≤ 65535 := by
  simp only [imageWord, serialBytes, List.range_succ_eq_map, List.range_zero, List.map_cons, List.map_nil, leNat]
  have hlow := (serialByte im (i + 0)).isLt
  have hhigh := (serialByte im (i + Nat.succ 0)).isLt
  omega

/-- Settles O21: the fractions of the contract lie in the ranges to which the image's fields are clamped. -/
theorem tenantLevelsFollowTheContract : Obligations.TenantLevelsFollowTheContract := by
  rintro im i r rfl
  have hword := imageWord_le im (imageRecord i + 2)
  have hunits : 1 ≤ (imageTenantRecord im i).units ∧ (imageTenantRecord im i).units ≤ 65535 := by
    simp only [imageTenantRecord]
    omega
  have hw : 8 ≤ (imageTenantRecord im i).w ∧ (imageTenantRecord im i).w ≤ 16 := by
    simp only [imageTenantRecord, clampTo]
    omega
  have hb : 16 ≤ (imageTenantRecord im i).b ∧ (imageTenantRecord im i).b ≤ 32 := by
    simp only [imageTenantRecord, clampTo]
    omega
  have hh : (imageTenantRecord im i).h ≤ 15 := Nat.min_le_left ..
  have hcontract : (imageTenantRecord im i).contract = (imageTenantRecord im i).units * 100 := rfl
  have hwarn : (imageTenantRecord im i).warn =
      (imageTenantRecord im i).contract * (imageTenantRecord im i).w / 16 := rfl
  have hburst : (imageTenantRecord im i).burst =
      (imageTenantRecord im i).contract * (imageTenantRecord im i).b / 16 := rfl
  have hrelease : (imageTenantRecord im i).release =
      (imageTenantRecord im i).contract - (imageTenantRecord im i).contract * (imageTenantRecord im i).h / 64 := rfl
  generalize imageTenantRecord im i = r at *
  have hwarnLow := Nat.mul_le_mul_left r.contract hw.1
  have hwarnHigh := Nat.mul_le_mul_left r.contract hw.2
  have hburstLow := Nat.mul_le_mul_left r.contract hb.1
  have hburstHigh := Nat.mul_le_mul_left r.contract hb.2
  have hmargin := Nat.mul_le_mul_left r.contract hh
  refine ⟨hcontract, hwarn, hburst, hrelease, ?_⟩
  omega

/-! ## The step of the demand (R80) -/

/-- The truncated quotient of a rise and of a fall (R80). -/
theorem tdiv_rise {k m d : Nat} (h : m ≤ d) : Int.tdiv ((d : Int) - m) (2 ^ k) = ((d - m) / 2 ^ k : Nat) := by
  have hcast : (d : Int) - m = (d - m : Nat) := by omega
  have hpow : (2 : Int) ^ k = (2 ^ k : Nat) := by push_cast; rfl
  rw [hcast, hpow, ← Int.ofNat_tdiv]

theorem tdiv_fall {k m d : Nat} (h : d ≤ m) : Int.tdiv ((d : Int) - m) (2 ^ k) = -((m - d) / 2 ^ k : Nat) := by
  rw [← neg_sub, Int.neg_tdiv, tdiv_rise h]

/-- Where demand and draw differ, the demand moves toward the draw by at least 1 and not past it (R80). -/
theorem demandStep_rise (k : Nat) {m d : Nat} (h : m < d) : m < demandStep k m d ∧ demandStep k m d ≤ d := by
  have hquotient := Nat.div_le_self (d - m) (2 ^ k)
  rw [demandStep, if_pos h]
  omega

theorem demandStep_fall (k : Nat) {m d : Nat} (h : d < m) : d ≤ demandStep k m d ∧ demandStep k m d < m := by
  have hquotient := Nat.div_le_self (m - d) (2 ^ k)
  rw [demandStep, if_neg (by omega), if_pos h]
  omega

theorem demandStep_rest (k m : Nat) : demandStep k m m = m := by simp [demandStep]

/-- The demand reaches a draw that stays still: each step brings it nearer (R80). -/
theorem demandStep_reaches (k d : Nat) (m : Nat) : ∃ n, (fun x => demandStep k x d)^[n] m = d := by
  by_cases hequal : m = d
  · exact ⟨0, hequal⟩
  · have hnearer : (d - demandStep k m d) + (demandStep k m d - d) < (d - m) + (m - d) := by
      rcases Nat.lt_or_gt_of_ne hequal with hlt | hgt
      · have := demandStep_rise k hlt
        omega
      · have := demandStep_fall k hgt
        omega
    obtain ⟨n, hn⟩ := demandStep_reaches k d (demandStep k m d)
    exact ⟨n + 1, by rw [Function.iterate_succ_apply]; exact hn⟩
termination_by (d - m) + (m - d)

/-- The step as the rule puts it, with signed numbers (R80). -/
theorem demandStep_signed (k m d : Nat) : (demandStep k m d : Int) = m + (if d = m then 0
    else if Int.tdiv ((d : Int) - m) (2 ^ k) = 0 then (if m < d then 1 else -1)
    else Int.tdiv ((d : Int) - m) (2 ^ k)) := by
  rcases Nat.lt_trichotomy m d with hlt | heq | hgt
  · rw [tdiv_rise hlt.le, demandStep, if_pos hlt, if_neg hlt.ne', if_pos hlt]
    generalize (d - m) / 2 ^ k = q
    split_ifs <;> omega
  · simp [heq, demandStep_rest]
  · have hquotient := Nat.div_le_self (m - d) (2 ^ k)
    rw [tdiv_fall hgt.le, demandStep, if_neg hgt.not_gt, if_pos hgt, if_neg hgt.ne, if_neg hgt.not_gt]
    generalize (m - d) / 2 ^ k = q at hquotient ⊢
    split_ifs <;> omega

/-- Settles O29: the signed quotient is the quotient of the difference with its sign, and each step lessens the
difference. -/
theorem demandMovesTowardTheDraw : Obligations.DemandMovesTowardTheDraw := by
  intro k m d
  refine ⟨⟨_, demandStep_signed k m d, rfl⟩, ?_, ?_, ?_, demandStep_reaches k d m⟩
  · rcases Nat.lt_trichotomy m d with hlt | rfl | hgt
    · exact (min_le_left ..).trans (demandStep_rise k hlt).1.le
    · simp [demandStep_rest]
    · exact (min_le_right ..).trans (demandStep_fall k hgt).1
  · rcases Nat.lt_trichotomy m d with hlt | rfl | hgt
    · exact (demandStep_rise k hlt).2.trans (le_max_right ..)
    · simp [demandStep_rest]
    · exact (demandStep_fall k hgt).2.le.trans (le_max_left ..)
  · simp only [demandStep, Nat.pow_zero, Nat.div_one]
    split_ifs <;> omega

/-! ## The view (R83 to R86) -/

section

variable {s : State} {r : Tenant}

/-- The set E: the expected hosts without the own station (R83). -/
theorem mem_expectedPeers {n : Nat} : n ∈ expectedPeers s r ↔
    1 ≤ n ∧ n ≤ 16 ∧ hasStation r.expected n = true ∧ n ≠ s.loader.station := by
  have hnumber : n ∈ stationNumbers ↔ 1 ≤ n ∧ n ≤ 16 := by
    simp only [stationNumbers, List.mem_map, List.mem_range]
    exact ⟨by rintro ⟨i, hi, rfl⟩; omega, fun h => ⟨n - 1, by omega, by omega⟩⟩
  simp [expectedPeers, hnumber, and_assoc]

/-- R84. -/
def Isolated (s : State) (r : Tenant) : Prop :=
  (∃ n, n ∈ expectedPeers s r) ∧ ∀ n ∈ expectedPeers s r, (rosterRecord s n).state = .absent

theorem viewQuality_eq : (Isolated s r → viewQuality s r = .isolated) ∧
    (¬ Isolated s r → viewQuality s r = if partialConditions s r then .partialView else .complete) := by
  have hiff : Isolated s r ↔ expectedPeers s r ≠ [] ∧
      (expectedPeers s r).all (fun n => decide ((rosterRecord s n).state = .absent)) = true := by
    simp [Isolated, List.eq_nil_iff_forall_not_mem]
  rw [viewQuality, hiff]
  exact ⟨fun h => if_pos h, fun h => if_neg h⟩

/-- R85. -/
theorem partialConditions_iff : partialConditions s r = true ↔
    (∃ n ∈ expectedPeers s r, (rosterRecord s n).state ≠ .live) ∨
    (∃ e ∈ s.table, e.tenant = r.id ∧ ((rosterRecord s e.source).state = .late ∨ e.unmeasured = true)) ∨
    r.overflow ≠ 0 ∨
    (∃ n ∈ presentOutlets s, (relayOutlet s n).tenant = r.id ∧ (meterOutlet s n).unmeasured = true) := by
  simp [partialConditions, anyUnmeasured, tenantOutlets, or_assoc]

end

/-- Settles O30: ISOLATED is tested first, and the conditions of R85 divide the rest. -/
theorem viewQualityIsGraded : Obligations.ViewQualityIsGraded := by
  intro s r
  simp only [← mem_expectedPeers]
  change (_ ↔ Isolated s r) ∧ (_ ↔ ¬ Isolated s r ∧ _) ∧ (_ ↔ ¬ Isolated s r ∧ _)
  rw [← partialConditions_iff]
  obtain ⟨hisolated, hother⟩ := viewQuality_eq (s := s) (r := r)
  by_cases hcase : Isolated s r
  · simp [hisolated hcase, hcase]
  · cases hpartial : partialConditions s r <;> simp [hother hcase, hcase, hpartial]

end Sys2Proof.Machine
end

section
/-! SUPPORT. The answer to a gateway command that is executed, as the whole state it leaves (R33, R160, R161). -/

namespace Sys2Proof.Machine

section

variable {arg : List Byte} {s : State}

/-- A command that is taken is executed (R160). -/
theorem CommandTaken.receiveCommand (h : CommandTaken arg s) (f : State → State) :
    receiveCommand arg f s = f s := by
  refine receiveCommand_taken arg f s h.length ?_ h.restart h.slot
  rcases h.link with hlink | hlink | hlink | hlink <;> simp [hlink, takesCommands]

/-- Responses are permitted in ALONE and JOINED (R27). -/
theorem permits_response (l : LinkState) : permits l .response = decide (l = .alone ∨ l = .joined) := by
  cases l <;> rfl

/-- The answer to a command finds the slot EMPTY, and reaches the Link Transceiver alone (R33, R161). -/
theorem respond_answered (c : Byte) (r : Result) (d : List Byte) (h : s.link.slot = none) :
    respond c r d s = { s with link := answered s c r d } := by
  by_cases hlink : s.monitor.link = .alone ∨ s.monitor.link = .joined
  · rw [respond_permitted c r d s (by simpa [permits_response] using hlink)]
    simp [answered, hlink, State.withLink]
  · rw [respond_dropped c r d s (by simpa [permits_response] using hlink)]
    simp [answered, hlink, ← h]

/-- Finishing a close leaves the response slot (R34). -/
@[simp] theorem finishClose_slot (s : State) : (finishClose s).link.slot = s.link.slot := by
  by_cases hhand : s.closeInHand = none
  · rw [finishClose_none s hhand]
  · obtain ⟨u, hmoves, heq⟩ := finishClose_moves hhand
    rw [heq, endClose_link, hmoves.link]

end

end Sys2Proof.Machine
end

section
/-! PROOF. O50: the two queries. -/

namespace Sys2Proof.Machine

/-- Two bytes of a set of sixteen places are its lower and its upper half (R176). -/
theorem leBytes_eventSet (x : EventSet) : leBytes 2 x.toNat = [x.setWidth 8, (x >>> 8).setWidth 8] := by
  simp only [leBytes, toByte, List.cons.injEq, and_true]
  constructor <;> apply BitVec.eq_of_toNat_eq <;> simp [Nat.shiftRight_eq_div_pow]

theorem leBytes_length (n v : Nat) : (leBytes n v).length = n := by
  induction n generalizing v with
  | zero => rfl
  | succ n ih => simp [leBytes, ih]

theorem statusEntry_length (f : StatusFigures) : (statusEntry f).length = 9 := by
  simp [statusEntry, leBytes_length]

theorem statusParams_length (p : Params) : (statusParams p).length = 13 := by simp [statusParams, leBytes_length]

/-- A QUERY_STATUS response holds 28 bytes and nine for each tenant of the part (R163). -/
theorem statusData_length (s : State) (part : Nat) :
    (statusData s part).length = 28 + 9 * (statusFigures s part).length := by
  have hentries : ((statusFigures s part).flatMap statusEntry).length = 9 * (statusFigures s part).length := by
    simp [List.length_flatMap, statusEntry_length, Nat.mul_comm]
  simp only [statusData, List.length_append, hentries, leBytes_length, statusParams_length, List.length_cons,
    List.length_nil]

theorem statusPart_eq_none {arg : List Byte} (h : arg ≠ []) (h0 : arg ≠ [0]) (h1 : arg ≠ [1]) :
    statusPart arg = none := by
  unfold statusPart
  split
  · contradiction
  · next x =>
    refine if_neg fun hx => ?_
    have hvalue : x = 0 ∨ x = 1 := by
      rcases Nat.le_one_iff_eq_zero_or_eq_one.mp hx with hzero | hone
      · exact .inl (BitVec.eq_of_toNat_eq hzero)
      · exact .inr (BitVec.eq_of_toNat_eq hone)
    rcases hvalue with rfl | rfl <;> contradiction
  · rfl

theorem exec_queryStatus {arg : List Byte} {s : State} (h : CommandTaken arg s) :
    exec (.queryStatus arg) s = .next (queryStatusEffect arg s) := by
  rw [exec, execQueryStatus, h.receiveCommand]

theorem exec_queryOutlet {arg : List Byte} {s : State} (h : CommandTaken arg s) :
    exec (.queryOutlet arg) s = .next (queryOutletEffect arg s) := by
  rw [exec, execQueryOutlet, h.receiveCommand]

/-- QUERY_STATUS of a part answers with the state that a finished close leaves (R163). -/
theorem queryStatusEffect_part {arg : List Byte} {s : State} {part : Nat} (hslot : s.link.slot = none)
    (hpart : statusPart arg = some part) : queryStatusEffect arg s =
      { finishClose s with link := answered (finishClose s) 0x01 .done (statusData (finishClose s) part) } := by
  rw [queryStatusEffect, hpart]
  exact respond_answered _ _ _ (by simpa using hslot)

/-- The bits of a flag byte (R164). -/
theorem flagBits : ∀ a b c d : Bool,
    let n := (if a then 1 else 0) + (if b then 2 else 0) + (if c then 4 else 0) + (if d then 8 else 0)
    n < 16 ∧ n.testBit 0 = a ∧ n.testBit 1 = b ∧ n.testBit 2 = c ∧ n.testBit 3 = d := by decide

theorem outletFlags_bits (s : State) (n : Nat) : outletFlags s n < 16 ∧
    (outletFlags s n).testBit 0 = (relayOutlet s n).lock ∧
    (outletFlags s n).testBit 1 = (relayOutlet s n).shed.isSome ∧
    (outletFlags s n).testBit 2 = (meterOutlet s n).unmeasured ∧
    ((outletFlags s n).testBit 3 = true ↔ (relayOutlet s n).tenant ≠ 0 ∧
      ∃ e ∈ s.table, e.tenant = (relayOutlet s n).tenant ∧ e.unexpected = true) := by
  obtain ⟨hlimit, hlock, hshed, hunmeasured, hunexpected⟩ := flagBits (relayOutlet s n).lock
    (relayOutlet s n).shed.isSome (meterOutlet s n).unmeasured
    (decide ((relayOutlet s n).tenant ≠ 0 ∧ anyUnexpected s (relayOutlet s n).tenant))
  simp only [decide_eq_true_eq] at hlimit hlock hshed hunmeasured hunexpected
  refine ⟨hlimit, hlock, hshed, hunmeasured, ?_⟩
  rw [outletFlags, hunexpected]
  simp [anyUnexpected]

/-- Settles O50: each query finds the close finished and answers from the state it leaves. -/
theorem queriesAnswerTheState : Obligations.QueriesAnswerTheState := by
  refine ⟨fun p => ?_, by decide, fun arg s h => ⟨fun part hpart => ?_, fun hne h0 h1 => ?_⟩,
    fun arg s h => ⟨fun x hx hpresent => ?_, fun habsent => ?_⟩⟩
  · rw [statusParams, leBytes_eventSet]
    rfl
  · have hread : statusPart arg = some part := by
      rcases hpart with ⟨rfl, rfl⟩ | ⟨rfl, rfl⟩ | ⟨rfl, rfl⟩ <;> rfl
    refine ⟨statusData (finishClose s) part, ?_, ?_, ?_, rfl⟩
    · rw [exec_queryStatus h, queryStatusEffect_part h.slot hread]
    · simp only [statusData, statusFigures, List.length_map, List.flatMap_map]
      rfl
    · simp [statusData_length, statusFigures]
  · rw [exec_queryStatus h, queryStatusEffect, statusPart_eq_none hne h0 h1]
    exact congrArg _ (respond_answered _ _ _ h.slot)
  · subst hx
    obtain hflags := outletFlags_bits (finishClose s) x.toNat
    refine ⟨outletFlags (finishClose s) x.toNat, outletData (finishClose s) x.toNat, ?_, ?_, hflags⟩
    · have harg : outletArg s [x] = some x.toNat := by simp [outletArg, oneByteArg, hpresent]
      rw [exec_queryOutlet h, queryOutletEffect, harg]
      exact congrArg _ (respond_answered _ _ _ (by simpa using h.slot))
    · simp [outletData, toByte]
  · have harg : outletArg s arg = none := by
      unfold outletArg oneByteArg
      split
      · next x => simp [habsent x rfl]
      · rfl
    rw [exec_queryOutlet h, queryOutletEffect, harg]
    exact congrArg _ (respond_answered _ _ _ h.slot)

end Sys2Proof.Machine
end

section
/-! SUPPORT. A close tenant by tenant: what the work on the other tenants leaves of a tenant, and the record that its
own work leaves (R77, R78 to R86, R91, R96 to R105). -/

namespace Sys2Proof.Machine

/-! ## What every tenant's work reads -/

namespace Moves

variable {s t : State} (h : Moves s t)
include h

theorem meter : t.meter = s.meter := h.keeps (π := State.meter) fun hm => by cases hm <;> rfl
theorem time : t.time = s.time := h.keeps (π := State.time) fun hm => by cases hm <;> rfl
theorem roster : t.roster = s.roster := h.keeps (π := State.roster) fun hm => by cases hm <;> rfl
theorem table : t.table = s.table := h.keeps (π := State.table) fun hm => by cases hm <;> rfl

/-- The kind of the close stays while it is worked (R82). -/
theorem phase : closePhase t = closePhase s := h.keeps (π := closePhase) fun hm => by cases hm <;> rfl

end Moves

/-- The view depends on the roster, the table, the own station number and the outlets' UNMEASURED conditions (R83 to
R86). -/
theorem viewQuality_congr {s t : State} {r : Tenant} (hloader : t.loader = s.loader) (hroster : t.roster = s.roster)
    (htable : t.table = s.table) (hunmeasured : anyUnmeasured t r.id = anyUnmeasured s r.id) :
    viewQuality t r = viewQuality s r := by
  simp [viewQuality, partialConditions, expectedPeers, rosterRecord, hloader, hroster, htable, hunmeasured]

/-- The figures of a close are the same whenever in the close they are taken (R77). -/
theorem Moves.closeFigures {s t : State} (h : Moves s t) (r : Tenant) : closeFigures t r = closeFigures s r := by
  have hmeter (n : Nat) : meterOutlet t n = meterOutlet s n := meterOutlet_congr h.meter n
  have hsubtotal : localSubtotal t r.id = localSubtotal s r.id := by simp [localSubtotal, h.tenantOutlets, hmeter]
  have hdraw : cageDraw t r.id = cageDraw s r.id := by
    rw [cageDraw, hsubtotal, heldContributions, h.table, cageDraw, heldContributions]
  have hview : viewQuality t r = viewQuality s r :=
    viewQuality_congr h.loader h.roster h.table (by simp [anyUnmeasured, h.tenantOutlets, hmeter])
  simp only [Machine.closeFigures, hdraw, hsubtotal, hview, h.phase, h.loader]

/-- Before the averages are made nothing else of the figures of a close differs (R8, R83). -/
theorem viewQuality_beginClose (s : State) (r : Tenant) : viewQuality (beginClose s) r = viewQuality s r := by
  have houtlets : tenantOutlets (beginClose s) r.id = tenantOutlets s r.id :=
    tenantOutlets_congr (by simp) fun n => by rw [relayOutlet, beginClose_relay, relayOutlet]
  have hunmeasured (n : Nat) : (meterOutlet (beginClose s) n).unmeasured = (meterOutlet s n).unmeasured := by
    rw [meterOutlet_congr (beginClose_meter s), meterOutlet_closeMeter]
    split <;> rfl
  exact viewQuality_congr (by simp) (by simp) (by simp) (by simp [anyUnmeasured, houtlets, hunmeasured])

/-! ## The work on the other tenants -/

/-- From `s` to `t` work has been done for other tenants than `id`. -/
structure TenantKept (id : Nat) (s t : State) : Prop where
  moves : Moves s t
  tenant : findTenant t id = findTenant s id
  shed : ∀ n, (relayOutlet s n).tenant = id → (relayOutlet t n).shed = (relayOutlet s n).shed

namespace TenantKept

variable {id i : Nat} {s t u : State}

theorem refl : TenantKept id s s := ⟨.refl, rfl, fun _ _ => rfl⟩

theorem trans (h : TenantKept id s t) (g : TenantKept id t u) : TenantKept id s u where
  moves := h.moves.trans g.moves
  tenant := g.tenant.trans h.tenant
  shed n hn := (g.shed n (by rwa [h.moves.outletTenant])).trans (h.shed n hn)

theorem of_other (h : OnlyTenant i s t) (hi : i ≠ id) : TenantKept id s t where
  moves := h.moves
  tenant := h.tenants id hi.symm
  shed n hn := h.shed n (by rw [hn]; exact hi.symm)

/-- The work of a close for some tenants leaves every other one (R110, R112). -/
theorem closeTenants (ids : List Nat) (hid : id ∉ ids) : TenantKept id s (ids.foldl closeTenant s) := by
  induction ids generalizing s with
  | nil => exact refl
  | cons i ids ih =>
    have hne : i ≠ id := fun h => hid (h ▸ .head _)
    exact (of_other OnlyTenant.refl.closeTenant hne).trans (ih fun h => hid (.tail _ h))

theorem shedOutlets (h : TenantKept id s t) : shedOutlets t id = shedOutlets s id :=
  shedOutlets_of_shed (congrArg Loader.params h.moves.loader) h.moves.outletTenant h.shed

end TenantKept

/-! ## The tenant's own work -/

/-- The record of a tenant after its work in a close: `t` holds the figures, `c` is the case of its evaluation, and
`after` its shed outlets then. A restore step that leaves none ends in a departure (R96 to R105). -/
def closedRecord (p : Params) (c : Option StandingCase) (t : Tenant) (after : List Nat) : Tenant :=
  match c with
  | none => t
  | some c =>
    if c = .restoreAttempt ∧ after = [] then { standingAfter p c t with standing := standingByDemand t }
    else standingAfter p c t

theorem standingAfter_eq (p : Params) (c : StandingCase) (t : Tenant) : ∃ x g n m,
    standingAfter p c t = { t with standing := x, grace := g, settle := n, restore := m } := by
  cases c <;> exact ⟨_, _, _, _, rfl⟩

/-- An evaluation reaches the standing and the three counters alone (R91). -/
theorem closedRecord_eq (p : Params) (c : Option StandingCase) (t : Tenant) (after : List Nat) : ∃ x g n m,
    closedRecord p c t after = { t with standing := x, grace := g, settle := n, restore := m } := by
  cases c with
  | none => exact ⟨_, _, _, _, rfl⟩
  | some c =>
    obtain ⟨x, g, n, m, heq⟩ := standingAfter_eq p c t
    simp only [closedRecord, heq]
    split <;> exact ⟨_, _, _, _, rfl⟩

section

variable {s : State} {r t : Tenant} {id : Nat} {c : StandingCase}

theorem tenantCase_setTenant {f : Tenant → Tenant} : tenantCase (setTenant id f s) t = tenantCase s t := rfl

/-- In warm-up the figures alone are taken (R94). -/
theorem tenantFigures_none (h : findTenant s id = some r) (hcase : tenantCase s (closeFigures s r) = none) :
    tenantFigures id s = setTenant id (fun _ => closeFigures s r) s := by
  simp only [tenantFigures, h, tenantCase_setTenant, hcase]

/-- The figures, VIEW_DEGRADED, and the beginning of an excursion (R87, R107). -/
theorem tenantFigures_some (h : findTenant s id = some r) (hcase : tenantCase s (closeFigures s r) = some c)
    {u v : State} (hu : u = setTenant id (fun _ => closeFigures s r) s)
    (hv : v = if r.view = .complete ∧ (closeFigures s r).view ≠ .complete then raise .viewDegraded u else u) :
    tenantFigures id s = if c.begins (closeFigures s r) then beginExcursion (closeFigures s r) v else v := by
  simp only [tenantFigures, h, tenantCase_setTenant, hcase, hu, hv]

/-- In warm-up a tenant is not evaluated (R94). -/
theorem evaluateTenant_none (h : findTenant s id = some t) (hcase : tenantCase s t = none) :
    evaluateTenant id s = s := by
  simp [evaluateTenant, attemptsRestore, tenantStanding, h, hcase]

/-- An evaluation is its case, with the departure after a restore step (R104). -/
theorem evaluateTenant_some (h : findTenant s id = some t) (hcase : tenantCase s t = some c) :
    evaluateTenant id s =
      if c = .restoreAttempt then tenantDeparture id (applyStanding c t s) else applyStanding c t s := by
  simp [evaluateTenant, attemptsRestore, tenantStanding, h, hcase]

theorem findTenant_tenantDeparture (h : findTenant s id = some t) : findTenant (tenantDeparture id s) id =
    some (if shedOutlets s id = [] then { t with standing := standingByDemand t } else t) := by
  simp only [tenantDeparture, h]
  split
  · exact (findTenant_raise ..).trans (findTenant_endExcursion h)
  · exact h

theorem findTenant_evaluateTenant (h : findTenant s id = some t) : findTenant (evaluateTenant id s) id =
    some (closedRecord s.loader.params (tenantCase s t) t (shedOutlets (evaluateTenant id s) id)) := by
  cases hcase : tenantCase s t with
  | none => rwa [evaluateTenant_none h hcase]
  | some c =>
    have hstanding := findTenant_applyStanding c h
    rw [evaluateTenant_some h hcase]
    by_cases hrestore : c = .restoreAttempt
    · subst hrestore
      have hkept : shedOutlets (tenantDeparture id (applyStanding .restoreAttempt t s)) id =
          shedOutlets (applyStanding .restoreAttempt t s) id := shedOutlets_congr (by simp) (by simp) id
      simp only [if_true, hkept, findTenant_tenantDeparture hstanding, closedRecord, true_and]
      rfl
    · simp [hrestore, hstanding, closedRecord]

/-- The case of an evaluation is settled once the figures have been taken. -/
theorem tenantCase_tenantFigures : tenantCase (tenantFigures id s) t = tenantCase s t := by
  have hmoves : Moves s (tenantFigures id s) := Moves.refl.tenantFigures
  rw [tenantCase, hmoves.phase, shedOutlets_congr (s := s) (by simp) (by simp), tenantCase]

/-- The record that the work of a close leaves of a tenant (R77 to R105). -/
theorem findTenant_closeTenant (h : findTenant s id = some r) : findTenant (closeTenant s id) id =
    some (closedRecord s.loader.params (tenantCase s (closeFigures s r)) (closeFigures s r)
      (shedOutlets (closeTenant s id) id)) := by
  have hfigures := findTenant_evaluateTenant (findTenant_tenantFigures h)
  rwa [tenantCase_tenantFigures, tenantFigures_loader] at hfigures

end

/-! ## A tenant in the whole close -/

/-- With distinct ids a tenant's work in a close finds the tenant as the close began, and leaves it as the close ends
(R77, R110). -/
theorem closePeriod_tenant {s : State} (hhand : s.closeInHand = none) {pre post : List Tenant} {r : Tenant}
    (htenants : s.recon.tenants = pre ++ r :: post) (hids : (tenantIds s).Nodup) {u : State}
    (hu : u = (pre.map Tenant.id).foldl closeTenant (beginClose s)) :
    TenantKept r.id (beginClose s) u ∧ findTenant u r.id = some r ∧
      ∃ w, TenantKept r.id (closeTenant u r.id) w ∧ closePeriod s = endClose w := by
  have hsplit : tenantIds s = pre.map Tenant.id ++ r.id :: post.map Tenant.id := by simp [tenantIds, htenants]
  obtain ⟨-, hpost, hapart⟩ := List.nodup_append.mp (hsplit ▸ hids)
  have hbefore : TenantKept r.id (beginClose s) u := hu ▸ TenantKept.closeTenants _ fun hmem =>
    hapart _ hmem _ (.head _) rfl
  refine ⟨hbefore, ?_, (post.map Tenant.id).foldl closeTenant (closeTenant u r.id),
    TenantKept.closeTenants _ (List.nodup_cons.mp hpost).1, ?_⟩
  · obtain ⟨r', hr'⟩ := findTenant_of_mem (s := s) (id := r.id) (by simp [hsplit])
    have hmem : r ∈ s.recon.tenants := by simp [htenants]
    rw [hbefore.tenant, findTenant_congr (beginClose_recon s), hr', eq_of_findTenant hids hr' hmem rfl]
  · rw [closePeriod_eq s hhand]
    change endClose ((tenantIds s).foldl closeTenant (beginClose s)) = _
    rw [hsplit, List.foldl_append, List.foldl_cons, ← hu]

@[simp] theorem findTenant_endClose (s : State) (id : Nat) : findTenant (endClose s) id = findTenant s id := by
  rw [findTenant, endClose_tenants, findTenant]

/-- The record of a tenant after a close: the figures of the close, and what the case of its evaluation makes of the
standing and the counters (R77 to R105). -/
theorem findTenant_closePeriod {s : State} (hhand : s.closeInHand = none) (hids : (tenantIds s).Nodup) {r : Tenant}
    (hr : r ∈ s.recon.tenants) : findTenant (closePeriod s) r.id =
      some (closedRecord s.loader.params (tenantCase (beginClose s) (closeFigures (beginClose s) r))
        (closeFigures (beginClose s) r) (shedOutlets (closePeriod s) r.id)) := by
  obtain ⟨pre, post, htenants⟩ := List.append_of_mem hr
  obtain ⟨hbefore, hfind, w, hafter, hclose⟩ := closePeriod_tenant hhand htenants hids rfl
  have hcase {x : Tenant} (hx : x.id = r.id) :
      tenantCase ((pre.map Tenant.id).foldl closeTenant (beginClose s)) x = tenantCase (beginClose s) x := by
    rw [tenantCase, hbefore.moves.phase, hx, hbefore.shedOutlets, tenantCase, hx]
  have hkept : shedOutlets (endClose w) r.id = shedOutlets w r.id := shedOutlets_congr (by simp) (by simp) _
  rw [hclose, findTenant_endClose, hafter.tenant, findTenant_closeTenant hfind, hkept, hafter.shedOutlets,
    hbefore.moves.closeFigures, hcase (by rfl), hbefore.moves.loader, beginClose_loader]

end Sys2Proof.Machine
end

section
/-! PROOF. O28 and O35: the figures that a close leaves of every tenant, and a warm-up close. -/

namespace Sys2Proof.Machine

/-- The warm-up count falls by 1, or seed due becomes no (R81, R82). -/
theorem endClose_warmup (s : State) : (endClose s).recon.warmup = s.recon.warmup - 1 ∧
    (endClose s).recon.seedDue = (s.recon.seedDue && decide (0 < s.recon.warmup)) := by
  have hkept : (endClose s).recon = (endWarmupClose s).recon := by simp [endClose]
  rw [hkept, endWarmupClose, closePhase]
  by_cases hwarmup : 0 < s.recon.warmup
  · simp [hwarmup]
  · cases hseed : s.recon.seedDue
    · simp [hwarmup, hseed]
      omega
    · simp [hwarmup]
      omega

theorem closePeriod_warmup {s : State} (hhand : s.closeInHand = none) :
    (closePeriod s).recon.warmup = s.recon.warmup - 1 ∧
      (closePeriod s).recon.seedDue = (s.recon.seedDue && decide (0 < s.recon.warmup)) := by
  obtain ⟨u, hmoves, -, hclose⟩ := closePeriod_moves hhand
  have hkept := hmoves.keeps (π := fun v => (v.recon.warmup, v.recon.seedDue)) fun hm => by cases hm <;> rfl
  simp only [beginClose_recon, Prod.mk.injEq] at hkept
  rw [hclose, ← hkept.1, ← hkept.2]
  exact endClose_warmup u

theorem exec_periodClose {s : State} (h : closeDue s = true) : exec .periodClose s = .next (closePeriod s) := by
  simp [exec, execPeriodClose, h]

/-! ## The figures of a close (R77 to R86) -/

theorem tenantOutlets_beginClose (s : State) (id : Nat) : tenantOutlets (beginClose s) id = tenantOutlets s id :=
  tenantOutlets_congr (by simp) fun n => by rw [relayOutlet, beginClose_relay, relayOutlet]

/-- The averages that a close works with are those that it leaves (R8, R78). -/
theorem localSubtotal_beginClose (s : State) (id : Nat) : localSubtotal (beginClose s) id =
    ((tenantOutlets s id).map fun n => (meterOutlet (closePeriod s) n).average).sum := by
  have hmeter (n : Nat) : meterOutlet (beginClose s) n = meterOutlet (closePeriod s) n :=
    meterOutlet_congr ((beginClose_meter s).trans (closePeriod_meter s).1.symm) n
  simp [localSubtotal, tenantOutlets_beginClose, hmeter]

theorem closePhase_seeding (s : State) :
    closePhase s = .seeding ↔ s.recon.warmup = 0 ∧ s.recon.seedDue = true := by
  unfold closePhase
  by_cases hwarmup : 0 < s.recon.warmup
  · simp [hwarmup]
    omega
  · cases hseed : s.recon.seedDue <;> simp [hwarmup]
    omega

/-- Settles O28: an evaluation leaves the figures, and the figures are those of the beginning of the close. -/
theorem closeFiguresFollowTheRules : Obligations.CloseFiguresFollowTheRules := by
  intro s hdue hhand hids
  obtain ⟨hwarmup, hseed⟩ := closePeriod_warmup hhand
  refine ⟨closePeriod s, exec_periodClose hdue, hwarmup, hseed,
    fun r hr => ⟨_, findTenant_closePeriod hhand hids hr, ?_⟩⟩
  obtain ⟨x, g, n, m, hrecord⟩ := closedRecord_eq s.loader.params
    (tenantCase (beginClose s) (closeFigures (beginClose s) r)) (closeFigures (beginClose s) r)
    (shedOutlets (closePeriod s) r.id)
  rw [hrecord]
  have hphase : closePhase (beginClose s) = .seeding ↔ s.recon.warmup = 0 ∧ s.recon.seedDue = true := by
    rw [closePhase_seeding, beginClose_recon]
  refine ⟨localSubtotal_beginClose s r.id, ?_, ?_, viewQuality_beginClose s r, rfl, rfl⟩
  · simp [closeFigures, cageDraw, heldContributions]
  · simp only [closeFigures, hphase, beginClose_loader]

/-! ## A warm-up close (R94) -/

theorem closePhase_warmup {s : State} (h : 0 < s.recon.warmup) : closePhase s = .warmup := by
  rw [closePhase, if_pos h]

theorem tenantCase_warmup {s : State} (h : closePhase s = .warmup) (t : Tenant) : tenantCase s t = none := by
  rw [tenantCase, if_pos h]

/-- In warm-up the work for a tenant takes its figures alone (R94). -/
theorem closeTenant_warmup {s : State} (h : closePhase s = .warmup) (id : Nat) :
    (closeTenant s id).relay = s.relay ∧ (closeTenant s id).records = s.records ∧
      (closeTenant s id).alert = s.alert := by
  cases hfind : findTenant s id with
  | none => simp [closeTenant, tenantFigures, evaluateTenant, tenantStanding, attemptsRestore, hfind]
  | some r =>
    have hnone : tenantCase (tenantFigures id s) (closeFigures s r) = none := by
      rw [tenantCase_tenantFigures, tenantCase_warmup h]
    rw [closeTenant, evaluateTenant_none (findTenant_tenantFigures hfind) hnone]
    simp [tenantFigures_none hfind (tenantCase_warmup h _)]

theorem closeTenants_warmup {s : State} (h : closePhase s = .warmup) (ids : List Nat) :
    (ids.foldl closeTenant s).relay = s.relay ∧ (ids.foldl closeTenant s).records = s.records ∧
      (ids.foldl closeTenant s).alert = s.alert := by
  induction ids generalizing s with
  | nil => exact ⟨rfl, rfl, rfl⟩
  | cons id ids ih =>
    obtain ⟨hrelay, hrecords, halert⟩ := closeTenant_warmup h id
    have hmoves : Moves s (closeTenant s id) := Moves.refl.closeTenant
    obtain ⟨hrelay', hrecords', halert'⟩ := ih (hmoves.phase.trans h)
    exact ⟨hrelay'.trans hrelay, hrecords'.trans hrecords, halert'.trans halert⟩

/-- The end of a close raises nothing but REPORT_SUPERSEDED (R34). -/
theorem latched_endClose (s : State) {k : EventKind} (hk : k ≠ .reportSuperseded) :
    latched (endClose s) k = latched s k := by
  have hwarmup : latched (endWarmupClose s) k = latched s k := by simp [latched]
  rw [← hwarmup]
  change latched (publishReport (endWarmupClose s)) k = _
  simp only [publishReport]
  split
  · simp only [latched_raise, hk, decide_false, Bool.or_false]
    rfl
  · rfl

/-- Settles O35: with no case to evaluate, a close takes the figures and ends. -/
theorem warmupCloseEvaluatesNothing : Obligations.WarmupCloseEvaluatesNothing := by
  intro s hdue hhand hids hwarmup
  have hphase : closePhase (beginClose s) = .warmup := closePhase_warmup (by simpa using hwarmup)
  obtain ⟨hrelay, hrecords, halert⟩ := closeTenants_warmup hphase (tenantIds s)
  have hclose : closePeriod s = endClose ((tenantIds s).foldl closeTenant (beginClose s)) := closePeriod_eq s hhand
  refine ⟨closePeriod s, exec_periodClose hdue, fun r hr => ⟨_, findTenant_closePeriod hhand hids hr, ?_⟩, ?_, ?_,
    fun k hk => ?_, ?_⟩
  · rw [tenantCase_warmup hphase]
    exact ⟨rfl, rfl, rfl, rfl⟩
  · rw [hclose, endClose_relay, hrelay, beginClose_relay]
  · rw [hclose, endClose_records, hrecords, beginClose_records]
  · rw [hclose, latched_endClose _ hk, latched, halert, beginClose_alert, latched]
  · rw [(closePeriod_warmup hhand).1]
    omega

end Sys2Proof.Machine
end

section
/-! SUPPORT. The figures that call for each case of an evaluation, and how the case moves the standing and the counters
(R96 to R105). -/

namespace Sys2Proof.Machine

/-- The cage draw exceeds the burst level of a tenant with enforce set (R96, R98, R102). -/
def Tenant.Bursts (t : Tenant) : Prop := t.enforce = true ∧ t.burst < t.draw

/-- The figures and counters that call for each case, in a standing in which it can be taken (R96 to R105). -/
def StandingCase.Called (c : StandingCase) (t : Tenant) : Prop :=
  match c with
  | .burst => t.Bursts
  | .straightOn => ¬ t.Bursts ∧ t.contract < t.demand ∧ t.enforce = true ∧ t.graceSetting = 0
  | .enterExcess => ¬ t.Bursts ∧ t.contract < t.demand ∧ ¬ (t.enforce = true ∧ t.graceSetting = 0)
  | .byDemand | .endOfExcess => ¬ t.Bursts ∧ t.demand ≤ t.contract
  | .graceEnd => ¬ t.Bursts ∧ t.contract < t.demand ∧ t.enforce = true ∧ t.grace = 1
  | .graceRun => ¬ t.Bursts ∧ t.contract < t.demand ∧ ¬ (t.enforce = true ∧ t.grace = 1)
  | .release | .releaseBare => t.demand ≤ t.release
  | .round => t.release < t.demand ∧ t.settle = 0
  | .settleRun => t.release < t.demand ∧ t.settle ≠ 0
  | .renewedExcess => ¬ t.Bursts ∧ t.enforce = true ∧ t.contract < t.demand
  | .restoreAttempt => ¬ t.Bursts ∧ ¬ (t.enforce = true ∧ t.contract < t.demand) ∧ t.restore ≤ 1
  | .restoreRun => ¬ t.Bursts ∧ ¬ (t.enforce = true ∧ t.contract < t.demand) ∧ ¬ t.restore ≤ 1

theorem standingCase_called (t : Tenant) (shedHere : Bool) : (standingCase t shedHere).Called t := by
  have hbursts : (t.enforce && decide (t.burst < t.draw)) = true ↔ t.Bursts := by simp [Tenant.Bursts]
  unfold standingCase
  simp only [hbursts]
  cases t.standing <;> simp only <;> split_ifs <;> simp_all [StandingCase.Called]

/-- The tenant's record with the figures of a close (R77). -/
def Tenant.withFigures (r : Tenant) (l d m : Nat) (v : View) : Tenant :=
  { r with subtotal := l, draw := d, demand := m, view := v }

theorem closeFigures_withFigures (s : State) (r : Tenant) : ∃ l d m v, closeFigures s r = r.withFigures l d m v :=
  ⟨_, _, _, _, rfl⟩

/-- The case of an evaluation moves the standing and the counters as the rules say (R96 to R105). -/
theorem standingMoves_closedRecord (p : Params) (r : Tenant) {t : Tenant} {l d m : Nat} {v : View}
    (ht : t = r.withFigures l d m v) {c : StandingCase} {before : Prop} [Decidable before] (after : List Nat)
    (htaken : c.TakenIn t.standing (decide before)) (hcalled : c.Called t) {now : Prop} [Decidable now]
    (hnow : now ↔ after ≠ []) : StandingMoves p r (closedRecord p (some c) t after) before now := by
  subst ht
  change c.TakenIn r.standing _ at htaken
  have hbursts : (r.withFigures l d m v).Bursts ↔ r.enforce = true ∧ r.burst < d := Iff.rfl
  have hdemand : standingByDemand (r.withFigures l d m v) = if r.warn ≤ m then .watch else .clear := rfl
  cases c
  case burst =>
    cases hx : r.standing
    case curtail => exact absurd hx htaken
    all_goals simp_all [StandingMoves, closedRecord, standingAfter, StandingCase.Called, Tenant.withFigures]
  case straightOn | enterExcess | byDemand =>
    rcases htaken with hx | hx <;>
      simp_all [StandingMoves, ByDemand, closedRecord, standingAfter, StandingCase.Called, Tenant.withFigures]
  case endOfExcess | graceEnd | graceRun | release | releaseBare | round | settleRun | renewedExcess | restoreRun =>
    simp_all [StandingMoves, ByDemand, closedRecord, standingAfter, StandingCase.Called, StandingCase.TakenIn,
      Tenant.withFigures]
  case restoreAttempt =>
    by_cases hafter : after = [] <;>
      simp_all [StandingMoves, ByDemand, closedRecord, standingAfter, StandingCase.Called, StandingCase.TakenIn,
        Tenant.withFigures]

end Sys2Proof.Machine
end

section
/-! SUPPORT. What a change of flags does to the relays: it reaches the relay state and the jobs of its own outlet alone,
since a free coil finds no job of another outlet waiting (R130 to R133, R135). -/

namespace Sys2Proof.Machine

/-! ## The jobs of one outlet -/

/-- A free coil leaves no job waiting, unless a restart is pending (R135, R144). -/
def CoilServes (s : State) : Prop := s.relay.coil = none → s.restartPending = false → s.relay.queue = []

/-- The record and the queued jobs of outlet `n` are in `t` what they were in `s`. -/
structure OutletKept (n : Nat) (s t : State) : Prop where
  record : relayOutlet t n = relayOutlet s n
  jobs : ∀ j : Job, j.outlet = n → (j ∈ t.relay.queue ↔ j ∈ s.relay.queue)

theorem OutletKept.trans {n : Nat} {s t u : State} (h : OutletKept n s t) (g : OutletKept n t u) : OutletKept n s u :=
  ⟨g.record.trans h.record, fun j hj => (g.jobs j hj).trans (h.jobs j hj)⟩

/-- From `s` to `t` only the outlets `ns` have changed, and a free coil still leaves no job waiting. -/
structure OnlyOutlets (ns : List Nat) (s t : State) : Prop where
  serves : CoilServes t
  kept : ∀ m, 1 ≤ m → m ∉ ns → OutletKept m s t

theorem OnlyOutlets.refl {s : State} (h : CoilServes s) : OnlyOutlets [] s s := ⟨h, fun _ _ _ => ⟨rfl, fun _ _ => .rfl⟩⟩

theorem OnlyOutlets.trans {ns ms : List Nat} {s t u : State} (h : OnlyOutlets ns s t) (g : OnlyOutlets ms t u) :
    OnlyOutlets (ns ++ ms) s u :=
  ⟨g.serves, fun m hm hnot =>
    (h.kept m hm fun hmem => hnot (List.mem_append_left _ hmem)).trans
      (g.kept m hm fun hmem => hnot (List.mem_append_right _ hmem))⟩

section

variable {s : State} {n : Nat}

/-- A change of the record of outlet `n` and of the queue, where the jobs of the other outlets stay. -/
theorem onlyOutlets_of_queue (h : CoilServes s) (hn : 1 ≤ n) (f : RelayOutlet → RelayOutlet) {q : List Job}
    (hempty : s.relay.queue = [] → s.relay.coil = none → s.restartPending = false → q = [])
    (hjobs : ∀ j : Job, j.outlet ≠ n → (j ∈ q ↔ j ∈ s.relay.queue)) :
    OnlyOutlets [n] s (setRelayOutlet n f (s.withRelay { s.relay with queue := q })) where
  serves hcoil hpending := hempty (h hcoil hpending) hcoil hpending
  kept m hm hnot := by
    have hne : m ≠ n := by simpa using hnot
    refine ⟨?_, fun j hj => hjobs j (hj ▸ hne)⟩
    rw [relayOutlet_setRelayOutlet n m f _ hn hm, if_neg (by simp [hne])]
    rfl

theorem changeRecord_onlyOutlets (h : CoilServes s) (hn : 1 ≤ n) (f : RelayOutlet → RelayOutlet) :
    OnlyOutlets [n] s (setRelayOutlet n f s) :=
  onlyOutlets_of_queue h hn f (fun hempty _ _ => hempty) fun _ _ => .rfl

/-- A queued job waits behind a coil that is held or a restart that is pending, or is taken at once by a free coil,
which has found no other waiting (R130, R135). -/
theorem queueJob_onlyOutlets (h : CoilServes s) (hn : 1 ≤ n) (d : JobDir) :
    OnlyOutlets [n] s (queueJob n d s) ∧ (n ≤ s.relay.outlets.length →
      (relayOutlet (queueJob n d s) n).relay = d.pending ∨ (relayOutlet (queueJob n d s) n).relay = d.working) := by
  by_cases hfree : s.relay.coil = none ∧ s.restartPending = false
  · obtain ⟨hcoil, hpending⟩ := hfree
    have hempty := h hcoil hpending
    rw [queueJob, coilTake_head _ ⟨n, d, .change⟩ [] (by simpa using hpending) (by simpa [setRelayOutlet] using hcoil)
      (by simp [setRelayOutlet, hempty])]
    refine ⟨⟨fun _ _ => rfl, fun m hm hnot => ⟨?_, fun j hj => ?_⟩⟩, fun hlength => .inr ?_⟩
    · have hne : m ≠ n := by simpa using hnot
      rw [relayOutlet_setRelayOutlet _ _ _ _ hn hm, if_neg (by simp [hne])]
      exact (relayOutlet_setRelayOutlet n m _ _ hn hm).trans (if_neg (by simp [hne]))
    · simp [setRelayOutlet, hempty]
    · rw [relayOutlet_setRelayOutlet _ _ _ _ hn hn, if_pos (by simpa using hlength)]
  · have hwait : queueJob n d s = setRelayOutlet n (fun r => { r with relay := d.pending })
        (s.withRelay { s.relay with queue := s.relay.queue ++ [⟨n, d, .change⟩] }) := by
      refine coilTake_rest _ ?_
      cases hpending : s.restartPending
      · exact .inr (.inl fun hcoil => hfree ⟨hcoil, hpending⟩)
      · exact .inl hpending
    rw [hwait]
    refine ⟨onlyOutlets_of_queue h hn _ (fun _ hcoil hpending => absurd ⟨hcoil, hpending⟩ hfree) fun j hj => ?_,
      fun hlength => .inl ?_⟩
    · have hne : j ≠ ⟨n, d, .change⟩ := fun heq => hj (heq ▸ rfl)
      simp [hne]
    · rw [relayOutlet_setRelayOutlet _ _ _ _ hn hn, if_pos (by simpa using hlength)]

theorem turnBack_onlyOutlets (h : CoilServes s) (hn : 1 ≤ n) (b : RelayState) : OnlyOutlets [n] s (turnBack n b s) := by
  unfold turnBack
  split
  · exact ⟨h, fun _ _ _ => ⟨rfl, fun _ _ => .rfl⟩⟩
  · split
    · refine onlyOutlets_of_queue h hn _ (fun hempty _ _ => by simp [hempty]) fun j hj => by simp [hj]
    · refine onlyOutlets_of_queue h hn _ (fun hempty _ _ => by simp [hempty]) fun j hj => ?_
      simp only [List.mem_map]
      constructor
      · rintro ⟨i, hi, rfl⟩
        split at hj
        · next heq => exact absurd heq hj
        · next hne => rwa [if_neg hne]
      · exact fun hmem => ⟨j, hmem, if_neg hj⟩

theorem compareDesired_onlyOutlets (h : CoilServes s) (hn : 1 ≤ n) : OnlyOutlets [n] s (compareDesired n s) := by
  unfold compareDesired
  split
  · exact (queueJob_onlyOutlets h hn _).1
  · exact (queueJob_onlyOutlets h hn _).1
  · exact turnBack_onlyOutlets h hn _
  · exact turnBack_onlyOutlets h hn _
  · exact ⟨h, fun _ _ _ => ⟨rfl, fun _ _ => .rfl⟩⟩

/-- A change of flags reaches the relay state and the jobs of its own outlet alone (R129 to R133). -/
theorem changeFlags_onlyOutlets (h : CoilServes s) (hn : 1 ≤ n) (f : RelayOutlet → RelayOutlet) :
    OnlyOutlets [n] s (changeFlags n f s) := by
  have hset := changeRecord_onlyOutlets h hn f
  unfold changeFlags
  split
  · exact hset
  · obtain ⟨hserves, hkept⟩ := hset.trans (compareDesired_onlyOutlets hset.serves hn)
    exact ⟨hserves, fun m hm hnot => hkept m hm (by simpa using hnot)⟩

/-- The shed flags after a change of flags. -/
theorem shed_changeFlags (hn : 1 ≤ n) (hlength : n ≤ s.relay.outlets.length) (f : RelayOutlet → RelayOutlet) {m : Nat}
    (hm : 1 ≤ m) : (relayOutlet (changeFlags n f s) m).shed =
      if m = n then (f (relayOutlet s n)).shed else (relayOutlet s m).shed := by
  have hflags := congrArg (fun p => p.2.2.2) (relayOutlet_flags (switchFlags_changeFlags n f s) m)
  refine hflags.trans ?_
  rw [relayOutlet_setRelayOutlet n m f s hn hm]
  split <;> simp_all [RelayOutlet.flags]

/-- A change of flags that changes the desired state has the Relay Driver compare it (R129). -/
theorem changeFlags_turned {f : RelayOutlet → RelayOutlet}
    (h : (f (relayOutlet s n)).heldOff ≠ (relayOutlet s n).heldOff) :
    changeFlags n f s = compareDesired n (setRelayOutlet n f s) := if_neg h

/-- An outlet in ON whose desired state turns to OFF is on its way to open (R130, R135). -/
theorem changeFlags_opens (h : CoilServes s) (hn : 1 ≤ n) (hlength : n ≤ s.relay.outlets.length)
    {f : RelayOutlet → RelayOutlet} (hon : (f (relayOutlet s n)).relay = .on)
    (hheld : (relayOutlet s n).heldOff = false) (hheld' : (f (relayOutlet s n)).heldOff = true) :
    (relayOutlet (changeFlags n f s) n).relay = .openPending ∨
      (relayOutlet (changeFlags n f s) n).relay = .opening := by
  have hset : relayOutlet (setRelayOutlet n f s) n = f (relayOutlet s n) := by
    rw [relayOutlet_setRelayOutlet n n f s hn hn, if_pos ⟨rfl, hlength⟩]
  have hcompared : compareDesired n (setRelayOutlet n f s) = queueJob n .toOpen (setRelayOutlet n f s) := by
    simp [compareDesired, hset, hon, hheld']
  rw [changeFlags_turned (by rw [hheld, hheld']; decide), hcompared]
  exact (queueJob_onlyOutlets (changeRecord_onlyOutlets h hn f).serves hn .toOpen).2 (by simpa using hlength)

end

/-! ## An outlet whose desired state turns to ON -/

/-- The jobs of outlet `n` agree with its relay state: at most one is queued, in the direction of the pending state
(R134). -/
structure JobsAgree (n : Nat) (s : State) : Prop where
  waiting : (relayOutlet s n).relay = .openPending → ∃ j ∈ s.relay.queue, j.outlet = n
  direction : ∀ j ∈ s.relay.queue, j.outlet = n → (relayOutlet s n).relay = j.dir.pending
  single : ∀ j k, j ∈ s.relay.queue → k ∈ s.relay.queue → j.outlet = n → k.outlet = n → j = k

theorem RelayRule.jobsAgree {s : State} (h : RelayRule s) {n : Nat} (hn : 1 ≤ n) (hlast : n ≤ 24) : JobsAgree n s where
  waiting hpending := h.pendingHasJob n .toOpen hn hlast hpending
  direction j hj hout := hout ▸ (h.queued j hj).2.2
  single _ _ hj hk hout hout' :=
    List.inj_on_of_nodup_map (List.nodup_append.mp h.oneJob).2.1 hj hk (hout.trans hout'.symm)

theorem JobsAgree.of_kept {n : Nat} {s t : State} (h : JobsAgree n s) (hkept : OutletKept n s t) : JobsAgree n t where
  waiting hpending := by
    obtain ⟨j, hj, hout⟩ := h.waiting (hkept.record ▸ hpending)
    exact ⟨j, (hkept.jobs j hout).mpr hj, hout⟩
  direction j hj hout := hkept.record ▸ h.direction j ((hkept.jobs j hout).mp hj) hout
  single _ _ hj hk hout hout' := h.single _ _ ((hkept.jobs _ hout).mp hj) ((hkept.jobs _ hout').mp hk) hout hout'

/-- What becomes of the relay of an outlet whose desired state turns to ON (R130 to R133). -/
structure RelayTurnedOn (n : Nat) (s t : State) : Prop where
  off : (relayOutlet s n).relay = .off → (relayOutlet t n).relay = .closePending ∨ (relayOutlet t n).relay = .closing
  openPending : (relayOutlet s n).relay = .openPending → (relayOutlet t n).relay =
    if ∃ j ∈ s.relay.queue, j.outlet = n ∧ j.origin = .start then .closePending else .on
  other : (relayOutlet s n).relay ≠ .off → (relayOutlet s n).relay ≠ .openPending →
    (relayOutlet t n).relay = (relayOutlet s n).relay

section

variable {s : State} {n : Nat}

/-- An outlet whose OPEN still waits goes back to ON, or its START job is reversed in place (R131, R132). -/
theorem turnBack_relay (hn : 1 ≤ n) (hlength : n ≤ s.relay.outlets.length) (hjobs : JobsAgree n s)
    (hpending : (relayOutlet s n).relay = .openPending) : (relayOutlet (turnBack n .on s) n).relay =
      if ∃ j ∈ s.relay.queue, j.outlet = n ∧ j.origin = .start then .closePending else .on := by
  obtain ⟨i, hi, hout⟩ := hjobs.waiting hpending
  unfold turnBack
  cases hfind : s.relay.queue.find? (fun j => j.outlet == n) with
  | none => exact absurd hout (by simpa using List.find?_eq_none.mp hfind i hi)
  | some j =>
    have hmem := List.mem_of_find?_eq_some hfind
    have hjout : j.outlet = n := by simpa using List.find?_some hfind
    have hstart : (∃ k ∈ s.relay.queue, k.outlet = n ∧ k.origin = .start) ↔ j.origin = .start :=
      ⟨fun ⟨k, hk, hkout, hkstart⟩ => hjobs.single k j hk hmem hkout hjout ▸ hkstart, fun h => ⟨j, hmem, hjout, h⟩⟩
    have hdir : j.dir = .toOpen := by
      have hdirection := hjobs.direction j hmem hjout
      rw [hpending] at hdirection
      cases hd : j.dir
      · rfl
      · simp [hd, JobDir.pending] at hdirection
    simp only [hstart]
    cases horigin : j.origin
    · simp only
      rw [relayOutlet_setRelayOutlet _ _ _ _ hn hn, if_pos (by simpa using hlength)]
      simp
    · simp only
      rw [relayOutlet_setRelayOutlet _ _ _ _ hn hn, if_pos (by simpa using hlength)]
      simp [hdir, JobDir.flip, JobDir.pending]

/-- The relay of an outlet whose desired state turns to ON by a change of flags that leaves the relay state (R130 to
R133). -/
theorem changeFlags_turnsOn (h : CoilServes s) (hn : 1 ≤ n) (hlength : n ≤ s.relay.outlets.length)
    (hjobs : JobsAgree n s) {f : RelayOutlet → RelayOutlet}
    (hrelay : (f (relayOutlet s n)).relay = (relayOutlet s n).relay)
    (hheld : (relayOutlet s n).heldOff = true) (hheld' : (f (relayOutlet s n)).heldOff = false) :
    RelayTurnedOn n s (changeFlags n f s) := by
  have hset : relayOutlet (setRelayOutlet n f s) n = f (relayOutlet s n) := by
    rw [relayOutlet_setRelayOutlet n n f s hn hn, if_pos ⟨rfl, hlength⟩]
  have hlength' : n ≤ (setRelayOutlet n f s).relay.outlets.length := by simpa using hlength
  rw [changeFlags_turned (by rw [hheld, hheld']; decide)]
  refine ⟨fun hoff => ?_, fun hpending => ?_, fun hoff hpending => ?_⟩
  · have hcompared : compareDesired n (setRelayOutlet n f s) = queueJob n .toClose (setRelayOutlet n f s) := by
      simp [compareDesired, hset, hrelay, hoff, hheld']
    rw [hcompared]
    exact (queueJob_onlyOutlets (changeRecord_onlyOutlets h hn f).serves hn .toClose).2 hlength'
  · have hcompared : compareDesired n (setRelayOutlet n f s) = turnBack n .on (setRelayOutlet n f s) := by
      simp [compareDesired, hset, hrelay, hpending, hheld']
    have hagree : JobsAgree n (setRelayOutlet n f s) := by
      have hsame : (relayOutlet (setRelayOutlet n f s) n).relay = (relayOutlet s n).relay := by rw [hset, hrelay]
      exact ⟨fun hp => hjobs.waiting (hsame.symm.trans hp), fun j hj hout => hsame.trans (hjobs.direction j hj hout),
        hjobs.single⟩
    rw [hcompared, turnBack_relay hn hlength' hagree (by rw [hset, hrelay, hpending])]
    rfl
  · have hcompared : compareDesired n (setRelayOutlet n f s) = setRelayOutlet n f s := by
      unfold compareDesired
      rw [hset, hrelay, hheld']
      cases hx : (relayOutlet s n).relay <;> simp_all
    rw [hcompared, hset, hrelay]

end

end Sys2Proof.Machine
end

section
/-! SUPPORT. What a shed round, a restore step and the whole work of a close for one tenant do to the switching records
(R112 to R117, R121 to R126, R130, R131). -/

namespace Sys2Proof.Machine

/-- The round looks for outlets: the ISOLATED limit does not stop it and its share is above 0 (R113, R114). -/
def roundLooks (t : Tenant) : Bool := decide (¬ (t.view = .isolated ∧ t.subtotal ≤ t.contract) ∧ 0 < share t)

/-- The outlets that a shed round takes for tenant `t` (R114 to R117). -/
def roundOutlets (s : State) (t : Tenant) : List Nat := if roundLooks t then shedTaken s t.id (share t) else []

/-- The outlet that a restore step restores for tenant `t`, if there is one (R121 to R126). -/
def stepOutlet (s : State) (t : Tenant) : Option Nat :=
  (restoreCandidates s t.id).head?.filter fun n => restoreAllowed s t (powerAtShed s n)

/-- From `s` to `t` the outlets `takes` have been shed and `restored`, if there is one, has been restored (R117,
R126). -/
structure Switched (takes : List Nat) (restored : Option Nat) (s t : State) : Prop where
  only : OnlyOutlets (takes ++ restored.toList) s t
  opened : ∀ n ∈ takes, (relayOutlet t n).relay = .openPending ∨ (relayOutlet t n).relay = .opening
  closed : ∀ n, restored = some n → (relayOutlet s n).lock = false → RelayTurnedOn n s t
  shed : ∀ n, 1 ≤ n → (relayOutlet t n).shed =
    if n ∈ takes then some (meterOutlet s n).average
    else if restored = some n then none else (relayOutlet s n).shed

/-- Every present outlet has a switching record (R11). -/
def OutletsPlaced (s : State) : Prop := ∀ n ∈ presentOutlets s, 1 ≤ n ∧ n ≤ s.relay.outlets.length

namespace Switched

variable {takes : List Nat} {restored : Option Nat} {s t s' t' : State}

/-- Only the Relay Driver, the averages and restart pending are spoken of. -/
theorem congr (h : Switched takes restored s t) (hs : s'.relay = s.relay) (hmeter : s'.meter = s.meter)
    (ht : t'.relay = t.relay) (hpending : t'.restartPending = t.restartPending) : Switched takes restored s' t' := by
  have hbefore (n : Nat) : relayOutlet s' n = relayOutlet s n := by rw [relayOutlet, hs, relayOutlet]
  have hafter (n : Nat) : relayOutlet t' n = relayOutlet t n := by rw [relayOutlet, ht, relayOutlet]
  refine ⟨⟨?_, fun m hm hnot => ⟨?_, fun j hj => ?_⟩⟩, fun n hn => ?_, fun n hn hlock => ?_, fun n hn => ?_⟩
  · simpa [CoilServes, ht, hpending] using h.only.serves
  · rw [hbefore, hafter, (h.only.kept m hm hnot).record]
  · rw [hs, ht, (h.only.kept m hm hnot).jobs j hj]
  · rw [hafter]
    exact h.opened n hn
  · obtain ⟨hoff, hopen, hother⟩ := h.closed n hn (hbefore n ▸ hlock)
    constructor <;> rw [hbefore, hafter]
    · exact hoff
    · rw [hs]
      exact hopen
    · exact hother
  · rw [hbefore, hafter, meterOutlet_congr hmeter]
    exact h.shed n hn

/-- Nothing has been switched. -/
theorem rest (hserves : CoilServes s) (hrelay : t.relay = s.relay) (hpending : t.restartPending = s.restartPending) :
    Switched [] none s t :=
  (⟨.refl hserves, nofun, nofun, fun _ _ => rfl⟩ : Switched [] none s s).congr rfl rfl hrelay hpending

end Switched

section

variable {s : State} {t : Tenant} {id : Nat}

theorem Moves.length {u : State} (h : Moves s u) : u.relay.outlets.length = s.relay.outlets.length := by
  simpa using congrArg List.length h.outlets

/-- Outlets in ON that carry no flag are shed one after another (R117, R130). -/
theorem switched_shedOutlets (hserves : CoilServes s) {l : List Nat} (hdistinct : l.Nodup)
    (hl : ∀ n ∈ l, (1 ≤ n ∧ n ≤ s.relay.outlets.length) ∧ (relayOutlet s n).relay = .on ∧
      (relayOutlet s n).heldOff = false) : Switched l none s (l.foldl shedOutlet s) := by
  induction l generalizing s with
  | nil => exact .rest hserves rfl rfl
  | cons n l ih =>
    obtain ⟨⟨hn, hlength⟩, hon, hheld⟩ := hl n (.head _)
    obtain ⟨hnot, hdistinct'⟩ := List.nodup_cons.mp hdistinct
    have honly : OnlyOutlets [n] s (shedOutlet s n) := changeFlags_onlyOutlets hserves hn _
    have hopens := changeFlags_opens hserves hn hlength
      (f := fun r => { r with shed := some (meterOutlet s n).average }) hon hheld (by simp [RelayOutlet.heldOff])
    have hkept {m : Nat} (hm : m ∈ l) := honly.kept m (hl m (.tail _ hm)).1.1 (by
      simpa using fun heq : m = n => hnot (heq ▸ hm))
    have hplaces : (shedOutlet s n).relay.outlets.length = s.relay.outlets.length :=
      (Moves.changeFlags (.setShed .refl) : Moves s (shedOutlet s n)).length
    have hrest := ih honly.serves hdistinct' fun m hm => by
      rw [(hkept hm).record, hplaces]
      exact hl m (.tail _ hm)
    rw [List.foldl_cons]
    refine ⟨?_, fun m hm => ?_, nofun, fun m hm => ?_⟩
    · simpa using honly.trans hrest.only
    · rcases List.mem_cons.mp hm with rfl | hmem
      · rw [(hrest.only.kept m hn (by simpa using hnot)).record]
        exact hopens
      · exact hrest.opened m hmem
    · rw [hrest.shed m hm, shedOutlet, shed_changeFlags hn hlength _ hm, meterOutlet_congr (changeFlags_meter ..)]
      by_cases hmem : m ∈ l
      · simp [hmem]
      · by_cases heq : m = n <;> simp [hmem, heq]

theorem shedRound_of (h : findTenant s id = some t) : shedRound id s =
    if roundLooks t then
      let u := (roundOutlets s t).foldl shedOutlet s
      if share t ≤ powerOf s (roundOutlets s t) then
        appendRecord (makeRecord s .shed t (share t) (roundOutlets s t)) u
      else raise .unresolved (appendRecord (makeRecord s .unresolved t (share t) (roundOutlets s t)) u)
    else s := by
  obtain rfl := findTenant_id h
  by_cases hlimit : t.view = .isolated ∧ t.subtotal ≤ t.contract
  · simp [shedRound, h, roundLooks, hlimit]
  · by_cases hshare : share t = 0
    · simp [shedRound, h, roundLooks, hshare]
    · have hlooks : roundLooks t = true := by
        simp only [roundLooks, decide_eq_true_eq]
        exact ⟨hlimit, by omega⟩
      simp only [shedRound, h, hlimit, hshare, roundOutlets, hlooks, if_true, if_false]

/-- The candidates of a round stand in ON without a flag (R115). -/
theorem roundOutlets_candidates (hplaced : OutletsPlaced s) (t : Tenant) : (roundOutlets s t).Nodup ∧
    ∀ n ∈ roundOutlets s t, n ∈ tenantOutlets s t.id ∧ (1 ≤ n ∧ n ≤ s.relay.outlets.length) ∧
      (relayOutlet s n).relay = .on ∧ (relayOutlet s n).heldOff = false := by
  unfold roundOutlets
  split
  · have hsorted : (shedCandidates s t.id).Nodup :=
      (List.perm_insertionSort _ _).nodup_iff.mpr (((presentOutlets_nodup s).filter _).filter _)
    refine ⟨hsorted.sublist (takeUntil_prefix ..).sublist, fun n hn => ?_⟩
    obtain ⟨htenant, hcandidate⟩ := mem_shedCandidates.mp (shedTaken_candidate hn)
    simp only [shedCandidate, decide_eq_true_eq] at hcandidate
    obtain ⟨-, hon, hlock, hshed⟩ := hcandidate
    exact ⟨htenant, hplaced n (mem_tenantOutlets.mp htenant).1, hon, by simp [RelayOutlet.heldOff, hlock, hshed]⟩
  · simp

theorem switched_shedRound (hserves : CoilServes s) (hplaced : OutletsPlaced s) (h : findTenant s id = some t) :
    Switched (roundOutlets s t) none s (shedRound id s) := by
  obtain ⟨hdistinct, hcandidates⟩ := roundOutlets_candidates hplaced t
  have hshed := switched_shedOutlets hserves hdistinct fun n hn => (hcandidates n hn).2
  rw [shedRound_of h]
  split
  · simp only
    split <;> exact hshed.congr rfl rfl (by simp) (by simp)
  · next hlooks =>
    simp only [roundOutlets, hlooks] at hshed ⊢
    exact hshed

theorem restoreStep_some {n : Nat} (h : findTenant s id = some t) (hn : stepOutlet s t = some n) :
    restoreStep id s = appendRecord (makeRecord s .restore t 0 [n]) (restoreOutlet n s) := by
  obtain rfl := findTenant_id h
  obtain ⟨hhead, hallowed⟩ := Option.filter_eq_some_iff.mp hn
  obtain ⟨rest, hrest⟩ := List.head?_eq_some_iff.mp hhead
  simp [restoreStep, h, hrest, hallowed]

theorem restoreStep_none (h : findTenant s id = some t) (hn : stepOutlet s t = none) : restoreStep id s = s := by
  obtain rfl := findTenant_id h
  unfold restoreStep
  split
  · next hfind hcandidates =>
    obtain rfl := Option.some.inj (h.symm.trans hfind)
    exact if_neg (by simpa [stepOutlet, hcandidates] using hn)
  · rfl

/-- A restore step restores one of the tenant's shed outlets (R122). -/
theorem stepOutlet_mem {n : Nat} (hn : stepOutlet s t = some n) : n ∈ shedOutlets s t.id := by
  obtain ⟨hhead, -⟩ := Option.filter_eq_some_iff.mp hn
  exact mem_restoreCandidates.mp (List.mem_of_head? hhead)

/-- A shed outlet is restored (R126, R131). -/
theorem switched_restoreOutlet (hserves : CoilServes s) {n : Nat} (hn : 1 ≤ n) (hlength : n ≤ s.relay.outlets.length)
    (hjobs : JobsAgree n s) (hshed : (relayOutlet s n).shed.isSome = true) :
    Switched [] (some n) s (restoreOutlet n s) where
  only := changeFlags_onlyOutlets hserves hn _
  opened := nofun
  closed m hm hlock := by
    obtain rfl := Option.some.inj hm
    exact changeFlags_turnsOn hserves hn hlength hjobs rfl (by simp [RelayOutlet.heldOff, hshed])
      (by simp [RelayOutlet.heldOff, hlock])
  shed m hm := by
    rw [restoreOutlet, shed_changeFlags hn hlength _ hm]
    by_cases heq : m = n
    · simp [heq]
    · simp [heq, Ne.symm heq]

theorem switched_restoreStep (hserves : CoilServes s) (hplaced : OutletsPlaced s)
    (hjobs : ∀ n ∈ tenantOutlets s id, JobsAgree n s) (h : findTenant s id = some t) :
    Switched [] (stepOutlet s t) s (restoreStep id s) := by
  cases hn : stepOutlet s t with
  | none =>
    rw [restoreStep_none h hn]
    exact .rest hserves rfl rfl
  | some n =>
    obtain ⟨htenant, hshed⟩ := mem_shedOutlets.mp (findTenant_id h ▸ stepOutlet_mem hn)
    obtain ⟨hlow, hlength⟩ := hplaced n (mem_tenantOutlets.mp htenant).1
    rw [restoreStep_some h hn]
    exact (switched_restoreOutlet hserves hlow hlength (hjobs n htenant) hshed).congr rfl rfl (by simp) (by simp)

end

/-! ## The outlets of a round and of a step where the tenant's records stand as they did -/

/-- What a round and a step for tenant `id` read is in `u` as it is in `s`, but for the Relay Driver's other outlets. -/
structure SameReadings (id : Nat) (s u : State) : Prop where
  meter : u.meter = s.meter
  loader : u.loader = s.loader
  table : u.table = s.table
  roster : u.roster = s.roster
  fixed : ∀ n, (relayOutlet u n).fixed = (relayOutlet s n).fixed
  records : ∀ n ∈ tenantOutlets s id, relayOutlet u n = relayOutlet s n

namespace SameReadings

variable {s u : State} {t : Tenant}

theorem tenantOutlets {id : Nat} (h : SameReadings id s u) : tenantOutlets u id = tenantOutlets s id :=
  tenantOutlets_congr (congrArg Loader.params h.loader) fun n => congrArg Prod.fst (h.fixed n)

theorem cls {id : Nat} (h : SameReadings id s u) (n : Nat) : (relayOutlet u n).cls = (relayOutlet s n).cls :=
  congrArg (fun p => p.2.1) (h.fixed n)

theorem shedOutlets {id : Nat} (h : SameReadings id s u) : shedOutlets u id = shedOutlets s id := by
  rw [Machine.shedOutlets, h.tenantOutlets, Machine.shedOutlets]
  exact List.filter_congr fun n hn => by rw [h.records n hn]

theorem roundOutlets (h : SameReadings t.id s u) : roundOutlets u t = roundOutlets s t := by
  have hmeter (n : Nat) := meterOutlet_congr h.meter n
  have hcandidates : shedCandidates u t.id = shedCandidates s t.id := by
    have hfiltered : (Machine.tenantOutlets s t.id).filter (shedCandidate u) =
        (Machine.tenantOutlets s t.id).filter (shedCandidate s) :=
      List.filter_congr fun n hn => by rw [shedCandidate, h.records n hn, shedCandidate]
    have hbefore : shedBefore u = shedBefore s := by
      funext a b
      simp only [shedBefore, h.cls, hmeter]
    simp only [shedCandidates, h.tenantOutlets, hfiltered, hbefore]
  simp only [Machine.roundOutlets, shedTaken, hcandidates, hmeter]

theorem stepOutlet (h : SameReadings t.id s u) : stepOutlet u t = stepOutlet s t := by
  have hpower {n : Nat} (hn : n ∈ Machine.tenantOutlets s t.id) : powerAtShed u n = powerAtShed s n := by
    rw [powerAtShed, h.records n hn, powerAtShed]
  have hmem {n : Nat} (hn : n ∈ Machine.shedOutlets s t.id) : n ∈ Machine.tenantOutlets s t.id :=
    (mem_shedOutlets.mp hn).1
  have hcandidates : restoreCandidates u t.id = restoreCandidates s t.id := by
    have hsorted := List.map_insertionSort (fun a b => restoreBefore u a b = true)
      (fun a b => restoreBefore s a b = true)
      id (Machine.shedOutlets s t.id) fun a ha b hb => by
        simp [restoreBefore, h.cls, hpower (hmem ha), hpower (hmem hb)]
    simpa [restoreCandidates, h.shedOutlets] using hsorted
  have hlower : lowerPeerSheds u t.id = lowerPeerSheds s t.id := by
    simp [lowerPeerSheds, rosterRecord, h.table, h.loader, h.roster]
  rw [Machine.stepOutlet, hcandidates, Machine.stepOutlet]
  cases hhead : (restoreCandidates s t.id).head? with
  | none => rfl
  | some n =>
    have hcandidate : n ∈ Machine.shedOutlets s t.id := mem_restoreCandidates.mp (List.mem_of_head? hhead)
    simp only [Option.filter_some, restoreAllowed, hlower, hpower (hmem hcandidate)]

theorem powerOf {id : Nat} (h : SameReadings id s u) (ns : List Nat) : powerOf u ns = powerOf s ns := by
  simp [Machine.powerOf, meterOutlet_congr h.meter]

/-- A state that differs in the tenant records and the Alert Unit alone. -/
theorem of_frames (id : Nat) (hmeter : u.meter = s.meter := by simp) (hloader : u.loader = s.loader := by simp)
    (htable : u.table = s.table := by simp) (hroster : u.roster = s.roster := by simp)
    (hrelay : u.relay = s.relay := by simp) : SameReadings id s u where
  meter := hmeter
  loader := hloader
  table := htable
  roster := hroster
  fixed n := by rw [relayOutlet, hrelay, relayOutlet]
  records n _ := by rw [relayOutlet, hrelay, relayOutlet]

end SameReadings

/-! ## The work of a close for one tenant -/

section

variable {s u : State} {t r : Tenant} {id : Nat} {c : StandingCase}

/-- The outlets that a case sheds, and the one that it restores (R101, R103). -/
def StandingCase.sheds (c : StandingCase) (s : State) (t : Tenant) : List Nat :=
  if c.rounds then roundOutlets s t else []

def StandingCase.restores (c : StandingCase) (s : State) (t : Tenant) : Option Nat :=
  if c = .restoreAttempt then stepOutlet s t else none

/-- A round that runs once the tenant has entered CURTAIL (R101). -/
theorem switched_runRound {t' : Tenant} (hserves : CoilServes s) (hplaced : OutletsPlaced s)
    (hsame : SameReadings t.id s u) (hrelay : u.relay = s.relay) (hpending : u.restartPending = s.restartPending)
    (h : findTenant u id = some t') (ht : roundOutlets u t' = roundOutlets u t) :
    Switched (roundOutlets s t) none s (runRound id u) := by
  have hserves' : CoilServes u := by simpa [CoilServes, hrelay, hpending] using hserves
  have hplaced' : OutletsPlaced u := by
    simpa [OutletsPlaced, hrelay, presentOutlets_congr (congrArg Loader.params hsame.loader)] using hplaced
  have hround := switched_shedRound hserves' hplaced' h
  rw [ht, hsame.roundOutlets] at hround
  exact hround.congr hrelay.symm hsame.meter.symm (by simp [runRound]) (by simp [runRound])

theorem switched_applyStanding (hserves : CoilServes s) (hplaced : OutletsPlaced s)
    (hjobs : ∀ n ∈ tenantOutlets s id, JobsAgree n s) (h : findTenant s id = some t) (c : StandingCase) :
    Switched (c.sheds s t) (c.restores s t) s (applyStanding c t s) := by
  obtain rfl := findTenant_id h
  cases c
  case burst =>
    exact switched_runRound hserves hplaced (.of_frames _) (by simp) (by simp) (findTenant_enterCurtail 0 h) rfl
  case straightOn | graceEnd =>
    exact switched_runRound hserves hplaced (.of_frames _) (by simp) (by simp)
      (findTenant_enterCurtail 0 (findTenant_setTenant_self (f := fun u => { u with grace := 0 }) (fun _ => rfl) h)) rfl
  case round => exact switched_runRound hserves hplaced (.of_frames _) rfl rfl h rfl
  case restoreAttempt =>
    exact (switched_restoreStep hserves hplaced hjobs h).congr rfl rfl (by simp [applyStanding, attemptRestore])
      (by simp)
  all_goals exact .rest hserves (by simp [applyStanding]) (by simp)

/-- The switching records after the work of a close for one tenant (R112 to R126). -/
theorem switched_closeTenant (hserves : CoilServes s) (hplaced : OutletsPlaced s)
    (hjobs : ∀ n ∈ tenantOutlets s id, JobsAgree n s) (h : findTenant s id = some r)
    (hcase : tenantCase s (closeFigures s r) = some c) :
    Switched (c.sheds s (closeFigures s r)) (c.restores s (closeFigures s r)) s (closeTenant s id) := by
  have hrelay : (tenantFigures id s).relay = s.relay := by simp
  have hsame : SameReadings (closeFigures s r).id s (tenantFigures id s) := .of_frames _
  have hserves' : CoilServes (tenantFigures id s) := by simpa [CoilServes] using hserves
  have hplaced' : OutletsPlaced (tenantFigures id s) := by simpa [OutletsPlaced, presentOutlets] using hplaced
  have hjobs' : ∀ n ∈ tenantOutlets (tenantFigures id s) id, JobsAgree n (tenantFigures id s) := by
    have houtlets : tenantOutlets (tenantFigures id s) id = tenantOutlets s id :=
      (SameReadings.of_frames id).tenantOutlets
    rw [houtlets]
    exact fun n hn => (hjobs n hn).of_kept ⟨by rw [relayOutlet, hrelay, relayOutlet], fun _ _ => by rw [hrelay]⟩
  have hfind := findTenant_tenantFigures h
  have happlied := switched_applyStanding hserves' hplaced' hjobs' hfind c
  have hevaluated := evaluateTenant_some hfind (tenantCase_tenantFigures.trans hcase)
  have hsheds : c.sheds (tenantFigures id s) (closeFigures s r) = c.sheds s (closeFigures s r) := by
    rw [StandingCase.sheds, hsame.roundOutlets, StandingCase.sheds]
  have hrestores : c.restores (tenantFigures id s) (closeFigures s r) = c.restores s (closeFigures s r) := by
    rw [StandingCase.restores, hsame.stepOutlet, StandingCase.restores]
  rw [hsheds, hrestores] at happlied
  rw [closeTenant, hevaluated]
  split
  · exact happlied.congr hrelay.symm (by simp) (by simp) (by simp)
  · exact happlied.congr hrelay.symm (by simp) rfl rfl

end

end Sys2Proof.Machine
end

section
/-! SUPPORT. The records that the work of a close for one tenant appends, as far as the Record Queue has room, and the
events that it raises (R87, R107 to R110, R118, R126, R156). -/

namespace Sys2Proof.Machine

/-! ## Records and events -/

/-- From `s` to `t` the records `rs` have been appended, as far as the Record Queue has room, and the events `ks`
raised, with RECORD_LOST where it has not (R147, R156). -/
structure Reports (ks : List EventKind) (rs : List ExcursionRecord) (s t : State) : Prop where
  records : t.records = (s.records ++ rs).take 16
  latches : ∀ k, latched t k =
    (latched s k || decide (k ∈ ks) || decide (k = .recordLost ∧ 16 < (s.records ++ rs).length))

theorem take_take_append {α : Type} (n : Nat) (l m : List α) : (l.take n ++ m).take n = (l ++ m).take n := by
  rcases Nat.le_total l.length n with hle | hle
  · rw [List.take_of_length_le hle]
  · rw [List.take_append_of_le_length hle, List.take_append_of_le_length (by simp [hle]), List.take_take, Nat.min_self]

namespace Reports

variable {ks js : List EventKind} {rs qs : List ExcursionRecord} {s t u : State}

theorem fits (h : Reports ks rs s t) : t.records.length ≤ 16 := by
  rw [h.records, List.length_take]
  exact Nat.min_le_left ..

theorem refl (hfits : s.records.length ≤ 16) : Reports [] [] s s where
  records := by rw [List.append_nil, List.take_of_length_le hfits]
  latches k := by simp [hfits]

theorem trans (h : Reports ks rs s t) (g : Reports js qs t u) : Reports (ks ++ js) (rs ++ qs) s u where
  records := by rw [g.records, h.records, take_take_append, List.append_assoc]
  latches k := by
    have hlost : (16 < (s.records ++ rs).length ∨ 16 < (t.records ++ qs).length) ↔
        16 < (s.records ++ (rs ++ qs)).length := by
      rw [h.records]
      simp only [List.length_append, List.length_take]
      omega
    rw [g.latches, h.latches, Bool.eq_iff_iff]
    simp only [Bool.or_eq_true, decide_eq_true_eq, List.mem_append, ← hlost]
    tauto

/-- An operation that leaves the Record Queue and the Alert Unit. -/
theorem of_eq (h : Reports ks rs s t) (hrecords : u.records = t.records := by simp)
    (halert : u.alert = t.alert := by simp) : Reports ks rs s u where
  records := hrecords.trans h.records
  latches k := by rw [latched, halert]; exact h.latches k

/-- The beginning may be replaced by one with the same Record Queue and Alert Unit. -/
theorem of_start (h : Reports ks rs t u) (hrecords : t.records = s.records := by simp)
    (halert : t.alert = s.alert := by simp) : Reports ks rs s u where
  records := by rw [h.records, hrecords]
  latches k := by
    have hsame : latched t k = latched s k := by rw [latched, halert, latched]
    rw [h.latches, hsame, hrecords]

theorem raise (h : Reports ks rs s t) (k : EventKind) : Reports (ks ++ [k]) rs s (raise k t) where
  records := h.records
  latches j := by
    rw [latched_raise, h.latches, Bool.eq_iff_iff]
    simp only [Bool.or_eq_true, decide_eq_true_eq, List.mem_append, List.mem_singleton]
    tauto

/-- One record more (R156). -/
theorem append (h : Reports ks rs s t) (r : ExcursionRecord) : Reports ks (rs ++ [r]) s (appendRecord r t) := by
  have hone : Reports [] [r] t (appendRecord r t) := by
    rcases Nat.lt_or_ge t.records.length 16 with hroom | hfull
    · rw [appendRecord_room r t hroom]
      refine ⟨by rw [List.take_of_length_le (by simpa using hroom)], fun k => ?_⟩
      have hfits : ¬ 16 < (t.records ++ [r]).length := by simpa using hroom
      simp only [hfits, and_false, decide_false, List.not_mem_nil, Bool.or_false]
      rfl
    · rw [appendRecord_full r t hfull]
      refine ⟨?_, fun k => ?_⟩
      · rw [List.take_append_of_le_length hfull, List.take_of_length_le h.fits]
        rfl
      · have hlost : 16 ≤ t.records.length := hfull
        simp [hlost]
  simpa using h.trans hone

/-- The events are a set. -/
theorem events (h : Reports ks rs s t) (heq : ∀ k, k ∈ js ↔ k ∈ ks) : Reports js rs s t :=
  ⟨h.records, fun k => by rw [h.latches]; simp only [heq]⟩

/-- What each of some operations reports, all of them report together. -/
theorem foldl {α : Type} {g : State → α → State} {es : α → List EventKind} {ls : α → List ExcursionRecord} {l : List α}
    (hfits : s.records.length ≤ 16)
    (h : ∀ pre a post, l = pre ++ a :: post → (pre.foldl g s).records.length ≤ 16 →
      Reports (es a) (ls a) (pre.foldl g s) (g (pre.foldl g s) a)) :
    Reports (l.flatMap es) (l.flatMap ls) s (l.foldl g s) := by
  suffices hprefix : ∀ post pre, l = pre ++ post → Reports (pre.flatMap es) (pre.flatMap ls) s (pre.foldl g s) →
      Reports (l.flatMap es) (l.flatMap ls) s (l.foldl g s) from hprefix l [] rfl (refl hfits)
  intro post
  induction post with
  | nil =>
    intro pre hl hpre
    obtain rfl : l = pre := by simpa using hl
    exact hpre
  | cons a post ih =>
    intro pre hl hpre
    refine ih (pre ++ [a]) (by simp [hl]) ?_
    simpa [List.flatMap_append] using hpre.trans (h pre a post hl hpre.fits)

end Reports

/-! ## A round and a step -/

/-- The outlets taken fall short of the share (R118). -/
def roundShort (s : State) (t : Tenant) : Bool := roundLooks t && decide (powerOf s (roundOutlets s t) < share t)

def roundEvents (s : State) (t : Tenant) : List EventKind := if roundShort s t then [.unresolved] else []

def roundRecords (s : State) (t : Tenant) : List ExcursionRecord :=
  if roundLooks t then
    [makeRecord s (if roundShort s t then .unresolved else .shed) t (share t) (roundOutlets s t)]
  else []

section

variable {s u : State} {t r : Tenant} {id : Nat} {c : StandingCase}

theorem reports_shedRound (hfits : s.records.length ≤ 16) (h : findTenant s id = some t) :
    Reports (roundEvents s t) (roundRecords s t) s (shedRound id s) := by
  have hshed : Reports [] [] s ((roundOutlets s t).foldl shedOutlet s) :=
    (Reports.refl hfits).of_eq (foldl_keeps State.records _ shedOutlet_records _ _)
      (foldl_keeps State.alert _ shedOutlet_alert _ _)
  rw [shedRound_of h]
  cases hlooks : roundLooks t
  · simpa [roundEvents, roundRecords, roundShort, hlooks] using Reports.refl hfits
  · by_cases hreached : share t ≤ powerOf s (roundOutlets s t)
    · simpa [roundEvents, roundRecords, roundShort, hlooks, hreached, not_lt.mpr hreached] using
        hshed.append (makeRecord s .shed t (share t) (roundOutlets s t))
    · simpa [roundEvents, roundRecords, roundShort, hlooks, hreached, not_le.mp hreached] using
        (hshed.append (makeRecord s .unresolved t (share t) (roundOutlets s t))).raise .unresolved

theorem reports_restoreStep (hfits : s.records.length ≤ 16) (h : findTenant s id = some t) :
    Reports [] ((stepOutlet s t).toList.map fun n => makeRecord s .restore t 0 [n]) s (restoreStep id s) := by
  cases hn : stepOutlet s t with
  | none =>
    rw [restoreStep_none h hn]
    exact .refl hfits
  | some n =>
    rw [restoreStep_some h hn]
    exact ((Reports.refl hfits).of_eq : Reports [] [] s (restoreOutlet n s)).append _

theorem reports_endExcursion (hfits : s.records.length ≤ 16) :
    Reports [] [makeRecord s .excessEnd t 0 []] s (endExcursion t s) :=
  ((Reports.refl hfits).of_eq : Reports [] [] s (setTenant t.id _ s)).append _

/-! ## The work of a close for one tenant -/

/-- The events of a case (R108, R118). -/
def StandingCase.events (c : StandingCase) (s : State) (t : Tenant) : List EventKind :=
  match c with
  | .burst | .straightOn | .graceEnd => .curtail :: roundEvents s t
  | .round => roundEvents s t
  | .renewedExcess => [.curtail]
  | _ => []

/-- The records of a case (R109, R118, R126). -/
def StandingCase.reports (c : StandingCase) (s : State) (t : Tenant) : List ExcursionRecord :=
  match c with
  | .burst | .straightOn | .graceEnd | .round => roundRecords s t
  | .endOfExcess | .releaseBare => [makeRecord s .excessEnd t 0 []]
  | .restoreAttempt => (stepOutlet s t).toList.map fun n => makeRecord s .restore t 0 [n]
  | _ => []

/-- What a round reports depends on what it reads (R113 to R118). -/
theorem round_congr (hsame : SameReadings t.id s u) (htime : u.time = s.time) :
    roundEvents u t = roundEvents s t ∧ roundRecords u t = roundRecords s t := by
  have hshort : roundShort u t = roundShort s t := by rw [roundShort, hsame.roundOutlets, hsame.powerOf, roundShort]
  constructor
  · rw [roundEvents, hshort, roundEvents]
  · simp only [roundRecords, makeRecord, hshort, hsame.roundOutlets, htime]

/-- What a case reports depends on what its round or its step reads (R113 to R126). -/
theorem StandingCase.reports_congr (hsame : SameReadings t.id s u) (htime : u.time = s.time) (c : StandingCase) :
    c.events u t = c.events s t ∧ c.reports u t = c.reports s t := by
  obtain ⟨hevents, hrecords⟩ := round_congr hsame htime
  cases c <;> simp [StandingCase.events, StandingCase.reports, hevents, hrecords, hsame.stepOutlet, makeRecord, htime]

/-- A round that runs once the tenant has entered CURTAIL (R101, R108). -/
theorem reports_runRound {t' : Tenant} {ks : List EventKind} (hu : Reports ks [] s u) (hsame : SameReadings t.id s u)
    (htime : u.time = s.time) (h : findTenant u id = some t') (hevents : roundEvents u t' = roundEvents u t)
    (hrecords : roundRecords u t' = roundRecords u t) :
    Reports (ks ++ roundEvents s t) (roundRecords s t) s (runRound id u) := by
  obtain ⟨hev, hrec⟩ := round_congr hsame htime
  have hround := hu.trans (reports_shedRound hu.fits h)
  rw [hevents, hrecords, hev, hrec] at hround
  exact hround.of_eq (by simp [runRound]) (by simp [runRound])

theorem reports_applyStanding (hfits : s.records.length ≤ 16) (h : findTenant s id = some t) (c : StandingCase) :
    Reports (c.events s t) (c.reports s t) s (applyStanding c t s) := by
  obtain rfl := findTenant_id h
  have hentered {v : State} {n : Nat} (hv : Reports [] [] s v) : Reports [.curtail] [] s (enterCurtail t.id n v) :=
    (hv.of_eq : Reports [] [] s (setTenant t.id _ v)).raise .curtail
  have hrest := Reports.refl hfits
  cases c
  case burst =>
    exact reports_runRound (hentered hrest) (.of_frames _) (by simp) (findTenant_enterCurtail 0 h) rfl rfl
  case straightOn | graceEnd =>
    exact reports_runRound (hentered hrest.of_eq) (.of_frames _) (by simp)
      (findTenant_enterCurtail 0 (findTenant_setTenant_self (f := fun u => { u with grace := 0 }) (fun _ => rfl) h))
      rfl rfl
  case round => exact reports_runRound hrest (.of_frames _) rfl h rfl rfl
  case renewedExcess => exact hentered hrest
  case endOfExcess | releaseBare => exact reports_endExcursion hfits
  case restoreAttempt =>
    exact (reports_restoreStep hfits h).of_eq (by simp [applyStanding, attemptRestore])
      (by simp [applyStanding, attemptRestore])
  all_goals exact hrest.of_eq (by simp [applyStanding]) (by simp [applyStanding])

/-- The events of the figures (R87, R107). -/
def figureEvents (c : StandingCase) (r t : Tenant) : List EventKind :=
  (if r.view = .complete ∧ t.view ≠ .complete then [.viewDegraded] else []) ++ if c.begins t then [.excess] else []

theorem reports_beginExcursion {v : State} {ks : List EventKind} (hv : Reports ks [] s v) (htime : v.time = s.time) :
    Reports (ks ++ [.excess]) [makeRecord s .excessBegin t 0 []] s (beginExcursion t v) := by
  have hbegun := (hv.append (makeRecord v .excessBegin t 0 [])).raise .excess
  have hrecord : makeRecord v .excessBegin t 0 [] = makeRecord s .excessBegin t 0 [] := by simp [makeRecord, htime]
  rw [hrecord] at hbegun
  simpa [beginExcursion, hrecord] using hbegun

theorem reports_tenantFigures (hfits : s.records.length ≤ 16) (h : findTenant s id = some r)
    (ht : t = closeFigures s r) (hcase : tenantCase s t = some c) :
    Reports (figureEvents c r t) (if c.begins t then [makeRecord s .excessBegin t 0 []] else []) s
      (tenantFigures id s) := by
  subst ht
  have hset : Reports [] [] s (setTenant id (fun _ => closeFigures s r) s) := (Reports.refl hfits).of_eq
  rw [tenantFigures_some h hcase rfl rfl, figureEvents]
  by_cases hview : r.view = .complete ∧ (closeFigures s r).view ≠ .complete
  · rw [if_pos hview, if_pos hview]
    cases c.begins (closeFigures s r)
    · exact hset.raise .viewDegraded
    · exact reports_beginExcursion (hset.raise .viewDegraded) (by simp)
  · rw [if_neg hview, if_neg hview]
    cases c.begins (closeFigures s r)
    · exact hset
    · exact reports_beginExcursion hset (by simp)

/-- The departure after a restore step comes about where no outlet is left shed (R104). -/
def StandingCase.departs (c : StandingCase) (after : List Nat) : Bool := decide (c = .restoreAttempt ∧ after = [])

theorem reports_evaluateTenant (hfits : s.records.length ≤ 16) (h : findTenant s id = some t)
    (hcase : tenantCase s t = some c) :
    Reports (c.events s t ++ if c.departs (shedOutlets (evaluateTenant id s) id) then [.restored] else [])
      (c.reports s t ++
        if c.departs (shedOutlets (evaluateTenant id s) id) then [makeRecord s .excessEnd t 0 []] else [])
      s (evaluateTenant id s) := by
  have happlied := reports_applyStanding hfits h c
  rw [evaluateTenant_some h hcase]
  by_cases hrestore : c = .restoreAttempt
  · subst hrestore
    have hfind := findTenant_applyStanding .restoreAttempt h
    have hkept : shedOutlets (tenantDeparture id (applyStanding .restoreAttempt t s)) id =
        shedOutlets (applyStanding .restoreAttempt t s) id := shedOutlets_congr (by simp) (by simp) id
    simp only [if_true, hkept, StandingCase.departs, true_and]
    by_cases hnone : shedOutlets (applyStanding .restoreAttempt t s) id = []
    · have hended := happlied.trans ((reports_endExcursion
        (t := standingAfter s.loader.params .restoreAttempt t) happlied.fits).raise .restored)
      have hrecord : makeRecord (applyStanding .restoreAttempt t s) .excessEnd
          (standingAfter s.loader.params .restoreAttempt t) 0 [] = makeRecord s .excessEnd t 0 [] := by
        simp only [makeRecord, applyStanding_time]
        rfl
      rw [hrecord] at hended
      simpa [tenantDeparture, hfind, hnone] using hended
    · simpa [tenantDeparture, hfind, hnone] using happlied
  · simpa [hrestore, StandingCase.departs] using happlied

/-- What the work of a close for one tenant reports (R87, R107 to R110). -/
theorem reports_closeTenant (hfits : s.records.length ≤ 16) (h : findTenant s id = some r)
    (ht : t = closeFigures s r) (hcase : tenantCase s t = some c) :
    Reports
      (figureEvents c r t ++
        (c.events s t ++ if c.departs (shedOutlets (closeTenant s id) id) then [.restored] else []))
      ((if c.begins t then [makeRecord s .excessBegin t 0 []] else []) ++ (c.reports s t ++
        if c.departs (shedOutlets (closeTenant s id) id) then [makeRecord s .excessEnd t 0 []] else []))
      s (closeTenant s id) := by
  subst ht
  have hfigures := reports_tenantFigures hfits h rfl hcase
  have hsame : SameReadings (closeFigures s r).id s (tenantFigures id s) := .of_frames _
  obtain ⟨hevents, hreports⟩ := StandingCase.reports_congr hsame (by simp) c
  have hend : makeRecord (tenantFigures id s) .excessEnd (closeFigures s r) 0 [] =
      makeRecord s .excessEnd (closeFigures s r) 0 [] := by simp [makeRecord]
  have hevaluated := reports_evaluateTenant hfigures.fits (findTenant_tenantFigures h)
    (tenantCase_tenantFigures.trans hcase)
  rw [hevents, hreports, hend] at hevaluated
  exact hfigures.trans hevaluated

end

end Sys2Proof.Machine
end

section
/-! SUPPORT. What a close has done for a tenant, read off its record before and after (R87, R96 to R110). -/

namespace Sys2Proof.Machine

/-- The case ends an excursion by itself (R99, R100, R109). -/
def StandingCase.ends : StandingCase → Bool
  | .endOfExcess | .releaseBare => true
  | _ => false

/-- The case enters CURTAIL (R108). -/
def StandingCase.curtails : StandingCase → Bool
  | .burst | .straightOn | .graceEnd | .renewedExcess => true
  | _ => false

/-- The standing that the case leaves, `t` being the tenant's record with the figures of the close and `after` its shed
outlets when the work for it has ended. -/
def StandingCase.leaves (c : StandingCase) (t : Tenant) (after : List Nat) : Standing :=
  match c with
  | .burst | .straightOn | .graceEnd | .renewedExcess | .round | .settleRun => .curtail
  | .enterExcess | .graceRun => .excess
  | .byDemand | .endOfExcess | .releaseBare => standingByDemand t
  | .release | .restoreRun => .recover
  | .restoreAttempt => if after = [] then standingByDemand t else .recover

/-- Case `c` has been taken for the tenant with record `r`, with the figures `t`, and has left the record `r'` and the
shed outlets `after`. -/
structure CaseLeft (c : StandingCase) (p : Params) (after : List Nat) (r t r' : Tenant) : Prop where
  figures : ∃ l d m v, t = r.withFigures l d m v
  taken : ∃ shedHere, c.TakenIn r.standing shedHere
  called : c.Called t
  closed : r' = closedRecord p (some c) t after

namespace CaseLeft

variable {c : StandingCase} {p : Params} {after : List Nat} {r t r' : Tenant} (h : CaseLeft c p after r t r')
include h

theorem kept_eq : ∃ x g n k, r' = { t with standing := x, grace := g, settle := n, restore := k } :=
  h.closed ▸ closedRecord_eq p (some c) t after

/-- An evaluation leaves the figures of the close (R77, R91). -/
theorem kept : r'.view = t.view ∧ r'.subtotal = t.subtotal ∧ r'.draw = t.draw ∧ r'.demand = t.demand ∧
    r'.contract = t.contract ∧ share r' = share t := by
  obtain ⟨x, g, n, k, rfl⟩ := h.kept_eq
  exact ⟨rfl, rfl, rfl, rfl, rfl, rfl⟩

theorem id_eq : r'.id = r.id ∧ t.id = r.id := by
  obtain ⟨x, g, n, k, hrecord⟩ := h.kept_eq
  obtain ⟨l, d, m, v, rfl⟩ := h.figures
  rw [hrecord]
  exact ⟨rfl, rfl⟩

theorem standing : r'.standing = c.leaves t after := by
  obtain ⟨⟨l, d, m, v, rfl⟩, ⟨shedHere, htaken⟩, -, rfl⟩ := h
  cases c
  case restoreAttempt =>
    by_cases hafter : after = []
    · simp [closedRecord, StandingCase.leaves, hafter]
    · simp only [closedRecord, StandingCase.leaves, hafter, and_false, if_false]
      exact htaken
  case round | settleRun | graceRun | restoreRun => exact htaken
  all_goals rfl

/-- EXCESS_BEGIN and EXCESS go by the two standings (R107). -/
theorem begins_eq : begins r r' = c.begins t := by
  have hstanding := h.standing
  obtain ⟨⟨l, d, m, v, rfl⟩, ⟨shedHere, htaken⟩, -, -⟩ := h
  obtain ⟨hexcess, hcurtail, -⟩ := standingByDemand_ne (r.withFigures l d m v)
  rw [begins, hstanding, Bool.eq_iff_iff, decide_eq_true_eq]
  cases c
  case burst => exact ⟨fun hb => decide_eq_true hb.1, fun hb => ⟨of_decide_eq_true hb, .inr rfl⟩⟩
  case straightOn => exact ⟨fun _ => rfl, fun _ => ⟨htaken, .inr rfl⟩⟩
  case enterExcess => exact ⟨fun _ => rfl, fun _ => ⟨htaken, .inl rfl⟩⟩
  case restoreAttempt => simp [StandingCase.begins, show r.standing = .recover from htaken]
  all_goals simp_all [StandingCase.begins, StandingCase.TakenIn, StandingCase.leaves]

/-- EXCESS_END goes by the two standings (R109). -/
theorem ends_eq : ends r r' = (c.ends || c.departs after) := by
  have hstanding := h.standing
  obtain ⟨-, ⟨shedHere, htaken⟩, -, -⟩ := h
  have hdemand : standingByDemand t = .clear ∨ standingByDemand t = .watch := by
    unfold standingByDemand
    split <;> simp
  rw [ends, hstanding, Bool.eq_iff_iff, decide_eq_true_eq]
  cases c
  case restoreAttempt =>
    by_cases hafter : after = [] <;>
      simp_all [StandingCase.ends, StandingCase.departs, StandingCase.TakenIn, StandingCase.leaves]
  case byDemand | straightOn | enterExcess =>
    rcases htaken with hx | hx <;> simp [hx, StandingCase.ends, StandingCase.departs]
  all_goals simp_all [StandingCase.ends, StandingCase.departs, StandingCase.TakenIn, StandingCase.leaves]

/-- RESTORED goes with the end of an excursion in RECOVER (R104). -/
theorem restored_eq : (decide (r.standing = .recover) && ends r r') = c.departs after := by
  rw [h.ends_eq]
  obtain ⟨-, ⟨shedHere, htaken⟩, -, -⟩ := h
  cases c
  case endOfExcess | releaseBare | restoreAttempt =>
    simp_all [StandingCase.ends, StandingCase.departs, StandingCase.TakenIn]
  all_goals simp [StandingCase.ends, StandingCase.departs]

/-- CURTAIL goes by the two standings (R108). -/
theorem curtails_eq : decide (r.standing ≠ .curtail ∧ r'.standing = .curtail) = c.curtails := by
  have hstanding := h.standing
  obtain ⟨-, ⟨shedHere, htaken⟩, -, -⟩ := h
  obtain ⟨-, hcurtail, -⟩ := standingByDemand_ne t
  rw [hstanding, Bool.eq_iff_iff, decide_eq_true_eq]
  cases c
  case straightOn => rcases htaken with hx | hx <;> simp [hx, StandingCase.curtails, StandingCase.leaves]
  case restoreAttempt =>
    by_cases hafter : after = [] <;> simp [hafter, hcurtail, StandingCase.curtails, StandingCase.leaves]
  all_goals simp_all [StandingCase.curtails, StandingCase.TakenIn, StandingCase.leaves]

/-- A round runs in the cases that call for one (R101). -/
theorem roundRuns_eq : roundRuns r r' = c.rounds := by
  have hstanding := h.standing
  have hdraw := h.kept.2.2.1
  obtain ⟨⟨l, d, m, v, rfl⟩, ⟨shedHere, htaken⟩, hcalled, -⟩ := h
  obtain ⟨-, hcurtail, -⟩ := standingByDemand_ne (r.withFigures l d m v)
  rw [roundRuns, hstanding, hdraw]
  cases c
  case burst =>
    have hburst : r.burst < (r.withFigures l d m v).draw := hcalled.2
    cases hx : r.standing
    case curtail => exact absurd hx htaken
    case recover => simpa [StandingCase.leaves, StandingCase.rounds] using hburst
    all_goals simp [StandingCase.leaves, StandingCase.rounds]
  case renewedExcess =>
    obtain ⟨hnot, henforce, -⟩ := hcalled
    have hburst : ¬ r.burst < (r.withFigures l d m v).draw := fun hlt => hnot ⟨henforce, hlt⟩
    simp [show r.standing = .recover from htaken, StandingCase.rounds, hburst]
  case round | settleRun =>
    have hsettle := hcalled.2
    simp_all [StandingCase.leaves, StandingCase.rounds, StandingCase.TakenIn, Tenant.withFigures]
  case straightOn => rcases htaken with hx | hx <;> simp [hx, StandingCase.leaves, StandingCase.rounds]
  case restoreAttempt =>
    by_cases hafter : after = [] <;> simp [hafter, hcurtail, StandingCase.leaves, StandingCase.rounds]
  all_goals simp_all [StandingCase.leaves, StandingCase.rounds, StandingCase.TakenIn]

theorem roundSheds_eq : roundSheds r r' = (c.rounds && roundLooks t) := by
  obtain ⟨hview, hsubtotal, -, -, hcontract, hshare⟩ := h.kept
  rw [roundSheds, h.roundRuns_eq, hview, hsubtotal, hcontract, hshare, roundLooks]

/-- The outlets of the round (R117). -/
theorem roundTakes_eq (s : State) : roundTakes s r r' = c.sheds s t := by
  obtain ⟨-, -, -, -, -, hshare⟩ := h.kept
  rw [roundTakes, h.roundSheds_eq, hshare, StandingCase.sheds, roundOutlets, h.id_eq.2]
  cases c.rounds <;> simp

theorem roundFallsShort_eq (s : State) : roundFallsShort s r r' = (c.rounds && roundShort s t) := by
  obtain ⟨-, -, -, -, -, hshare⟩ := h.kept
  rw [roundFallsShort, h.roundSheds_eq, h.roundTakes_eq, hshare, roundShort, StandingCase.sheds]
  cases c.rounds <;> simp

/-- The outlet of the restore step (R121 to R126). -/
theorem stepRestores_eq (s : State) : stepRestores s r r' = c.restores s t := by
  have hstep : ((restoreCandidates s r.id).head?.filter fun n => restoreAllowed s r' (powerAtShed s n)) =
      stepOutlet s t := by
    obtain ⟨x, g, n, k, hrecord⟩ := h.kept_eq
    rw [hrecord, stepOutlet, ← h.id_eq.2]
    rfl
  have hattempts : (r.standing = .recover ∧ r'.standing ≠ .curtail ∧ r.restore ≤ 1) ↔ c = .restoreAttempt := by
    have hstanding := h.standing
    obtain ⟨⟨l, d, m, v, rfl⟩, ⟨shedHere, htaken⟩, hcalled, -⟩ := h
    obtain ⟨-, hcurtail, -⟩ := standingByDemand_ne (r.withFigures l d m v)
    rw [hstanding]
    cases c
    case restoreAttempt =>
      have hleaves : StandingCase.restoreAttempt.leaves (r.withFigures l d m v) after ≠ .curtail := by
        by_cases hafter : after = [] <;> simp [StandingCase.leaves, hafter, hcurtail]
      exact ⟨fun _ => rfl, fun _ => ⟨htaken, hleaves, hcalled.2.2⟩⟩
    case restoreRun =>
      have hrestore : ¬ r.restore ≤ 1 := hcalled.2.2
      simp [hrestore]
    case byDemand | straightOn | enterExcess => rcases htaken with hx | hx <;> simp [hx]
    case burst | renewedExcess => simp [StandingCase.leaves]
    all_goals simp_all [StandingCase.TakenIn]
  simp only [stepRestores, StandingCase.restores, hattempts, hstep]

/-- The records of the close for the tenant, in the order of R110. -/
theorem closeRecords_eq (s : State) : closeRecords s r r' =
    (if c.begins t then [makeRecord s .excessBegin t 0 []] else []) ++
      (c.reports s t ++ if c.departs after then [makeRecord s .excessEnd t 0 []] else []) := by
  obtain ⟨-, -, hdraw, hdemand, hcontract, hshare⟩ := h.kept
  have hmake (kind : RecordKind) (n : Nat) (outlets : List Nat) :
      (⟨kind, r.id, s.time.periodNumber, r'.draw, r'.demand, r'.contract, n, outlets⟩ : ExcursionRecord) =
        makeRecord s kind t n outlets := by
    rw [hdraw, hdemand, hcontract, ← h.id_eq.2, makeRecord]
  simp only [closeRecords, hmake, h.begins_eq, h.roundSheds_eq, h.roundFallsShort_eq, h.roundTakes_eq,
    h.stepRestores_eq, h.ends_eq, hshare]
  cases c
  case burst | straightOn | graceEnd | round =>
    cases hlooks : roundLooks t <;>
      simp [StandingCase.reports, StandingCase.rounds, StandingCase.sheds, StandingCase.restores,
        StandingCase.ends, StandingCase.departs, roundRecords, hlooks]
  all_goals simp [StandingCase.reports, StandingCase.rounds, StandingCase.restores, StandingCase.ends,
    StandingCase.departs]

end CaseLeft

end Sys2Proof.Machine
end

section
/-! SUPPORT. One close outside warm-up, seen from its beginning: the work for each tenant finds the readings and the
outlets of that tenant as the close began (R77, R110, R112 to R126). -/

namespace Sys2Proof.Machine

/-- What the work of a close takes as given: outside warm-up, every present outlet with its record and with jobs that
agree with it, and a coil that serves the queue (R11, R94, R134, R135). -/
structure CloseReady (s : State) : Prop where
  evaluated : closePhase s ≠ .warmup
  serves : CoilServes s
  placed : OutletsPlaced s
  jobs : ∀ n ∈ presentOutlets s, JobsAgree n s

/-- The case that a close beginning in `s` takes for the tenant with record `r` (R96 to R105). -/
def closeCase (s : State) (r : Tenant) : StandingCase :=
  standingCase (closeFigures s r) (decide (shedOutlets s r.id ≠ []))

section

variable {s u : State} {r : Tenant} {c : StandingCase} {t : Tenant} {id n : Nat}

theorem StandingCase.sheds_mem (hplaced : OutletsPlaced s) (hn : n ∈ c.sheds s t) : n ∈ tenantOutlets s t.id := by
  unfold StandingCase.sheds at hn
  split at hn
  · exact ((roundOutlets_candidates hplaced t).2 n hn).1
  · cases hn

theorem StandingCase.restores_mem (hn : c.restores s t = some n) : n ∈ tenantOutlets s t.id := by
  unfold StandingCase.restores at hn
  split at hn
  · exact (mem_shedOutlets.mp (stepOutlet_mem hn)).1
  · cases hn

theorem StandingCase.sheds_congr (hsame : SameReadings t.id s u) (c : StandingCase) : c.sheds u t = c.sheds s t := by
  rw [sheds, hsame.roundOutlets, sheds]

theorem StandingCase.restores_congr (hsame : SameReadings t.id s u) (c : StandingCase) :
    c.restores u t = c.restores s t := by
  rw [restores, hsame.stepOutlet, restores]

/-- While a close is worked, a tenant whose outlets are as they were reads what it would have read at the beginning. -/
theorem sameReadings_of_moves (h : Moves s u) (hplaced : OutletsPlaced s)
    (hkept : ∀ n, 1 ≤ n → (relayOutlet s n).tenant = id → OutletKept n s u) : SameReadings id s u where
  meter := h.meter
  loader := h.loader
  table := h.table
  roster := h.roster
  fixed := h.relayOutlet
  records n hn := by
    obtain ⟨hpresent, htenant⟩ := mem_tenantOutlets.mp hn
    exact (hkept n (hplaced n hpresent).1 htenant).record

/-- The case that is taken is the one of the beginning of the close. -/
theorem tenantCase_of_moves (h : Moves s u) (hevaluated : closePhase s ≠ .warmup) (hsame : SameReadings r.id s u) :
    tenantCase u (closeFigures u r) = some (closeCase s r) := by
  have hshed : shedOutlets u (closeFigures s r).id = shedOutlets s r.id := hsame.shedOutlets
  rw [tenantCase, h.phase, if_neg hevaluated, h.closeFigures, hshed, closeCase]

/-- The work for a tenant that finds its outlets as they were at the beginning of the close. -/
theorem CloseReady.switched (hready : CloseReady s) (hmoves : Moves s u) (hserves : CoilServes u)
    (hkept : ∀ n, 1 ≤ n → (relayOutlet s n).tenant = r.id → OutletKept n s u) (h : findTenant u r.id = some r) :
    Switched ((closeCase s r).sheds s (closeFigures s r)) ((closeCase s r).restores s (closeFigures s r)) u
      (closeTenant u r.id) := by
  have hsame := sameReadings_of_moves hmoves hready.placed hkept
  have hplaced : OutletsPlaced u := by
    simpa [OutletsPlaced, hmoves.length, presentOutlets_congr (congrArg Loader.params hmoves.loader)] using
      hready.placed
  have hjobs : ∀ n ∈ tenantOutlets u r.id, JobsAgree n u := by
    rw [hsame.tenantOutlets]
    intro n hn
    obtain ⟨hpresent, htenant⟩ := mem_tenantOutlets.mp hn
    exact (hready.jobs n hpresent).of_kept (hkept n (hready.placed n hpresent).1 htenant)
  have hswitched := switched_closeTenant hserves hplaced hjobs h (tenantCase_of_moves hmoves hready.evaluated hsame)
  rw [hmoves.closeFigures] at hswitched
  have hfigures : SameReadings (closeFigures s r).id s u := hsame
  rwa [StandingCase.sheds_congr hfigures, StandingCase.restores_congr hfigures] at hswitched

/-- It leaves the outlets of the other tenants (R112). -/
theorem CloseReady.others (hready : CloseReady s) (hmoves : Moves s u) (hserves : CoilServes u)
    (hkept : ∀ n, 1 ≤ n → (relayOutlet s n).tenant = id → OutletKept n s u) : CoilServes (closeTenant u id) ∧
      ∀ n, 1 ≤ n → (relayOutlet s n).tenant ≠ id → OutletKept n u (closeTenant u id) := by
  cases h : findTenant u id with
  | none =>
    have hnone : closeTenant u id = u := by
      simp [closeTenant, tenantFigures, evaluateTenant, tenantStanding, attemptsRestore, h]
    rw [hnone]
    exact ⟨hserves, fun _ _ _ => ⟨rfl, fun _ _ => .rfl⟩⟩
  | some r =>
    obtain rfl := findTenant_id h
    obtain ⟨honly, -, -, -⟩ := hready.switched hmoves hserves hkept h
    refine ⟨honly.serves, fun n hn hother => honly.kept n hn fun hmem => hother ?_⟩
    have howned : n ∈ tenantOutlets s r.id := by
      rcases List.mem_append.mp hmem with htaken | hrestored
      · exact StandingCase.sheds_mem (t := closeFigures s r) hready.placed htaken
      · exact StandingCase.restores_mem (t := closeFigures s r) (Option.mem_toList.mp hrestored)
    exact (mem_tenantOutlets.mp howned).2

/-- The work for some tenants leaves the outlets of every other one (R112). -/
theorem CloseReady.closeTenants (hready : CloseReady s) {ids : List Nat} (hids : ids.Nodup) :
    CoilServes (ids.foldl closeTenant s) ∧
      ∀ n, 1 ≤ n → (relayOutlet s n).tenant ∉ ids → OutletKept n s (ids.foldl closeTenant s) := by
  induction ids using List.reverseRecOn with
  | nil => exact ⟨hready.serves, fun _ _ _ => ⟨rfl, fun _ _ => .rfl⟩⟩
  | append_singleton ids i ih =>
    obtain ⟨hdistinct, -, hapart⟩ := List.nodup_append.mp hids
    have hnew : i ∉ ids := fun hmem => hapart i hmem i (.head _) rfl
    obtain ⟨hserves, hkept⟩ := ih hdistinct
    obtain ⟨hserves', hothers⟩ := hready.others (.closeTenants .refl ids) hserves
      fun n hn htenant => hkept n hn (htenant ▸ hnew)
    rw [List.foldl_append]
    refine ⟨hserves', fun n hn hnot => (hkept n hn fun hmem => hnot (List.mem_append_left _ hmem)).trans
      (hothers n hn fun htenant => hnot (by simp [htenant]))⟩

/-- So does the work for some tenants after the work for some others. -/
theorem CloseReady.closeTenantsAfter (hready : CloseReady s) {pre ids : List Nat} (hids : (pre ++ ids).Nodup)
    (hn : 1 ≤ n)
    (hnot : (relayOutlet s n).tenant ∉ ids) :
    OutletKept n (pre.foldl closeTenant s) (ids.foldl closeTenant (pre.foldl closeTenant s)) := by
  induction ids using List.reverseRecOn with
  | nil => exact ⟨rfl, fun _ _ => .rfl⟩
  | append_singleton ids i ih =>
    rw [← List.append_assoc] at hids
    obtain ⟨hdistinct, -, hapart⟩ := List.nodup_append.mp hids
    have hnew : i ∉ pre ++ ids := fun hmem => hapart i hmem i (.head _) rfl
    obtain ⟨hserves, hkept⟩ := hready.closeTenants hdistinct
    obtain ⟨-, hothers⟩ := hready.others (.closeTenants .refl (pre ++ ids)) hserves
      fun m hm htenant => hkept m hm (htenant ▸ hnew)
    rw [List.foldl_append] at hothers
    rw [List.foldl_append]
    exact (ih hdistinct fun hmem => hnot (List.mem_append_left _ hmem)).trans
      (hothers n hn fun htenant => hnot (by simp [htenant]))

end

end Sys2Proof.Machine
end

section
/-! PROOF. O34: how one close moves every tenant's standing and counters, and what it appends, raises, sheds and
restores. -/

namespace Sys2Proof.Machine

/-! ## The events of the work for one tenant -/

/-- The events that the work of a close raises for a tenant, by the record before and after it (R87, R107, R108, R118,
R104). -/
def closeRaises (s : State) (r r' : Tenant) : EventKind → Bool
  | .excess => begins r r'
  | .curtail => decide (r.standing ≠ .curtail ∧ r'.standing = .curtail)
  | .restored => decide (r.standing = .recover) && ends r r'
  | .unresolved => roundFallsShort s r r'
  | .viewDegraded => decide (r.view = .complete ∧ r'.view ≠ .complete)
  | _ => false

def closeEvents (s : State) (r r' : Tenant) : List EventKind :=
  [EventKind.excess, .curtail, .restored, .unresolved, .viewDegraded].filter (closeRaises s r r')

theorem mem_closeEvents {s : State} {r r' : Tenant} {k : EventKind} :
    k ∈ closeEvents s r r' ↔ closeRaises s r r' k = true := by
  cases k <;> simp [closeEvents, closeRaises]

/-- The events of a case (R108, R118). -/
theorem StandingCase.mem_events {c : StandingCase} {s : State} {t : Tenant} {k : EventKind} : k ∈ c.events s t ↔
    k = .curtail ∧ c.curtails = true ∨ k = .unresolved ∧ (c.rounds && roundShort s t) = true := by
  have hround : k ∈ roundEvents s t ↔ k = .unresolved ∧ roundShort s t = true := by
    unfold roundEvents
    split <;> simp_all
  cases c <;> simp [events, curtails, rounds, hround]

theorem CaseLeft.raises_iff {c : StandingCase} {p : Params} {after : List Nat} {r t r' : Tenant}
    (h : CaseLeft c p after r t r') (s : State) (k : EventKind) :
    k ∈ figureEvents c r t ++ (c.events s t ++ if c.departs after then [.restored] else []) ↔
      closeRaises s r r' k = true := by
  have hif (b : Bool) (j : EventKind) : (k ∈ if b = true then [j] else []) ↔ k = j ∧ b = true := by cases b <;> simp
  have hfigures : k ∈ figureEvents c r t ↔
      k = .viewDegraded ∧ (r.view = .complete ∧ t.view ≠ .complete) ∨ k = .excess ∧ c.begins t = true := by
    rw [figureEvents, List.mem_append, hif]
    refine or_congr_left ?_
    split <;> simp_all
  obtain ⟨hview, -, -, -, -, -⟩ := h.kept
  rw [List.mem_append, List.mem_append, hfigures, StandingCase.mem_events, hif]
  unfold closeRaises
  rw [h.begins_eq, h.curtails_eq, h.restored_eq, h.roundFallsShort_eq, hview]
  cases k <;> simp

/-! ## One tenant in a whole close -/

theorem closePhase_ne_warmup {s : State} (h : s.recon.warmup = 0) : closePhase (beginClose s) ≠ .warmup := by
  unfold closePhase
  rw [beginClose_recon, h]
  split_ifs <;> simp_all

/-- Once the averages are made a tenant reads what the work of the close reads. -/
theorem sameReadings_beginClose (s : State) (id : Nat) : SameReadings id (closeMeter s) (beginClose s) := .of_frames _

/-- The record of a tenant with the figures of the close that begins in `s` (R77). -/
def closeTaken (s : State) (r : Tenant) : Tenant := closeFigures (beginClose s) r

section

variable {s : State} {r : Tenant} (hhand : s.closeInHand = none) (hids : (tenantIds s).Nodup)
  (hevaluated : closePhase (beginClose s) ≠ .warmup)
include hhand hids hevaluated

/-- A close takes for each tenant the case that its figures and standing call for (R91, R96 to R105). -/
theorem caseLeft_closePeriod (hr : r ∈ s.recon.tenants) : CaseLeft (closeCase (beginClose s) r) s.loader.params
    (shedOutlets (closePeriod s) r.id) r (closeTaken s r) (recordIn (closePeriod s) r) where
  figures := closeFigures_withFigures (beginClose s) r
  taken := ⟨_, standingCase_takenIn (closeTaken s r) _⟩
  called := standingCase_called (closeTaken s r) _
  closed := by
    have hcase : tenantCase (beginClose s) (closeTaken s r) = some (closeCase (beginClose s) r) := if_neg hevaluated
    rw [recordIn, findTenant_closePeriod hhand hids hr]
    exact congrArg (fun c => closedRecord s.loader.params c (closeTaken s r) _) hcase

/-- The standing and the counters of a tenant after the close (R96 to R105). -/
theorem standingMoves_closePeriod (hr : r ∈ s.recon.tenants) : ∃ r', findTenant (closePeriod s) r.id = some r' ∧
    StandingMoves s.loader.params r r' (shedOutlets s r.id ≠ []) (shedOutlets (closePeriod s) r.id ≠ []) := by
  have hleft := caseLeft_closePeriod hhand hids hevaluated hr
  have hshed : shedOutlets (beginClose s) r.id = shedOutlets s r.id := shedOutlets_congr (by simp) (by simp) r.id
  obtain ⟨l, d, m, v, hfigures⟩ := hleft.figures
  have htaken : (closeCase (beginClose s) r).TakenIn (closeTaken s r).standing (decide (shedOutlets s r.id ≠ [])) :=
    hshed ▸ standingCase_takenIn (closeTaken s r) _
  refine ⟨recordIn (closePeriod s) r, ?_, ?_⟩
  · rw [recordIn, findTenant_closePeriod hhand hids hr]
    rfl
  · rw [hleft.closed]
    exact standingMoves_closedRecord _ r hfigures _ htaken hleft.called Iff.rfl

end

section

variable {s : State} {r : Tenant} (hhand : s.closeInHand = none) (hids : (tenantIds s).Nodup)
  (hready : CloseReady (beginClose s))
include hhand hids hready

/-- The outlets of a tenant are switched by the work for that tenant alone (R112). -/
theorem switched_closePeriod (hr : r ∈ s.recon.tenants) : ∃ u v,
    Switched ((closeCase (beginClose s) r).sheds (beginClose s) (closeTaken s r))
      ((closeCase (beginClose s) r).restores (beginClose s) (closeTaken s r)) u v ∧
    u.meter = (closePeriod s).meter ∧
    ∀ n, 1 ≤ n → (relayOutlet s n).tenant = r.id → OutletKept n s u ∧ OutletKept n v (closePeriod s) := by
  obtain ⟨pre, post, htenants⟩ := List.append_of_mem hr
  obtain ⟨hbefore, hfind, -⟩ := closePeriod_tenant hhand htenants hids rfl
  have hsplit : tenantIds s = pre.map Tenant.id ++ r.id :: post.map Tenant.id := by simp [tenantIds, htenants]
  have hclose : closePeriod s = endClose ((post.map Tenant.id).foldl closeTenant
      (closeTenant ((pre.map Tenant.id).foldl closeTenant (beginClose s)) r.id)) := by
    rw [closePeriod_eq s hhand, ← List.foldl_cons, ← List.foldl_append, ← hsplit]
    rfl
  rw [hsplit] at hids
  obtain ⟨hpre, hpost, hapart⟩ := List.nodup_append.mp hids
  obtain ⟨hserves, hkept⟩ := hready.closeTenants hpre
  have hrelay (n : Nat) : relayOutlet (beginClose s) n = relayOutlet s n := by
    rw [relayOutlet, beginClose_relay, relayOutlet]
  have hfound : ∀ n, 1 ≤ n → (relayOutlet (beginClose s) n).tenant = r.id → OutletKept n (beginClose s)
      ((pre.map Tenant.id).foldl closeTenant (beginClose s)) := fun n hn htenant =>
    hkept n hn fun hmem => hapart _ hmem _ (.head _) htenant
  refine ⟨_, _, hready.switched hbefore.moves hserves hfound hfind, ?_, fun n hn htenant => ⟨?_, ?_⟩⟩
  · rw [hbefore.moves.meter, beginClose_meter, (closePeriod_meter s).1]
  · obtain ⟨hrecord, hjobs⟩ := hfound n hn ((congrArg RelayOutlet.tenant (hrelay n)).trans htenant)
    exact ⟨hrecord.trans (hrelay n), by simpa using hjobs⟩
  · have hafter := hready.closeTenantsAfter (pre := pre.map Tenant.id ++ [r.id]) (ids := post.map Tenant.id)
      (by simpa using hids) hn (by
        rw [hrelay, htenant]
        exact (List.nodup_cons.mp hpost).1)
    rw [List.foldl_append] at hafter
    rw [hclose]
    exact ⟨by simpa [relayOutlet] using hafter.record, by simpa using hafter.jobs⟩

/-- What the work for one tenant reports, in the middle of the close (R110). -/
theorem reports_position {pre post : List Tenant} (htenants : s.recon.tenants = pre ++ r :: post) {u : State}
    (hu : u = (pre.map Tenant.id).foldl closeTenant (beginClose s)) (hfits : u.records.length ≤ 16) :
    Reports (closeEvents (closeMeter s) r (recordIn (closePeriod s) r))
      (closeRecords (closeMeter s) r (recordIn (closePeriod s) r)) u (closeTenant u r.id) := by
  have hr : r ∈ s.recon.tenants := by simp [htenants]
  have hleft := caseLeft_closePeriod hhand hids hready.evaluated hr
  obtain ⟨hbefore, hfind, w, hafter, hclose⟩ := closePeriod_tenant hhand htenants hids hu
  have hsplit : tenantIds s = pre.map Tenant.id ++ r.id :: post.map Tenant.id := by simp [tenantIds, htenants]
  obtain ⟨hpre, -, hapart⟩ := List.nodup_append.mp (hsplit ▸ hids)
  have hfrom : SameReadings (closeTaken s r).id (beginClose s) u :=
    sameReadings_of_moves hbefore.moves hready.placed fun n hn htenant => hu ▸ (hready.closeTenants hpre).2 n hn
      fun hmem => hapart _ hmem _ (.head _) htenant
  have hmeter := sameReadings_beginClose s (closeTaken s r).id
  have htime : u.time = (closeMeter s).time := hbefore.moves.time.trans (beginClose_time s)
  obtain ⟨hevents, hreports⟩ := StandingCase.reports_congr hfrom hbefore.moves.time (closeCase (beginClose s) r)
  obtain ⟨hevents', hreports'⟩ := StandingCase.reports_congr hmeter (beginClose_time s) (closeCase (beginClose s) r)
  have hshed : shedOutlets (closePeriod s) r.id = shedOutlets (closeTenant u r.id) r.id := by
    rw [hclose, shedOutlets_congr (s := w) (by simp) (by simp), hafter.shedOutlets]
  have hmake (kind : RecordKind) : makeRecord u kind (closeTaken s r) 0 [] =
      makeRecord (closeMeter s) kind (closeTaken s r) 0 [] := by simp only [makeRecord, htime]
  have hcase : tenantCase u (closeFigures u r) = some (closeCase (beginClose s) r) :=
    tenantCase_of_moves hbefore.moves hready.evaluated hfrom
  rw [hbefore.moves.closeFigures] at hcase
  have hwork := reports_closeTenant hfits hfind (hbefore.moves.closeFigures r).symm hcase
  have htaken : closeFigures (beginClose s) r = closeTaken s r := rfl
  rw [htaken, ← hshed, hevents, hevents', hreports, hreports', hmake, hmake, ← hleft.closeRecords_eq] at hwork
  exact hwork.events fun k => mem_closeEvents.trans (hleft.raises_iff (closeMeter s) k).symm

/-- The records and the events of a whole close, tenant by tenant in table order (R87, R107 to R110, R118, R126,
R156). -/
theorem reports_closePeriod (hfits : s.records.length ≤ 16) :
    (closePeriod s).records = (s.records ++ s.recon.tenants.flatMap fun r =>
      closeRecords (closeMeter s) r (recordIn (closePeriod s) r)).take 16 ∧
    ∀ k, k ≠ .reportSuperseded → latched (closePeriod s) k = (latched s k ||
      (s.recon.tenants.any fun r => closeRaises (closeMeter s) r (recordIn (closePeriod s) r) k) ||
      decide (k = .recordLost ∧ 16 < (s.records ++ s.recon.tenants.flatMap fun r =>
        closeRecords (closeMeter s) r (recordIn (closePeriod s) r)).length)) := by
  have hfold (l : List Tenant) : l.foldl (fun u r => closeTenant u r.id) (beginClose s) =
      (l.map Tenant.id).foldl closeTenant (beginClose s) := List.foldl_map.symm
  have hall := (Reports.foldl (s := beginClose s) (l := s.recon.tenants) (by simpa using hfits)
    fun pre r post htenants hroom =>
      reports_position hhand hids hready htenants (hfold pre) hroom).of_start (s := s)
  have hclose : closePeriod s = endClose (s.recon.tenants.foldl (fun u r => closeTenant u r.id) (beginClose s)) := by
    rw [hfold, closePeriod_eq s hhand]
  refine ⟨by rw [hclose, endClose_records, hall.records, ← hclose], fun k hk => ?_⟩
  have hraised : decide (k ∈ s.recon.tenants.flatMap fun r =>
      closeEvents (closeMeter s) r (recordIn (closePeriod s) r)) =
      s.recon.tenants.any fun r => closeRaises (closeMeter s) r (recordIn (closePeriod s) r) k := by
    rw [Bool.eq_iff_iff]
    simp [mem_closeEvents]
  rw [hclose, latched_endClose _ hk, hall.latches, ← hclose, hraised]

end

/-! ## The relays of a whole close -/

/-- The jobs of the Relay Driver serve the coil and agree with the relay states (R134, R135). -/
theorem closeReady_beginClose {s : State} (hwarmup : s.recon.warmup = 0) (hrule : RelayRule s)
    (hconverters : s.loader.params.converterCount ≤ 3) : CloseReady (beginClose s) := by
  have hpresent : ∀ n ∈ presentOutlets (beginClose s), 1 ≤ n ∧ n ≤ 24 := by
    intro n hn
    simp only [presentOutlets, beginClose_loader, List.mem_map, List.mem_range] at hn
    omega
  have hrelay (n : Nat) : relayOutlet (beginClose s) n = relayOutlet s n := by
    rw [relayOutlet, beginClose_relay, relayOutlet]
  refine ⟨closePhase_ne_warmup hwarmup, ?_, fun n hn => ?_, fun n hn => ?_⟩
  · simpa [CoilServes] using hrule.taken
  · rw [beginClose_relay, hrule.outlets]
    exact hpresent n hn
  · exact (hrule.jobsAgree (hpresent n hn).1 (hpresent n hn).2).of_kept ⟨hrelay n, by simp⟩

section

variable {s : State} {r : Tenant} {n : Nat} (hhand : s.closeInHand = none) (hids : (tenantIds s).Nodup)
  (hready : CloseReady (beginClose s))
include hhand hids hready

/-- The outlets of a tenant are switched as its two records say (R112 to R126). -/
theorem switched_records (hr : r ∈ s.recon.tenants) : ∃ u v,
    Switched (roundTakes (closeMeter s) r (recordIn (closePeriod s) r))
      (stepRestores (closeMeter s) r (recordIn (closePeriod s) r)) u v ∧
    u.meter = (closePeriod s).meter ∧
    ∀ n, 1 ≤ n → (relayOutlet s n).tenant = r.id → OutletKept n s u ∧ OutletKept n v (closePeriod s) := by
  have hleft := caseLeft_closePeriod hhand hids hready.evaluated hr
  have hmeter := sameReadings_beginClose s (closeTaken s r).id
  rw [hleft.roundTakes_eq, hleft.stepRestores_eq, ← StandingCase.sheds_congr hmeter,
    ← StandingCase.restores_congr hmeter]
  exact switched_closePeriod hhand hids hready hr

/-- What is switched for a tenant is one of its outlets (R112). -/
theorem switched_mem (hr : r ∈ s.recon.tenants) (hn : n ∈ roundTakes (closeMeter s) r (recordIn (closePeriod s) r) ∨
    stepRestores (closeMeter s) r (recordIn (closePeriod s) r) = some n) : 1 ≤ n ∧ n ∈ tenantOutlets s r.id := by
  have hleft := caseLeft_closePeriod hhand hids hready.evaluated hr
  have hmeter := sameReadings_beginClose s (closeTaken s r).id
  have howned : n ∈ tenantOutlets (beginClose s) (closeTaken s r).id := by
    rw [hleft.roundTakes_eq, hleft.stepRestores_eq, ← StandingCase.sheds_congr hmeter,
      ← StandingCase.restores_congr hmeter] at hn
    exact hn.elim (StandingCase.sheds_mem hready.placed) StandingCase.restores_mem
  have hlow := (hready.placed n (mem_tenantOutlets.mp howned).1).1
  rw [hleft.id_eq.2, tenantOutlets_beginClose] at howned
  exact ⟨hlow, howned⟩

/-- An outlet that no round takes and no step restores is as it was. -/
theorem outletKept_closePeriod (hn : 1 ≤ n)
    (hleft : ∀ r ∈ s.recon.tenants, n ∉ roundTakes (closeMeter s) r (recordIn (closePeriod s) r) ∧
      stepRestores (closeMeter s) r (recordIn (closePeriod s) r) ≠ some n) : OutletKept n s (closePeriod s) := by
  by_cases howner : ∃ r ∈ s.recon.tenants, (relayOutlet s n).tenant = r.id
  · obtain ⟨r, hr, htenant⟩ := howner
    obtain ⟨u, v, hswitched, -, hkept⟩ := switched_records hhand hids hready hr
    obtain ⟨hbefore, hafter⟩ := hkept n hn htenant
    obtain ⟨hnot, hnot'⟩ := hleft r hr
    exact (hbefore.trans (hswitched.only.kept n hn (by simp [hnot, hnot']))).trans hafter
  · have hrelay : relayOutlet (beginClose s) n = relayOutlet s n := by rw [relayOutlet, beginClose_relay, relayOutlet]
    have hnot : (relayOutlet (beginClose s) n).tenant ∉ tenantIds s := by
      rw [hrelay]
      simpa [tenantIds, eq_comm] using howner
    obtain ⟨hrecord, hjobs⟩ := (hready.closeTenants hids).2 n hn hnot
    have hclose : closePeriod s = endClose ((tenantIds s).foldl closeTenant (beginClose s)) := closePeriod_eq s hhand
    rw [hclose]
    exact ⟨by simpa [relayOutlet] using hrecord, by simpa using hjobs⟩

/-- What a close outside warm-up leaves (R87, R107 to R110, R117, R118, R126, R130, R131, R156). -/
theorem closeEffects_closePeriod (hfits : s.records.length ≤ 16) : CloseEffects s (closePeriod s) := by
  obtain ⟨hrecords, hlatches⟩ := reports_closePeriod hhand hids hready hfits
  have hother (k : EventKind) (hk : k ≠ .reportSuperseded) (hlost : k ≠ .recordLost) :
      latched (closePeriod s) k = (latched s k ||
        s.recon.tenants.any fun r => closeRaises (closeMeter s) r (recordIn (closePeriod s) r) k) := by
    rw [hlatches k hk]
    simp [hlost]
  refine {
    records := hrecords
    lost := ?_
    excess := hother .excess (by decide) (by decide)
    curtail := hother .curtail (by decide) (by decide)
    restored := hother .restored (by decide) (by decide)
    unresolved := hother .unresolved (by decide) (by decide)
    viewDegraded := hother .viewDegraded (by decide) (by decide)
    shed := fun r hr n hn => ?_
    opening := fun r hr n hn => ?_
    closing := fun r hr n hn hlock => ?_
    otherRelays := fun n hn hnot => by rw [(outletKept_closePeriod hhand hids hready hn hnot).record]
    otherOutlets := fun n hn hnot => ?_
    otherLatches := fun k hk => ?_ }
  · have hnone : (s.recon.tenants.any fun r =>
        closeRaises (closeMeter s) r (recordIn (closePeriod s) r) .recordLost) = false :=
      List.any_eq_false.mpr fun _ _ => by simp [closeRaises]
    rw [hlatches .recordLost (by decide), hnone]
    simp
  · obtain ⟨u, v, hswitched, hmeter, hkept⟩ := switched_records hhand hids hready hr
    obtain ⟨hpresent, htenant⟩ := mem_tenantOutlets.mp hn
    have hlow : 1 ≤ n := (hready.placed n (by simpa [presentOutlets] using hpresent)).1
    obtain ⟨hbefore, hafter⟩ := hkept n hlow htenant
    rw [hafter.record, hswitched.shed n hlow, hbefore.record, meterOutlet_congr hmeter]
  · obtain ⟨u, v, hswitched, -, hkept⟩ := switched_records hhand hids hready hr
    obtain ⟨hlow, howned⟩ := switched_mem hhand hids hready hr (.inl hn)
    rw [(hkept n hlow (mem_tenantOutlets.mp howned).2).2.record]
    exact hswitched.opened n hn
  · obtain ⟨u, v, hswitched, -, hkept⟩ := switched_records hhand hids hready hr
    obtain ⟨hlow, howned⟩ := switched_mem hhand hids hready hr (.inr hn)
    obtain ⟨hbefore, hafter⟩ := hkept n hlow (mem_tenantOutlets.mp howned).2
    obtain ⟨hoff, hpending, hrest⟩ := hswitched.closed n hn (by rw [hbefore.record, hlock])
    have hstart : (∃ j ∈ u.relay.queue, j.outlet = n ∧ j.origin = .start) ↔
        ∃ j ∈ s.relay.queue, j.outlet = n ∧ j.origin = .start :=
      exists_congr fun j => by
        constructor <;> rintro ⟨hj, hout, horigin⟩
        · exact ⟨(hbefore.jobs j hout).mp hj, hout, horigin⟩
        · exact ⟨(hbefore.jobs j hout).mpr hj, hout, horigin⟩
    rw [hafter.record]
    rw [hbefore.record] at hoff hpending hrest
    simp only [hstart] at hpending
    cases hx : (relayOutlet s n).relay
    case off => exact hoff hx
    case openPending => exact hpending hx
    all_goals exact (hrest (by simp [hx]) (by simp [hx])).trans hx
  · have hleft (r : Tenant) (hr : r ∈ s.recon.tenants) := mt (switched_mem (n := n) hhand hids hready hr)
      fun hmem => hnot r hr hmem.2
    rw [(outletKept_closePeriod hhand hids hready hn fun r hr => not_or.mp (hleft r hr)).record]
  · simp only [List.mem_cons, List.not_mem_nil, or_false, not_or] at hk
    obtain ⟨hexcess, hcurtail, hrestored, hunresolved, hview, hlost, hsuperseded⟩ := hk
    rw [hother k hsuperseded hlost]
    cases k <;> simp_all [closeRaises]

end

/-- Settles O34: the close takes for each tenant the case that its figures call for, and what the case reports and
switches is read off the tenant's records before and after. -/
theorem standingFollowsTheRules : Obligations.StandingFollowsTheRules := by
  intro s hdue hhand hids hwarmup
  exact ⟨closePeriod s, exec_periodClose hdue,
    fun r hr => standingMoves_closePeriod hhand hids (closePhase_ne_warmup hwarmup) hr,
    fun hrule _ hconverters hfits =>
      closeEffects_closePeriod hhand hids (closeReady_beginClose hwarmup hrule hconverters) hfits⟩

end Sys2Proof.Machine
end

section
/-! PROOF. O36: the rows of the three counters. A counter runs out at a close exactly where the tenant's evaluation
takes the case of that counter, and the case is settled by the standing and the figures (R98, R101, R103). -/

namespace Sys2Proof.Machine

/-- A case is the one that is taken exactly where its standing holds and its figures call for it (R96 to R105). -/
theorem standingCase_iff {c : StandingCase} {t : Tenant} {shedHere : Bool} :
    standingCase t shedHere = c ↔ c.TakenIn t.standing shedHere ∧ c.Called t := by
  refine ⟨fun h => h ▸ ⟨standingCase_takenIn t shedHere, standingCase_called t shedHere⟩, ?_⟩
  rintro ⟨htaken, hcalled⟩
  have hbursts : (t.enforce && decide (t.burst < t.draw)) = true ↔ t.Bursts := by simp [Tenant.Bursts]
  simp only [standingCase]
  generalize (t.enforce && decide (t.burst < t.draw)) = bursts at hbursts
  cases c
  case burst => cases hx : t.standing <;> simp_all [StandingCase.TakenIn, StandingCase.Called]
  case straightOn | enterExcess | byDemand => rcases htaken with hx | hx <;> simp_all [StandingCase.Called]
  case graceRun | restoreRun => grind [StandingCase.TakenIn, StandingCase.Called]
  all_goals simp_all [StandingCase.TakenIn, StandingCase.Called]

/-! ## The case of the close that is due -/

/-- Once the averages are made, the start of a close changes the Link Monitor and the work in hand alone (R8, R43,
R48). -/
theorem beginClose_eq (s : State) : beginClose s = ((closeMeter s).withMonitor (closeMonitor (closeMeter s)).monitor
    ).withCloseInHand (some ⟨.figures, tenantIds s⟩) := by
  have hmonitor (u : State) : closeMonitor u = u.withMonitor (closeMonitor u).monitor := by
    simp only [closeMonitor, placeCheck]
    split_ifs <;> rfl
  rw [beginClose, hmonitor]
  rfl

theorem closeFigures_beginClose (s : State) (r : Tenant) :
    closeFigures (beginClose s) r = closeFigures (closeMeter s) r := by
  rw [beginClose_eq]
  rfl

/-- The figures of a close after warm-up (R77 to R86). -/
theorem closeFigures_closeMeter {s : State} (hwarmup : s.recon.warmup = 0) (r : Tenant) :
    ∃ l v, closeFigures (closeMeter s) r = r.withFigures l (cageDraw (closeMeter s) r.id)
      (if s.recon.seedDue = true then cageDraw (closeMeter s) r.id
        else demandStep s.loader.params.k r.demand (cageDraw (closeMeter s) r.id)) v := by
  have hseeding : closePhase (closeMeter s) = .seeding ↔ s.recon.seedDue = true := by
    rw [closePhase_seeding, closeMeter_recon]
    simp [hwarmup]
  refine ⟨localSubtotal (closeMeter s) r.id, viewQuality (closeMeter s) r, ?_⟩
  simp only [closeFigures, hseeding, closeMeter_loader]
  rfl

/-- A close that finds no tenant of this id, or comes in warm-up, evaluates nothing for it (R91, R94). -/
theorem caseAtClose_none {s : State} {id : Nat}
    (h : 0 < (finishClose s).recon.warmup ∨ findTenant (finishClose s) id = none) : caseAtClose s id = none := by
  have hfind : findTenant (closeMeter (finishClose s)) id = findTenant (finishClose s) id :=
    findTenant_congr (closeMeter_recon _) id
  simp only [caseAtClose, hfind]
  rcases h with hwarmup | hnone
  · have hphase : closePhase (closeMeter (finishClose s)) = .warmup :=
      closePhase_warmup (by rwa [closeMeter_recon])
    cases findTenant (finishClose s) id with
    | none => rfl
    | some t => exact tenantCase_warmup hphase _
  · rw [hnone]
    rfl

section

variable {s w : State} {r : Tenant} (hw : w = finishClose s) (hids : (tenantIds w).Nodup)
  (hwarmup : w.recon.warmup = 0) (hr : r ∈ w.recon.tenants)
include hw hids hwarmup hr

/-- After warm-up the case of the close that is due is the one the close takes for the tenant. -/
theorem caseAtClose_eq : caseAtClose s r.id = some (closeCase (beginClose w) r) := by
  have hfind : findTenant (closeMeter w) r.id = some r := by
    obtain ⟨t, ht⟩ := findTenant_of_mem (s := w) (id := r.id) (List.mem_map_of_mem hr)
    rw [findTenant_congr (closeMeter_recon w), ht, eq_of_findTenant hids ht hr rfl]
  have hcase : some (closeCase (beginClose w) r) = tenantCase (beginClose w) (closeFigures (beginClose w) r) :=
    (if_neg (closePhase_ne_warmup hwarmup)).symm
  rw [caseAtClose, ← hw, hfind, hcase, beginClose_eq]
  rfl

/-- The case of the close that is due, by the standing and the figures of the close (R96 to R105). -/
theorem caseAtClose_iff (c : StandingCase) : caseAtClose s r.id = some c ↔
    c.TakenIn r.standing (decide (shedOutlets (beginClose w) r.id ≠ [])) ∧
      c.Called (closeFigures (closeMeter w) r) := by
  rw [caseAtClose_eq hw hids hwarmup hr, Option.some_inj, closeCase, standingCase_iff, closeFigures_beginClose]
  rfl

theorem tenantCase_beginClose {c : StandingCase} (hc : caseAtClose s r.id = some c) :
    tenantCase (beginClose w) (closeFigures (beginClose w) r) = some c := by
  rw [← hc, caseAtClose_eq hw hids hwarmup hr]
  exact if_neg (closePhase_ne_warmup hwarmup)

/-- The record that the case of the close that is due leaves of the tenant (R96 to R105). -/
theorem findTenant_caseAtClose {c : StandingCase} (hc : caseAtClose s r.id = some c) :
    findTenant (closePeriod s) r.id = some (closedRecord s.loader.params (some c) (closeFigures (closeMeter w) r)
      (shedOutlets (closePeriod s) r.id)) := by
  have hcase := tenantCase_beginClose hw hids hwarmup hr hc
  have hhand : w.closeInHand = none := by rw [hw, finishClose_closeInHand]
  have hclose : closePeriod s = closePeriod w := by rw [hw, closePeriod_finishClose]
  have hloader : w.loader = s.loader := by rw [hw, finishClose_loader]
  rw [hclose, findTenant_closePeriod hhand hids hr, hcase, closeFigures_beginClose, hloader]

end

/-! ## The events of a case in the whole close -/

/-- A latch that is set stays while a close is worked (R147, R151). -/
theorem Moves.latch_stays {s t : State} (h : Moves s t) {k : EventKind} (hk : latched s k = true) :
    latched t k = true := by
  induction h with
  | refl => exact hk
  | tail _ hm ih =>
    cases hm with
    | event j => rw [latched_raise, ih, Bool.true_or]
    | _ => exact ih

section

variable {s u : State} {r t : Tenant} {id : Nat} {c : StandingCase}

/-- A case that enters CURTAIL raises the event of that name (R108). -/
theorem applyStanding_curtails (hc : c.curtails = true) : latched (applyStanding c t s) .curtail = true := by
  have hentered (n : Nat) (v : State) : latched (enterCurtail t.id n v) .curtail = true := by simp [enterCurtail]
  cases c
  case burst | straightOn | graceEnd => exact (Moves.refl.runRound).latch_stays (hentered 0 _)
  case renewedExcess => exact hentered _ s
  all_goals cases hc

/-- What the work for a tenant raises by its case: CURTAIL at an entry into it, RESTORED at a departure (R104, R108). -/
theorem closeTenant_latches (h : findTenant s id = some r) (hcase : tenantCase s (closeFigures s r) = some c) :
    (c.curtails = true → latched (closeTenant s id) .curtail = true) ∧
      (c.departs (shedOutlets (closeTenant s id) id) = true → latched (closeTenant s id) .restored = true) := by
  have hfigures := findTenant_tenantFigures h
  have hwork := evaluateTenant_some hfigures (tenantCase_tenantFigures.trans hcase)
  simp only [closeTenant, hwork]
  by_cases hrestore : c = .restoreAttempt
  · subst hrestore
    have hkept (v : State) : shedOutlets (tenantDeparture id v) id = shedOutlets v id :=
      shedOutlets_congr (by simp) (by simp) id
    simp only [if_true, hkept, StandingCase.departs, StandingCase.curtails, true_and, decide_eq_true_eq]
    refine ⟨nofun, fun hnone => ?_⟩
    simp [tenantDeparture, findTenant_applyStanding _ hfigures, hnone]
  · simp only [if_neg hrestore]
    exact ⟨applyStanding_curtails, by simp [StandingCase.departs, hrestore]⟩

/-- The work for other tenants leaves a tenant the case of its evaluation (R110, R112). -/
theorem TenantKept.tenantCase (h : TenantKept r.id s u) :
    tenantCase u (closeFigures u r) = tenantCase s (closeFigures s r) := by
  have hid : (closeFigures s r).id = r.id := rfl
  rw [h.moves.closeFigures, Machine.tenantCase, h.moves.phase, hid, h.shedOutlets, Machine.tenantCase, hid]

end

/-- What the case of one tenant raises at the close that is due is latched when the close ends (R104, R108). -/
theorem closePeriod_latches {s w : State} {r : Tenant} {c : StandingCase} (hw : w = finishClose s)
    (hids : (tenantIds w).Nodup) (hwarmup : w.recon.warmup = 0) (hr : r ∈ w.recon.tenants)
    (hc : caseAtClose s r.id = some c) : (c.curtails = true → latched (closePeriod s) .curtail = true) ∧
      (c.departs (shedOutlets (closePeriod s) r.id) = true → latched (closePeriod s) .restored = true) := by
  have hcase := tenantCase_beginClose hw hids hwarmup hr hc
  have hhand : w.closeInHand = none := by rw [hw, finishClose_closeInHand]
  have hclose : closePeriod s = closePeriod w := by rw [hw, closePeriod_finishClose]
  obtain ⟨pre, post, htenants⟩ := List.append_of_mem hr
  obtain ⟨hbefore, hfind, v, hafter, hend⟩ := closePeriod_tenant hhand htenants hids rfl
  obtain ⟨hcurtail, hrestored⟩ := closeTenant_latches hfind (hbefore.tenantCase.trans hcase)
  have hshed : shedOutlets (endClose v) r.id = shedOutlets v r.id := shedOutlets_congr (by simp) (by simp) _
  rw [hclose, hend, hshed, hafter.shedOutlets, latched_endClose v (by decide), latched_endClose v (by decide)]
  exact ⟨fun h => hafter.moves.latch_stays (hcurtail h), fun h => hafter.moves.latch_stays (hrestored h)⟩

/-! ## The three rows -/

/-- Each row is the whole close where the close takes the case of its counter, and else nothing (R98, R101, R103). -/
theorem exec_counterRows (id : Nat) (s : State) :
    exec (.graceExpiry id) s =
      .next (if closeDue s ∧ caseAtClose s id = some .graceEnd then closePeriod s else s) ∧
    exec (.settleExpiry id) s =
      .next (if closeDue s ∧ caseAtClose s id = some .round then closePeriod s else s) ∧
    exec (.restoreCounterExpiry id) s =
      .next (if closeDue s ∧ caseAtClose s id = some .restoreAttempt then closePeriod s else s) := ⟨rfl, rfl, rfl⟩

/-- Settles O36: each row is the close where the case of its counter is the one that the close takes, and the record
that this case leaves is the outcome. -/
theorem counterExpiriesAreCloses : Obligations.CounterExpiriesAreCloses := by
  refine ⟨fun s id hno => ?_, fun s w r hdue hw hids hwarmup hr => ?_⟩
  · obtain ⟨hgrace, hsettle, hrestore⟩ := exec_counterRows id s
    rw [hgrace, hsettle, hrestore]
    rcases hno with hdue | hnone
    · simp [hdue]
    · simp [caseAtClose_none hnone]
  intro d m
  obtain ⟨l, v, hfigures⟩ := closeFigures_closeMeter hwarmup r
  have hloader : w.loader = s.loader := by rw [hw, finishClose_loader]
  have htaken := caseAtClose_iff hw hids hwarmup hr
  have hrecord {c : StandingCase} (hc : caseAtClose s r.id = some c) := findTenant_caseAtClose hw hids hwarmup hr hc
  have hlatches {c : StandingCase} (hc : caseAtClose s r.id = some c) := closePeriod_latches hw hids hwarmup hr hc
  rw [hloader] at hfigures
  rw [hfigures] at htaken hrecord
  have hgrace : caseAtClose s r.id = some .graceEnd ↔
      r.standing = .excess ∧ r.enforce = true ∧ r.grace = 1 ∧ d ≤ r.burst ∧ r.contract < m := by
    rw [htaken]
    simp only [StandingCase.TakenIn, StandingCase.Called, Tenant.Bursts, Tenant.withFigures]
    grind
  have hround : caseAtClose s r.id = some .round ↔ r.standing = .curtail ∧ r.settle = 0 ∧ r.release < m := by
    rw [htaken]
    exact and_congr_right' and_comm
  have hattempt : caseAtClose s r.id = some .restoreAttempt ↔
      r.standing = .recover ∧ r.restore ≤ 1 ∧ (r.enforce = true → d ≤ r.burst ∧ m ≤ r.contract) := by
    rw [htaken]
    simp only [StandingCase.TakenIn, StandingCase.Called, Tenant.Bursts, Tenant.withFigures]
    grind
  obtain ⟨hgraceRow, hsettleRow, hrestoreRow⟩ := exec_counterRows r.id s
  have hperiod := exec_periodClose hdue
  refine ⟨fun hnot => ?_, fun hnot => ?_, fun hnot => ?_, fun hx he hg hd hm => ?_, fun hx hzero hm => ?_,
    fun hx hlast hd hm => ?_⟩
  · rw [hgraceRow, if_neg fun h => hnot (hgrace.mp h.2)]
  · rw [hsettleRow, if_neg fun h => hnot (hround.mp h.2)]
  · rw [hrestoreRow, if_neg fun h => hnot (hattempt.mp h.2)]
  · have hcase := hgrace.mpr ⟨hx, he, hg, hd, hm⟩
    exact ⟨closePeriod s, _, by rw [hgraceRow, if_pos ⟨hdue, hcase⟩], hperiod, hrecord hcase, rfl, rfl, rfl,
      (hlatches hcase).1 rfl⟩
  · have hcase := hround.mpr ⟨hx, hzero, hm⟩
    exact ⟨closePeriod s, _, by rw [hsettleRow, if_pos ⟨hdue, hcase⟩], hperiod, hrecord hcase, hx, rfl⟩
  · have hcase := hattempt.mpr ⟨hx, hlast, fun he => ⟨hd he, hm he⟩⟩
    refine ⟨closePeriod s, _, by rw [hrestoreRow, if_pos ⟨hdue, hcase⟩], hperiod, hrecord hcase, ?_⟩
    by_cases hnone : shedOutlets (closePeriod s) r.id = []
    · have hrestored := (hlatches hcase).2 (by simp [StandingCase.departs, hnone])
      rw [closedRecord, if_pos ⟨rfl, hnone⟩]
      exact ⟨rfl, fun hsome => absurd hnone hsome, fun _ => ⟨rfl, hrestored⟩⟩
    · rw [closedRecord, if_neg fun h => hnone h.2]
      exact ⟨rfl, fun _ => hx, fun h => absurd h hnone⟩

end Sys2Proof.Machine
end

section
/-! PROOF. O54: a lock that clears the last shed outlet of a tenant in RECOVER. The flags are changed first, and the
departure then finds no outlet of the tenant shed (R106, R109, R139). -/

namespace Sys2Proof.Machine

section

variable {s : State} {r : Tenant} {id n : Nat}

/-! ## The departure from RECOVER -/

/-- In warm-up the tenant becomes CLEAR, and nothing else changes (R106). -/
theorem recoverDeparture_warmup (h : findTenant s id = some r) (hx : r.standing = .recover)
    (hnone : shedOutlets s id = []) (hwarmup : 0 < s.recon.warmup) :
    recoverDeparture id s = setTenant id (fun u => { u with standing := .clear }) s := by
  simp [recoverDeparture, h, hx, hnone, hwarmup]

/-- Outside warm-up the departure is the end of the excursion (R106, R109). -/
theorem recoverDeparture_ends (h : findTenant s id = some r) (hx : r.standing = .recover)
    (hnone : shedOutlets s id = []) (hwarmup : s.recon.warmup = 0) : recoverDeparture id s = endExcursion r s := by
  obtain rfl := findTenant_id h
  simp only [recoverDeparture, h, hx, hnone, hwarmup, and_self, if_true, lt_irrefl, if_false]
  rfl

/-- The end of an excursion appends EXCESS_END, or loses it to a full queue with RECORD_LOST (R109, R156). -/
theorem endExcursion_room (h : s.records.length < 16) : (endExcursion r s).alert = s.alert ∧
    (endExcursion r s).records = s.records ++ [makeRecord s .excessEnd r 0 []] := by
  rw [endExcursion, appendRecord_room _ _ (by simpa using h)]
  exact ⟨rfl, rfl⟩

theorem endExcursion_full (h : 16 ≤ s.records.length) : (endExcursion r s).records = s.records ∧
    (endExcursion r s).alert.latches = s.alert.latches ||| 0x1000#16 := by
  rw [endExcursion, appendRecord_full _ _ (by simpa using h)]
  exact ⟨rfl, rfl⟩

/-! ## The lock -/

/-- LOCK_OFF of a present outlet that is not protected (R139, R165). -/
theorem exec_lockOff {x : Byte} (h : CommandTaken [x] s) (hpresent : present s x.toNat = true)
    (hcls : 1 ≤ (relayOutlet s x.toNat).cls) (hhand : s.closeInHand = none) : exec (.lockOff [x]) s =
      .next { lockOutlet x.toNat s with link := answered (lockOutlet x.toNat s) 0x03 .accepted [] } := by
  have harg : outletArg s [x] = some x.toNat := by simp [outletArg, oneByteArg, hpresent]
  have hopen : (relayOutlet s x.toNat).cls ≠ 0 := by omega
  rw [exec, execLockOff, h.receiveCommand, lockOffEffect, harg]
  simp only [if_neg hopen, finishClose_none s hhand]
  exact congrArg _ (respond_answered _ _ _ (by simpa using h.slot))

/-- A lock leaves shed the other outlets that were shed (R139). -/
theorem shedOutlets_lock (hn : 1 ≤ n) (hlength : n ≤ s.relay.outlets.length) : shedOutlets
    (changeFlags n (fun o => { o with lock := true, shed := none }) s) id = (shedOutlets s id).filter (· ≠ n) := by
  have htenant (m : Nat) : (relayOutlet (changeFlags n (fun o => { o with lock := true, shed := none }) s) m).tenant =
      (relayOutlet s m).tenant := by
    rcases relayOutlet_flags_set (switchFlags_changeFlags n _ s) m with ⟨-, hm⟩ | hm <;> exact congrArg Prod.fst hm
  rw [shedOutlets, tenantOutlets_congr (by simp) htenant, shedOutlets, List.filter_filter]
  refine List.filter_congr fun m hm => ?_
  have hpresent : 1 ≤ m := by
    obtain ⟨k, -, rfl⟩ := List.mem_map.mp (mem_tenantOutlets.mp hm).1
    exact Nat.le_add_left 1 k
  rw [shed_changeFlags hn hlength _ hpresent]
  by_cases hsame : m = n <;> simp [hsame]

/-- The lock of the last shed outlet of a tenant is the change of its flags and then the departure of the tenant, which
finds no outlet of its own shed (R106, R139). -/
theorem lockOutlet_last {u : State} (hn : 1 ≤ n) (hlength : n ≤ s.relay.outlets.length)
    (hlast : shedOutlets s (relayOutlet s n).tenant = [n])
    (hu : u = changeFlags n (fun o => { o with lock := true, shed := none }) s) :
    lockOutlet n s = recoverDeparture (relayOutlet s n).tenant u ∧ shedOutlets u (relayOutlet s n).tenant = [] := by
  have hshed : (relayOutlet s n).shed.isSome = true := by
    have hmem : n ∈ shedOutlets s (relayOutlet s n).tenant := by simp [hlast]
    exact (mem_shedOutlets.mp hmem).2
  refine ⟨?_, ?_⟩
  · rw [hu]
    exact if_pos hshed
  · rw [hu, shedOutlets_lock hn hlength, hlast]
    simp

end

/-- Settles O54: the departure finds the tenant as it was, and leaves RECOVER by the warm-up count. -/
theorem lockOfTheLastShedOutletEndsTheExcursion : Obligations.LockOfTheLastShedOutletEndsTheExcursion := by
  intro x s r htaken hrule hpresent hplace hcls hhand hfind hx hlast
  have hid := findTenant_id hfind
  have hlow : 1 ≤ x.toNat := by
    simp only [present, decide_eq_true_eq] at hpresent
    exact hpresent.1
  obtain ⟨u, hu⟩ : ∃ u, u = changeFlags x.toNat (fun o => { o with lock := true, shed := none }) s := ⟨_, rfl⟩
  obtain ⟨hlock, hnone⟩ := lockOutlet_last hlow (by rwa [hrule.outlets]) (hid ▸ hlast) hu
  rw [← hid] at hlock hnone hfind
  have hrecon : u.recon = s.recon := by rw [hu, changeFlags_recon]
  have halert : u.alert = s.alert := by rw [hu, changeFlags_alert]
  have hrecords : u.records = s.records := by rw [hu, changeFlags_records]
  have htime : u.time = s.time := by rw [hu, changeFlags_time]
  have hfound : findTenant u r.id = some r := (findTenant_congr hrecon r.id).trans hfind
  have hshed : shedOutlets (recoverDeparture r.id u) r.id = [] := by
    rw [shedOutlets_congr (recoverDeparture_relay u r.id) (recoverDeparture_loader u r.id), hnone]
  rw [exec_lockOff htaken hpresent hcls hhand, hlock]
  rcases Nat.eq_zero_or_pos s.recon.warmup with hwarmup | hwarmup
  · rw [recoverDeparture_ends hfound hx hnone (hrecon ▸ hwarmup)] at hshed ⊢
    refine ⟨_, _, rfl, findTenant_endExcursion hfound, hshed,
      fun _ => ⟨rfl, rfl, fun hroom => ?_, fun hfull => ?_⟩, fun h => absurd hwarmup h.ne'⟩
    · obtain ⟨hsame, happended⟩ := endExcursion_room (r := r) (hrecords ▸ hroom)
      exact ⟨hsame.trans halert, by simp [happended, hrecords, makeRecord, htime]⟩
    · obtain ⟨hsame, hlost⟩ := endExcursion_full (r := r) (hrecords ▸ hfull)
      exact ⟨hsame.trans hrecords, by simp [hlost, halert]⟩
  · rw [recoverDeparture_warmup hfound hx hnone (hrecon ▸ hwarmup)] at hshed ⊢
    exact ⟨_, _, rfl, findTenant_setTenant_self (f := fun u => { u with standing := .clear }) (fun _ => rfl) hfound,
      hshed, fun h => absurd h hwarmup.ne', fun _ => ⟨rfl, hrecords, halert⟩⟩

end Sys2Proof.Machine
end

section
/-! SUPPORT. What a close does to the switching records, the jobs and the coil: its rounds shed outlets, its restore
steps restore them, and nothing else of it reaches them. It leaves the job that the coil holds, and a STUCK outlet. -/

namespace Sys2Proof.Machine

/-! ## A close -/

/-- A present outlet that a round for one of the tenants may shed: neither protected nor locked nor STUCK (R115). -/
structure Sheddable (s : State) (n : Nat) : Prop where
  present : n ∈ presentOutlets s
  tenant : (relayOutlet s n).tenant ∈ tenantIds s
  cls : 1 ≤ (relayOutlet s n).cls
  lock : (relayOutlet s n).lock = false
  relay : (relayOutlet s n).relay ≠ .stuck

/-- From `s` on, outlets have been shed and restored, and else the Relay Driver, the Image Loader, the tenants' ids and
restart pending have been left as they were (R112 to R126). -/
inductive Switching (s : State) : State → Prop
  | refl : Switching s s
  | frame {t u : State} (h : Switching s t) (hrelay : u.relay = t.relay) (hloader : u.loader = t.loader)
    (htenants : tenantIds u = tenantIds t) (hpending : u.restartPending = t.restartPending) : Switching s u
  | shed {t : State} {n : Nat} (h : Switching s t) (hn : Sheddable t n) : Switching s (shedOutlet t n)
  | restore {t : State} {n : Nat} (h : Switching s t) (hn : n ∈ presentOutlets t) : Switching s (restoreOutlet n t)

/-! ## STUCK is not entered by a comparison -/

theorem JobDir.working_ne_stuck (d : JobDir) : d.working ≠ .stuck := by cases d <;> decide

theorem JobDir.pending_ne_stuck (d : JobDir) : d.pending ≠ .stuck := by cases d <;> decide

/-- A relation between an outlet's record before and after, in which a change of the relay state stands, but for one to
STUCK. -/
structure BeforeAfter (R : RelayOutlet → RelayOutlet → Prop) : Prop where
  refl : ∀ o, R o o
  trans : ∀ {o o' o''}, R o o' → R o' o'' → R o o''
  relay : ∀ {o x}, x ≠ .stuck → R o { o with relay := x }

/-- The relation stands for every outlet between `s` and `t`. -/
def AllOutlets (R : RelayOutlet → RelayOutlet → Prop) (s t : State) : Prop :=
  ∀ n, R (relayOutlet s n) (relayOutlet t n)

namespace BeforeAfter

variable {R : RelayOutlet → RelayOutlet → Prop} (hR : BeforeAfter R) {s t : State} {n : Nat}
include hR

theorem rest : AllOutlets R s s := fun _ => hR.refl _

theorem set (h : AllOutlets R s t) {f : RelayOutlet → RelayOutlet} (hf : ∀ o, R o (f o)) :
    AllOutlets R s (setRelayOutlet n f t) := fun m => by
  refine hR.trans (h m) ?_
  rw [relayOutlet_setRelayOutlet_place]
  split
  · next hplace =>
    have hsame : relayOutlet t n = relayOutlet t m := by rw [relayOutlet, ← hplace.1, relayOutlet]
    rw [hsame]
    exact hf _
  · exact hR.refl _

/-- The relay state of an outlet changes, with any jobs waiting and any in the coil. -/
theorem setRelay (h : AllOutlets R s t) {x : RelayState} (hx : x ≠ .stuck) {q : List Job} {c : Option CoilJob} :
    AllOutlets R s (setRelayOutlet n (fun r => { r with relay := x })
      (t.withRelay { t.relay with queue := q, coil := c })) :=
  hR.set (t := t.withRelay { t.relay with queue := q, coil := c }) h fun _ => hR.relay hx

theorem coilTake (h : AllOutlets R s t) : AllOutlets R s (coilTake t) := by
  unfold Machine.coilTake
  split
  · exact hR.setRelay h (JobDir.working_ne_stuck _)
  · exact h

theorem queueJob (h : AllOutlets R s t) {d : JobDir} : AllOutlets R s (queueJob n d t) :=
  hR.coilTake (hR.setRelay h (JobDir.pending_ne_stuck d))

theorem turnBack (h : AllOutlets R s t) {b : RelayState} (hb : b ≠ .stuck) : AllOutlets R s (turnBack n b t) := by
  unfold Machine.turnBack
  split
  · exact h
  · split
    · exact hR.setRelay h hb
    · exact hR.setRelay h (JobDir.pending_ne_stuck _)

theorem compareDesired (h : AllOutlets R s t) : AllOutlets R s (compareDesired n t) := by
  unfold Machine.compareDesired
  split
  · exact hR.queueJob h
  · exact hR.queueJob h
  · exact hR.turnBack h (by decide)
  · exact hR.turnBack h (by decide)
  · exact h

theorem changeFlags (h : AllOutlets R s t) {f : RelayOutlet → RelayOutlet} (hf : ∀ o, R o (f o)) :
    AllOutlets R s (changeFlags n f t) := by
  unfold Machine.changeFlags
  split
  · exact hR.set h hf
  · exact hR.compareDesired (hR.set h hf)

theorem completeJob (h : AllOutlets R s t) {x : RelayState} (hx : x ≠ .stuck) : AllOutlets R s (completeJob n x t) :=
  hR.coilTake (hR.compareDesired (hR.setRelay h hx))

end BeforeAfter

/-- A change of flags that leaves the relay state makes no outlet STUCK (R129, R133). -/
theorem changeFlags_stuck {s : State} {n m : Nat} {f : RelayOutlet → RelayOutlet} (hf : ∀ r, (f r).relay = r.relay)
    (h : (relayOutlet (changeFlags n f s) m).relay = .stuck) : (relayOutlet s m).relay = .stuck := by
  have hnot : BeforeAfter fun o o' => o'.relay = .stuck → o.relay = .stuck :=
    ⟨fun _ => id, fun h g => h ∘ g, fun hx hstuck => absurd hstuck hx⟩
  exact hnot.changeFlags hnot.rest (fun o hstuck => hf o ▸ hstuck) m h

section

variable {s : State} {n m : Nat}

/-- The record of outlet `n` as the STUCK result leaves it, with the coil free (R138). -/
def stuckRecord (n : Nat) (s : State) : State :=
  setRelayOutlet n (fun r => { r with relay := .stuck })
    ((raise .relayFault (setRelayOutlet n (fun r => { r with shed := none }) s)).withRelay
      { (setRelayOutlet n (fun r => { r with shed := none }) s).relay with coil := none })

/-- A STUCK result before the Draw Reconciler is told of it (R138). -/
def stuckCompleted (n : Nat) (s : State) : State := coilTake (compareDesired n (stuckRecord n s))

theorem stuckResult_eq (n : Nat) (s : State) : stuckResult n s =
    if (relayOutlet s n).shed.isSome then recoverDeparture (relayOutlet s n).tenant (stuckCompleted n s)
    else stuckCompleted n s := rfl

theorem relayOutlet_stuckRecord_place : relayOutlet (stuckRecord n s) m =
    if m - 1 = n - 1 ∧ n - 1 < s.relay.outlets.length then { relayOutlet s n with relay := .stuck, shed := none }
    else relayOutlet s m := by
  obtain ⟨u, hu⟩ : ∃ u, u = setRelayOutlet n (fun r => { r with shed := none }) s := ⟨_, rfl⟩
  have hbefore (k : Nat) : relayOutlet ((raise .relayFault u).withRelay { u.relay with coil := none }) k =
      relayOutlet u k := rfl
  rw [stuckRecord, ← hu, relayOutlet_setRelayOutlet_place, hbefore, hbefore, hu, relayOutlet_setRelayOutlet_place,
    relayOutlet_setRelayOutlet_place]
  by_cases hplace : m - 1 = n - 1 ∧ n - 1 < s.relay.outlets.length
  · simp [hplace]
  · simp [hplace]

end

/-! ## The work of a close as shedding and restoring -/

namespace Switching

variable {s t : State} {id : Nat}

/-- An operation that leaves the blocks concerned. -/
theorem keep {u : State} (h : Switching s t) (htenants : tenantIds u = tenantIds t := by simp [tenantIds])
    (hrelay : u.relay = t.relay := by simp) (hloader : u.loader = t.loader := by simp)
    (hpending : u.restartPending = t.restartPending := by simp) : Switching s u :=
  h.frame hrelay hloader htenants hpending

/-- A move that leaves the Relay Driver. -/
theorem move {u : State} (h : Switching s t) (hm : Moves t u) (hrelay : u.relay = t.relay) : Switching s u :=
  h.frame hrelay hm.loader hm.tenantIds hm.restartPending

/-- Outlets that a round may shed are shed one after another (R117). -/
theorem shedOutlets (h : Switching s t) {l : List Nat} (hl : ∀ n ∈ l, Sheddable t n) :
    Switching s (l.foldl shedOutlet t) := by
  induction l generalizing t with
  | nil => exact h
  | cons n l ih =>
    have hm : Moves t (shedOutlet t n) := .changeFlags (.setShed .refl)
    refine ih (h.shed (hl n (.head _))) fun m hmem => ?_
    obtain ⟨hpresent, htenant, hcls, hlock, hrelay⟩ := hl m (.tail _ hmem)
    obtain ⟨htenant', hcls', hlock'⟩ : _ ∧ _ ∧ _ := by
      simpa only [RelayOutlet.fixed, Prod.mk.injEq] using hm.relayOutlet m
    refine ⟨?_, ?_, hcls' ▸ hcls, hlock' ▸ hlock, fun hstuck => hrelay ?_⟩
    · rwa [presentOutlets_congr (congrArg Loader.params hm.loader)]
    · rwa [htenant', hm.tenantIds]
    · exact changeFlags_stuck (f := fun r => { r with shed := some (meterOutlet t n).average }) (fun _ => rfl) hstuck

theorem shedRound (h : Switching s t) : Switching s (shedRound id t) := by
  unfold Machine.shedRound
  split
  · exact h
  · next r hr =>
    have hshed (x : Nat) : Switching s ((shedTaken t id x).foldl shedOutlet t) := by
      refine h.shedOutlets fun n hn => ?_
      obtain ⟨houtlet, hcandidate⟩ := mem_shedCandidates.mp (shedTaken_candidate hn)
      obtain ⟨hpresent, htenant⟩ := mem_tenantOutlets.mp houtlet
      simp only [shedCandidate, decide_eq_true_eq] at hcandidate
      obtain ⟨hcls, hon, hlock, -⟩ := hcandidate
      exact ⟨hpresent, mem_tenantIds.mpr ⟨r, findTenant_mem hr, (findTenant_id hr).trans htenant.symm⟩, hcls, hlock,
        by simp [hon]⟩
    simp only
    split_ifs
    · exact h
    · exact h
    · exact (hshed (share r)).keep
    · exact (hshed (share r)).keep

theorem restoreStep (h : Switching s t) : Switching s (restoreStep id t) := by
  unfold Machine.restoreStep
  split
  · next r n rest _ hcandidates =>
    split
    · have hmem : n ∈ Machine.shedOutlets t id := mem_restoreCandidates.mp (hcandidates ▸ .head _)
      exact (h.restore (mem_tenantOutlets.mp (mem_shedOutlets.mp hmem).1).1).keep
    · exact h
  · exact h

theorem runRound (h : Switching s t) : Switching s (runRound id t) :=
  h.shedRound.move (Moves.setTenant .refl) rfl

theorem applyStanding (h : Switching s t) {c : StandingCase} {r : Tenant} : Switching s (applyStanding c r t) := by
  by_cases hround : c.rounds = true
  · have hcurtail {u : State} (hu : Switching s u) : Switching s (Machine.runRound r.id (enterCurtail r.id 0 u)) :=
      (hu.move (Moves.enterCurtail .refl) (by simp)).runRound
    cases c
    case burst => exact hcurtail h
    case straightOn | graceEnd => exact hcurtail (h.move (Moves.setTenant .refl) rfl)
    case round => exact h.runRound
    all_goals cases hround
  · by_cases hrestore : c = .restoreAttempt
    · subst hrestore
      exact h.restoreStep.move (Moves.setTenant .refl) rfl
    · exact h.move (Moves.applyStanding .refl) (applyStanding_relay (by simpa using hround) hrestore)

theorem tenantFigures (h : Switching s t) : Switching s (tenantFigures id t) :=
  h.move (Moves.tenantFigures .refl) (by simp)

theorem tenantStanding (h : Switching s t) : Switching s (tenantStanding id t) := by
  unfold Machine.tenantStanding
  split
  · exact h
  · split
    · exact h
    · exact h.applyStanding

theorem tenantDeparture (h : Switching s t) : Switching s (tenantDeparture id t) :=
  h.move (Moves.tenantDeparture .refl) (by simp)

theorem evaluateTenant (h : Switching s t) : Switching s (evaluateTenant id t) := by
  unfold Machine.evaluateTenant
  split
  · exact h.tenantStanding.tenantDeparture
  · exact h.tenantStanding

theorem closeTenant (h : Switching s t) : Switching s (closeTenant t id) := h.tenantFigures.evaluateTenant

theorem endClose (h : Switching s t) : Switching s (endClose t) := h.keep

/-- A close in hand is finished by shedding and restoring (R77, R112). -/
theorem finishClose (h : Switching s t) : Switching s (finishClose t) := by
  unfold Machine.finishClose
  split
  · exact h
  · exact h.endClose
  · next stage id rest _ =>
    have hfirst : Switching s (finishTenant stage id t) := by
      cases stage
      · exact h.closeTenant
      · exact h.evaluateTenant
      · exact h.tenantDeparture
    exact endClose (List.foldlRecOn rest _ hfirst fun _ hu _ _ => hu.closeTenant)

theorem beginClose (h : Switching s t) : Switching s (beginClose t) := h.keep

theorem closePeriod (h : Switching s t) : Switching s (closePeriod t) := h.finishClose.beginClose.finishClose

/-- So is a part of it (log entry 26). -/
theorem workOn (h : Switching s t) : Switching s (workOn t) := by
  unfold Machine.workOn
  split
  · exact h
  · exact h.endClose
  · exact h.tenantFigures.frame rfl rfl rfl rfl
  · exact h.tenantStanding.frame rfl rfl rfl rfl
  · exact h.tenantDeparture.frame rfl rfl rfl rfl

end Switching

/-! ## What a close leaves of a held coil and of a STUCK outlet -/

/-- The coil holds this job. -/
def CoilHolds (c : CoilJob) (s : State) : Prop := s.relay.coil = some c

/-- Outlet `n` is STUCK, and no job waits for it (R133). -/
structure StuckAlone (n : Nat) (s : State) : Prop where
  relay : (relayOutlet s n).relay = .stuck
  jobs : ∀ j ∈ s.relay.queue, j.outlet - 1 ≠ n - 1

section

variable {s t : State} {n m : Nat} {c : CoilJob}

/-- A coil that is held takes no other job (R135). -/
theorem CoilHolds.coilTake (h : CoilHolds c s) : CoilHolds c (coilTake s) := by
  rwa [coilTake_rest s (.inr (.inl (by simp [show s.relay.coil = some c from h])))]

theorem CoilHolds.changeFlags (h : CoilHolds c s) {f : RelayOutlet → RelayOutlet} :
    CoilHolds c (changeFlags n f s) := by
  have hset : CoilHolds c (setRelayOutlet n f s) := h
  have hback {u : State} {b : RelayState} (hu : CoilHolds c u) : CoilHolds c (turnBack n b u) := by
    unfold turnBack
    split
    · exact hu
    · split <;> exact hu
  have hqueue {u : State} {d : JobDir} (hu : CoilHolds c u) : CoilHolds c (queueJob n d u) :=
    CoilHolds.coilTake (s := setRelayOutlet n _ (u.withRelay { u.relay with queue := _ })) hu
  unfold Machine.changeFlags
  split
  · exact hset
  · unfold compareDesired
    split
    · exact hqueue hset
    · exact hqueue hset
    · exact hback hset
    · exact hback hset
    · exact hset

/-- A close leaves the job that the coil holds (R112, R135). -/
theorem Switching.coil (h : Switching s t) (hs : CoilHolds c s) : CoilHolds c t := by
  induction h with
  | refl => exact hs
  | frame _ hrelay _ _ _ ih => rwa [CoilHolds, hrelay]
  | shed _ _ ih => exact ih.changeFlags
  | restore _ _ ih => exact ih.changeFlags

theorem StuckAlone.setOther (h : StuckAlone n s) (hm : m - 1 ≠ n - 1) {f : RelayOutlet → RelayOutlet} {q : List Job}
    {x : Option CoilJob} (hq : ∀ j ∈ q, j.outlet - 1 ≠ n - 1) :
    StuckAlone n (setRelayOutlet m f (s.withRelay { s.relay with queue := q, coil := x })) where
  relay := by
    rw [relayOutlet_setRelayOutlet_place, if_neg fun hplace => hm hplace.1.symm]
    exact h.relay
  jobs := hq

/-- The comparison leaves a STUCK outlet and queues no job for it (R133). -/
theorem StuckAlone.compareDesired (h : StuckAlone n s) : StuckAlone n (compareDesired m s) := by
  have hother {x : RelayState} (hx : (relayOutlet s m).relay = x) (hne : x ≠ .stuck) : m - 1 ≠ n - 1 := by
    intro hplace
    have hsame : relayOutlet s m = relayOutlet s n := by rw [relayOutlet, hplace, relayOutlet]
    exact hne (by rw [← hx, hsame, h.relay])
  have hqueue {d : JobDir} (hm : m - 1 ≠ n - 1) : StuckAlone n (queueJob m d s) := by
    have hq : ∀ j ∈ s.relay.queue ++ [⟨m, d, .change⟩], j.outlet - 1 ≠ n - 1 := by
      simpa [or_imp, forall_and] using ⟨h.jobs, hm⟩
    have hwaiting : StuckAlone n (setRelayOutlet m (fun r => { r with relay := d.pending })
        (s.withRelay { s.relay with queue := s.relay.queue ++ [⟨m, d, .change⟩] })) := h.setOther hm hq
    unfold queueJob Machine.coilTake
    split
    · next j rest _ _ hjobs =>
      have hjobs' : ∀ i ∈ j :: rest, i.outlet - 1 ≠ n - 1 := hjobs ▸ hq
      exact hwaiting.setOther (hjobs' j (.head _)) fun i hi => hjobs' i (.tail _ hi)
    · exact hwaiting
  have hback {b : RelayState} (hm : m - 1 ≠ n - 1) : StuckAlone n (turnBack m b s) := by
    unfold turnBack
    split
    · exact h
    · split
      · exact h.setOther hm fun j hj => h.jobs j (List.mem_of_mem_filter hj)
      · refine h.setOther hm fun j hj => ?_
        obtain ⟨i, hi, rfl⟩ := List.mem_map.mp hj
        split <;> exact h.jobs i hi
  unfold Machine.compareDesired
  split
  · next hx _ => exact hqueue (hother hx (by decide))
  · next hx _ => exact hqueue (hother hx (by decide))
  · next hx _ => exact hback (hother hx (by decide))
  · next hx _ => exact hback (hother hx (by decide))
  · exact h

theorem StuckAlone.changeFlags (h : StuckAlone n s) {f : RelayOutlet → RelayOutlet} (hf : ∀ r, (f r).relay = r.relay) :
    StuckAlone n (changeFlags m f s) := by
  have hset : StuckAlone n (setRelayOutlet m f s) := by
    refine ⟨?_, h.jobs⟩
    rw [relayOutlet_of_map (g := RelayOutlet.relay) (setRelayOutlet_map m s hf) n]
    exact h.relay
  unfold Machine.changeFlags
  split
  · exact hset
  · exact hset.compareDesired

/-- A close leaves a STUCK outlet as it is: its rounds take outlets in ON, and a restore of its flag queues nothing
(R115, R133). -/
theorem Switching.stuck (h : Switching s t) (hs : StuckAlone n s) : StuckAlone n t := by
  induction h with
  | refl => exact hs
  | frame _ hrelay _ _ _ ih =>
    obtain ⟨hstuck, hjobs⟩ := ih
    exact ⟨by rwa [relayOutlet, hrelay], by rwa [hrelay]⟩
  | shed _ _ ih => exact ih.changeFlags fun _ => rfl
  | restore _ _ ih => exact ih.changeFlags fun _ => rfl

theorem finishClose_holds (h : s.relay.coil = some c) : (finishClose s).relay.coil = some c :=
  (Switching.finishClose .refl).coil h

/-- For a STUCK outlet no job waits (R134). -/
theorem RelayRule.stuckAlone (h : RelayRule s) (hn : 1 ≤ n) (hstuck : (relayOutlet s n).relay = .stuck) :
    StuckAlone n s := by
  refine ⟨hstuck, fun j hj hplace => ?_⟩
  obtain ⟨hlow, -, hpending⟩ := h.queued j hj
  obtain rfl : j.outlet = n := by omega
  rw [hstuck] at hpending
  cases hd : j.dir <;> simp [hd, JobDir.pending] at hpending

end

end Sys2Proof.Machine
end

section
/-! SUPPORT. A predicate on the switching records, the jobs and the coil that their own operations keep, every command
outside resets and installations keeps. -/

namespace Sys2Proof.Machine

/-- A change of flags that sets no shed flag, and locks no outlet that stays shed (R126, R139). -/
structure FlagsEased (r r' : RelayOutlet) : Prop where
  tenant : r'.tenant = r.tenant
  cls : r'.cls = r.cls
  relay : r'.relay = r.relay
  shed : r'.shed ≠ none → r'.shed = r.shed
  lock : r'.shed ≠ none → r.lock = false → r'.lock = false

/-- A predicate that each of the operations keeps by which closes and commands reach the Relay Driver. -/
structure RelayInvariant (P : State → Prop) : Prop where
  /-- It speaks of the Relay Driver, the Image Loader and the tenants' ids alone, and of a restart not being pending. -/
  frame : ∀ {s t : State}, P s → t.relay = s.relay → t.loader = s.loader → tenantIds t = tenantIds s →
    (t.restartPending = false → s.restartPending = false) → P t
  /-- A round sheds an outlet (R117). -/
  shed : ∀ {s : State} {n : Nat}, P s → Sheddable s n → P (shedOutlet s n)
  /-- An outlet is restored, locked or unlocked (R126, R139). -/
  flags : ∀ {s : State} {n : Nat} {f : RelayOutlet → RelayOutlet}, P s → n ∈ presentOutlets s →
    (∀ r, FlagsEased r (f r)) → P (changeFlags n f s)
  /-- A STUCK outlet is cleared (R141). -/
  clearStuck : ∀ {s : State} {n : Nat}, P s → n ∈ presentOutlets s → (relayOutlet s n).relay = .stuck →
    P (clearStuck n (finishClose s))
  /-- The coil goes on (R135 to R138). -/
  pulse : ∀ {s : State}, P s → P (pulseEnds s)
  settle : ∀ {s : State}, P s → P (settleEnds s)
  sample : ∀ {s : State} (f : Nat → Option Nat), P s → P (takeVerifySample f s)
  verify : ∀ {s : State}, P s → P (verifyOpen s)

theorem keeps_ite {P : State → Prop} {s t : State} {p : Prop} [Decidable p] (hs : P s) (ht : P t) :
    P (if p then t else s) := by
  split
  · exact ht
  · exact hs

/-- The outlet that an argument names is present, and stays so through a close (R162). -/
theorem mem_of_outletArg {s : State} {arg : List Byte} {n : Nat} (h : outletArg s arg = some n) :
    n ∈ presentOutlets s ∧ n ∈ presentOutlets (finishClose s) := by
  have hn : n ∈ presentOutlets s := by
    obtain ⟨-, hpresent⟩ := Option.filter_eq_some_iff.mp h
    simpa [mem_presentOutlets, present] using hpresent
  exact ⟨hn, by rwa [presentOutlets_congr (s := s) (by simp)]⟩

namespace RelayInvariant

variable {P : State → Prop} (hP : RelayInvariant P) {s t : State}
include hP

theorem congr (h : P s) (hrelay : t.relay = s.relay := by simp) (hloader : t.loader = s.loader := by simp)
    (htenants : t.recon.tenants = s.recon.tenants := by simp)
    (hpending : t.restartPending = s.restartPending := by simp) : P t :=
  hP.frame h hrelay hloader (by rw [tenantIds, htenants, tenantIds]) fun hp => hpending ▸ hp

/-! ## The period close -/

theorem switching (h : Switching s t) (hs : P s) : P t := by
  induction h with
  | refl => exact hs
  | frame _ hrelay hloader htenants hpending ih => exact hP.frame ih hrelay hloader htenants fun hp => hpending ▸ hp
  | shed _ hn ih => exact hP.shed ih hn
  | restore _ hn ih => exact hP.flags ih hn fun _ => ⟨rfl, rfl, rfl, fun h => absurd rfl h, fun h => absurd rfl h⟩

theorem finishClose (h : P s) : P (finishClose s) := hP.switching (.finishClose .refl) h

theorem closePeriod (h : P s) : P (closePeriod s) := hP.switching (.closePeriod .refl) h

/-! ## The commands of the gateway -/

theorem recoverDeparture (h : P s) {id : Nat} : P (recoverDeparture id s) := by
  have hmoves : Moves s (Machine.recoverDeparture id s) := Moves.recoverDeparture .refl
  exact hP.frame h (by simp) (by simp) hmoves.tenantIds fun hp => by simpa using hp

theorem lockOutlet (h : P s) {n : Nat} (hn : n ∈ presentOutlets s) : P (lockOutlet n s) := by
  have hflags : P (changeFlags n (fun r => { r with lock := true, shed := none }) s) :=
    hP.flags h hn fun _ => ⟨rfl, rfl, rfl, fun h => absurd rfl h, fun h => absurd rfl h⟩
  simp only [Machine.lockOutlet]
  split
  · exact hP.recoverDeparture hflags
  · exact hflags

theorem unlockOutlet (h : P s) {n : Nat} (hn : n ∈ presentOutlets s) : P (unlockOutlet n s) :=
  hP.flags h hn fun _ => ⟨rfl, rfl, rfl, fun _ => rfl, fun _ _ => rfl⟩

theorem commandEffect (h : P s) (code : Byte) (arg : List Byte) : P (commandEffect code arg s) := by
  have hfinished := hP.finishClose h
  unfold Machine.commandEffect
  split
  · unfold queryStatusEffect
    split
    · exact hP.congr hfinished
    · exact hP.congr h
  · unfold queryOutletEffect
    split
    · exact hP.congr hfinished
    · exact hP.congr h
  · unfold lockOffEffect
    split
    · exact hP.congr h
    · next n hn =>
      split
      · exact hP.congr h
      · exact hP.congr (hP.lockOutlet hfinished (mem_of_outletArg hn).2)
  · unfold unlockEffect
    split
    · exact hP.congr h
    · next n hn => exact hP.congr (hP.unlockOutlet hfinished (mem_of_outletArg hn).2)
  · unfold clearFaultEffect
    split
    · exact hP.congr h
    · next n hn =>
      split
      · next hstuck => exact hP.congr (hP.clearStuck h (mem_of_outletArg hn).1 hstuck)
      · exact hP.congr h
  · exact hP.congr h
  · exact hP.congr h
  · exact hP.congr h
  · unfold restartEffect
    split
    · exact hP.frame h (by simp) (by simp) (by simp [tenantIds]) nofun
    · exact hP.congr h
  · exact hP.congr h

theorem receiveCommand (h : P s) (code : Byte) (arg : List Byte) :
    P (receiveCommand arg (Machine.commandEffect code arg) s) := by
  unfold Machine.receiveCommand
  split_ifs
  · exact h
  · exact hP.congr h
  · exact hP.commandEffect h code arg

/-! ## The roster, frames, characters and ticks -/

theorem settleRoster (h : P s) : P (settleRoster s) :=
  hP.frame h (by simp) (by simp) (tenantIds_of_standings (standings_settleRoster s)) fun hp => by simpa using hp

theorem deliverByKind (h : P s) (b : List Byte) : P (deliverByKind b s) := by
  unfold Machine.deliverByKind
  split
  · unfold deliverReport
    split_ifs
    · exact hP.congr h
    · exact h
    · exact h
    · exact hP.frame h (by simp) (by simp) (tenantIds_of_standings (standings_takeReport ..))
        fun hp => by simpa using hp
  · unfold deliverCommand
    split
    · exact keeps_ite h (hP.receiveCommand h ..)
    · exact h
  · exact h

theorem deliverFrame (h : P s) (b : List Byte) : P (deliverFrame b s) := by
  have hsettled : P (settleForReport b s) := keeps_ite h (hP.settleRoster (hP.finishClose h))
  have hadopted : P (adoptRate (hearFrame (settleForReport b s))) := hP.congr hsettled
  have hheard : P (hearFrame (settleForReport b s)) := hP.congr hsettled
  simp only [Machine.deliverFrame]
  split
  · exact hP.congr (hP.deliverByKind hadopted b)
  · exact hP.deliverByKind hheard b

theorem completeFrame (h : P s) : P (completeFrame s) := by
  unfold Machine.completeFrame
  split
  · exact h
  · have hjudged : P (s.withLink { s.link with assembler := .waitQuiet }) := hP.congr h
    simp only
    split
    · exact hP.deliverFrame hjudged _
    · exact hjudged

theorem takeCharacter (h : P s) (levels : BitVec 11) : P (takeCharacter levels s) := by
  unfold Machine.takeCharacter
  split
  · exact hP.congr (hP.completeFrame h)
  · exact h

theorem startRead (h : P s) : P (startRead s) := by
  have hsettled : P (Machine.settleRoster (verifyOpen (Machine.finishClose s))) :=
    hP.settleRoster (hP.verify (hP.finishClose h))
  have hdue : P (takeDueWork s) := by
    simp only [takeDueWork]
    split
    · exact hP.closePeriod hsettled
    · exact hsettled
  exact (hP.congr hdue : P ((takeDueWork s).withMeter { (takeDueWork s).meter with reading := some 1 }))

theorem applyFrame (h : P s) (c : Nat) (f : List Byte) : P (applyFrame c f s) :=
  hP.sample _ (hP.congr h)

/-! ## Every command -/

/-- Every command that does not reach the Image Loader keeps the predicate. -/
theorem exec {c : Instr} (h : P s) (hexec : exec c s = .next t) (hc : loads c = false) : P t := by
  cases c
  case powerOnReset | restartReset | holdEnd | imageReadComplete => simp [loads] at hc
  all_goals obtain rfl := Host.Outcome.next.inj hexec
  case tick => exact keeps_ite h (hP.startRead h)
  case captureCompletion f =>
    split
    · exact h
    · next c _ =>
      split
      · exact hP.congr (hP.applyFrame h c (capturedBytes f))
      · exact hP.congr h
  case stationExpiry n =>
    exact keeps_ite h (hP.frame h (by simp) (by simp) (tenantIds_of_standings (standings_expireStation n s))
      fun hp => by simpa using hp)
  case periodClose | graceExpiry | settleExpiry | restoreCounterExpiry | checkCountdownExpiry =>
    exact keeps_ite h (hP.closePeriod h)
  case character levels => exact hP.takeCharacter h levels
  case searchOnCharacterErrors levels => exact keeps_ite h (hP.takeCharacter h levels)
  case assemblerArmed => exact keeps_ite h (hP.congr (hP.completeFrame h))
  case frameCompletion => exact hP.completeFrame h
  case queryStatus arg => exact hP.receiveCommand h 1 arg
  case queryOutlet arg => exact hP.receiveCommand h 2 arg
  case lockOff arg => exact hP.receiveCommand h 3 arg
  case unlock arg => exact hP.receiveCommand h 4 arg
  case clearFault arg => exact hP.receiveCommand h 5 arg
  case ackEvents arg => exact hP.receiveCommand h 6 arg
  case endAlert arg => exact hP.receiveCommand h 7 arg
  case fetchRecord arg => exact hP.receiveCommand h 8 arg
  case restart arg => exact hP.receiveCommand h 9 arg
  case invalidCommand code arg => exact hP.receiveCommand h code arg
  case attemptStart => exact keeps_ite h (hP.congr (hP.completeFrame h))
  case pulseEnd => exact hP.pulse h
  case settleEnd => exact keeps_ite h (hP.settle (hP.finishClose h))
  case openVerify => exact keeps_ite h (hP.verify (hP.finishClose h))
  all_goals (repeat' split) <;> exact hP.congr h

theorem idle (h : P s) : P (idle s) := by
  unfold Machine.idle
  split_ifs
  · exact hP.completeFrame h
  · exact hP.switching (.workOn .refl) h
  · exact hP.verify h
  · simp only [beginDueWork]
    split
    · exact hP.switching (.beginClose .refl) (hP.settleRoster h)
    · exact hP.settleRoster h
  · exact hP.congr h
  · exact hP.congr h
  · exact h

end RelayInvariant

end Sys2Proof.Machine
end

section
/-! PROOF. O10: every step keeps the shed flag off protected, locked, STUCK, unassigned and absent outlets. A round sets
the flag of candidates alone; whatever else reaches a switching record sets no shed flag, and makes no outlet that keeps
one locked or STUCK (R115, R117, R138, R139, R145). -/

namespace Sys2Proof.Machine

/-- Where the record `o'` carries the shed flag, `o` did so before, with the same tenant and class, and the outlet has
not been locked and has not become STUCK (R140). -/
def ShedAsBefore (o o' : RelayOutlet) : Prop :=
  o'.shed ≠ none → o.shed ≠ none ∧ o'.tenant = o.tenant ∧ o'.cls = o.cls ∧ (o.lock = false → o'.lock = false) ∧
    (o'.relay = .stuck → o.relay = .stuck)

theorem shedAsBefore : BeforeAfter ShedAsBefore where
  refl o h := ⟨h, rfl, rfl, id, id⟩
  trans h g hshed := by
    obtain ⟨hshed', htenant, hcls, hlock, hrelay⟩ := g hshed
    obtain ⟨hshed'', htenant', hcls', hlock', hrelay'⟩ := h hshed'
    exact ⟨hshed'', htenant.trans htenant', hcls.trans hcls', hlock ∘ hlock', hrelay' ∘ hrelay⟩
  relay hx h := ⟨h, rfl, rfl, id, fun hstuck => absurd hstuck hx⟩

/-- A record whose shed flag is cleared. -/
theorem ShedAsBefore.of_clear {o o' : RelayOutlet} (h : o'.shed = none) : ShedAsBefore o o' :=
  fun hshed => absurd h hshed

theorem FlagsEased.shedAsBefore {o o' : RelayOutlet} (h : FlagsEased o o') : ShedAsBefore o o' := fun hshed =>
  ⟨h.shed hshed ▸ hshed, h.tenant, h.cls, h.lock hshed, fun hstuck => h.relay ▸ hstuck⟩

/-- An outlet that becomes STUCK has lost its shed flag (R138). -/
theorem stuckCompleted_asBefore (n : Nat) (s : State) : AllOutlets ShedAsBefore s (stuckCompleted n s) := by
  have hstuck : AllOutlets ShedAsBefore s (stuckRecord n s) := fun m => by
    rw [relayOutlet_stuckRecord_place]
    split
    · exact .of_clear rfl
    · exact shedAsBefore.refl _
  exact shedAsBefore.coilTake (shedAsBefore.compareDesired hstuck)

namespace ShedRule

variable {s t : State} {n : Nat}

/-! ## What reaches a switching record -/

/-- The rule speaks of the outlets that carry the shed flag, of what an image says of them, and of the tenants' ids. -/
theorem of_asBefore (h : ShedRule s) (houtlets : AllOutlets ShedAsBefore s t) (hloader : t.loader = s.loader)
    (htenants : tenantIds t = tenantIds s) : ShedRule t where
  shed m hm hshed := by
    obtain ⟨hbefore, htenant, hcls, hlock, hrelay⟩ := houtlets m hshed
    obtain ⟨hclass, hunlocked, hfree, hassigned, hpresent⟩ := h.shed m hm hbefore
    refine ⟨hcls ▸ hclass, hlock hunlocked, hfree ∘ hrelay, htenant ▸ hassigned, ?_⟩
    simpa only [present, hloader] using hpresent
  tenants u hu := by
    obtain ⟨v, hv, hid⟩ := mem_tenantIds.mp (htenants ▸ mem_tenantIds.mpr ⟨u, hu, rfl⟩)
    exact hid ▸ h.tenants v hv

theorem of_frame (h : ShedRule s) (hrelay : t.relay = s.relay) (hloader : t.loader = s.loader)
    (htenants : tenantIds t = tenantIds s) : ShedRule t :=
  h.of_asBefore (fun m => by rw [relayOutlet, relayOutlet, hrelay]; exact shedAsBefore.refl _) hloader htenants

/-- An outlet that a round may shed is present, belongs to a tenant, and is neither protected, locked nor STUCK
(R115). -/
theorem shedOutlet (h : ShedRule s) (hn : Sheddable s n) : ShedRule (shedOutlet s n) := by
  obtain ⟨hpresent, htenant, hcls, hlock, hrelay⟩ := hn
  have hin := mem_presentOutlets.mp hpresent
  obtain ⟨u, hu, hid⟩ := mem_tenantIds.mp htenant
  have hset : ShedRule (setRelayOutlet n (fun r => { r with shed := some (meterOutlet s n).average }) s) := by
    refine ⟨fun m hm hshed => ?_, h.tenants⟩
    rw [relayOutlet_setRelayOutlet n m _ s hin.1 hm] at hshed ⊢
    split
    · next hplace => exact ⟨hcls, hlock, hrelay, hid ▸ h.tenants u hu, fun _ => by simpa [present, hplace.1] using hin⟩
    · next hplace =>
      rw [if_neg hplace] at hshed
      exact h.shed m hm hshed
  unfold Machine.shedOutlet changeFlags
  split
  · exact hset
  · exact hset.of_asBefore (shedAsBefore.compareDesired shedAsBefore.rest) (by simp) (by simp [tenantIds])

theorem recoverDeparture (h : ShedRule s) {id : Nat} : ShedRule (recoverDeparture id s) := by
  have hmoves : Moves s (Machine.recoverDeparture id s) := .recoverDeparture .refl
  exact h.of_frame (by simp) (by simp) hmoves.tenantIds

theorem pulseEnds (h : ShedRule s) : ShedRule (pulseEnds s) := by
  unfold Machine.pulseEnds
  split
  · exact h.of_asBefore shedAsBefore.rest rfl rfl
  · exact h

theorem settleEnds (h : ShedRule s) : ShedRule (settleEnds s) := by
  unfold Machine.settleEnds
  split
  · split
    · exact h.of_asBefore (shedAsBefore.completeJob shedAsBefore.rest (by decide)) (by simp) (by simp [tenantIds])
    · exact h.of_asBefore shedAsBefore.rest rfl rfl
  · exact h

theorem takeVerifySample (h : ShedRule s) (f : Nat → Option Nat) : ShedRule (takeVerifySample f s) := by
  unfold Machine.takeVerifySample
  split
  · exact h.of_asBefore shedAsBefore.rest rfl rfl
  · exact h

theorem verifyOpen (h : ShedRule s) : ShedRule (verifyOpen s) := by
  unfold Machine.verifyOpen
  split
  · next j x _ =>
    split
    · exact h.of_asBefore (shedAsBefore.completeJob shedAsBefore.rest (by decide)) (by simp) (by simp [tenantIds])
    · have hcompleted : ShedRule (stuckCompleted j.outlet s) :=
        h.of_asBefore (stuckCompleted_asBefore _ _) (by simp [stuckCompleted, stuckRecord])
          (by simp [tenantIds, stuckCompleted, stuckRecord])
      rw [stuckResult_eq]
      split
      · exact hcompleted.recoverDeparture
      · exact hcompleted
  · exact h

/-- A close keeps the rule (R115, R126). -/
theorem switching (h : ShedRule s) (hswitching : Switching s t) : ShedRule t := by
  induction hswitching with
  | refl => exact h
  | frame _ hrelay hloader htenants _ ih => exact ih.of_frame hrelay hloader htenants
  | shed _ hn ih => exact ih.shedOutlet hn
  | restore _ _ ih =>
    exact ih.of_asBefore (shedAsBefore.changeFlags shedAsBefore.rest fun _ => .of_clear rfl) (by simp [restoreOutlet])
      (by simp [tenantIds, restoreOutlet])

theorem invariant : RelayInvariant ShedRule where
  frame h hrelay hloader htenants _ := h.of_frame hrelay hloader htenants
  shed h hn := h.shedOutlet hn
  flags h _ hf := h.of_asBefore (shedAsBefore.changeFlags shedAsBefore.rest fun o => (hf o).shedAsBefore) (by simp)
    (by simp [tenantIds])
  clearStuck h _ _ := (h.switching (.finishClose .refl)).of_asBefore
    (shedAsBefore.compareDesired (shedAsBefore.set shedAsBefore.rest fun _ => shedAsBefore.relay (by decide)))
    (by simp) (by simp [tenantIds])
  pulse h := h.pulseEnds
  settle h := h.settleEnds
  sample f h := h.takeVerifySample f
  verify h := h.verifyOpen

/-! ## Resets and installations -/

/-- Without an installed image no outlet is present, and the rule asks for none to be (R11). -/
theorem of_uninstalled (h : ShedRule s) (houtlets : AllOutlets ShedAsBefore s t) (hload : t.loader.load ≠ .installed)
    (htenants : ∀ u ∈ t.recon.tenants, u.id ≠ 0) : ShedRule t where
  shed m hm hshed := by
    obtain ⟨hbefore, htenant, hcls, hlock, hrelay⟩ := houtlets m hshed
    obtain ⟨hclass, hunlocked, hfree, hassigned, -⟩ := h.shed m hm hbefore
    exact ⟨hcls ▸ hclass, hlock hunlocked, hfree ∘ hrelay, htenant ▸ hassigned, fun h => absurd h hload⟩
  tenants := htenants

/-- After a reset no outlet is shed (R142). -/
theorem asBefore_reset (hrelay : t.relay = RelayDriver.reset) : AllOutlets ShedAsBefore s t := fun m =>
  .of_clear (by rw [relayOutlet_reset hrelay]; rfl)

/-- Discarding the queued jobs makes no outlet STUCK (R144). -/
theorem asBefore_discardJobs : AllOutlets ShedAsBefore s (discardJobs s) := by
  have hstate (j : Job) : stateBeforeJob j ≠ .stuck := by
    unfold stateBeforeJob
    split <;> decide
  exact List.foldlRecOn s.relay.queue undoJob shedAsBefore.rest (motive := AllOutlets ShedAsBefore s) fun _ hu j _ =>
    shedAsBefore.set hu fun _ => shedAsBefore.relay (hstate j)

theorem restartStation (h : ShedRule s) (straps : BitVec 4) : ShedRule (restartStation straps s) :=
  h.of_uninstalled asBefore_discardJobs (fun hload => nomatch hload) (fun _ hu => nomatch hu)

/-- The tenants of an accepted image are not tenant 0 (R172). -/
theorem imageTenantRecords_ne_zero {im : List Byte} (h : imageAccepted im = true) :
    ∀ u ∈ imageTenantRecords im, u.id ≠ 0 := by
  have hzero : 0 ∉ imageTenantIds im := by
    simp only [imageAccepted, Bool.and_eq_true] at h
    obtain ⟨⟨⟨-, hzero⟩, -⟩, -⟩ := h
    simpa using hzero
  intro u hu hid
  obtain ⟨i, hi, rfl⟩ := List.mem_map.mp hu
  exact hzero (List.mem_map.mpr ⟨i, hi, hid⟩)

/-- An installation after a power-on reset sheds no outlet (R143). -/
theorem installPowerOn (im : List Byte) (htenants : ∀ u ∈ s.recon.tenants, u.id ≠ 0) :
    ShedRule (installPowerOn im s) := by
  have hclear : ShedRule (s.withRelay
      { outlets := outletNumbers.map fun n => if present s n then startOutlet im n else RelayOutlet.blank
        queue := (presentOutlets s).map (startJob im)
        coil := none }) := by
    refine ⟨fun m hm hshed => absurd ?_ hshed, htenants⟩
    rw [relayOutlet, withRelay_relay, getD_outletNumbers _ hm]
    split_ifs <;> rfl
  exact hclear.of_asBefore (shedAsBefore.coilTake shedAsBefore.rest) (coilTake_loader _)
    (by rw [installPowerOn_onlyRelay]; rfl)

/-- An installation after a restart reset keeps the shed flag where the tenant is the same and the new class is not 0
(R145). -/
theorem installRestart (h : ShedRule s) {im : List Byte} (haccepted : imageAccepted im = true) :
    ShedRule (installRestart im (installing im s)) := by
  obtain ⟨-, -, hcount⟩ := imageAccepted_ranges haccepted
  have hkept : ShedRule (withKeptOutlets im (installing im s)) := by
    refine ⟨fun m hm hshed => ?_, h.tenants⟩
    rw [relayOutlet_withKeptOutlets hcount hm] at hshed ⊢
    split at hshed
    · next hin =>
      rw [if_pos hin]
      simp only [keptOutlet] at hshed ⊢
      split at hshed
      · next hsame =>
        obtain ⟨htenant, hcls⟩ := hsame
        obtain ⟨-, hlock, hrelay, hassigned, -⟩ := h.shed m hm hshed
        exact ⟨hcls, hlock, hrelay, htenant ▸ hassigned, fun _ => by simpa [present] using ⟨hm, hin⟩⟩
      · exact absurd rfl hshed
    · exact absurd rfl hshed
  have hcompared : AllOutlets ShedAsBefore (withKeptOutlets im (installing im s))
      (Machine.installRestart im (installing im s)) := by
    rw [installRestart_eq]
    refine List.foldlRecOn _ _ shedAsBefore.rest fun u hu n _ => ?_
    unfold compareSettled
    split
    · exact shedAsBefore.compareDesired hu
    · exact hu
  refine hkept.of_asBefore hcompared ?_ ?_ <;> rw [installRestart_onlyRelay] <;> rfl

/-- An accepted image gives the tenants ids other than 0, and its outlets keep the shed flag where they may (R145,
R172). -/
theorem install (h : ShedRule s) {im : List Byte} (haccepted : imageAccepted im = true) : ShedRule (install im s) := by
  have htenants (u : State) : ∀ r ∈ (imageTenantRecords im).map (startStanding u), r.id ≠ 0 := by
    intro r hr
    obtain ⟨v, hv, rfl⟩ := List.mem_map.mp hr
    have hid : (startStanding u v).id = v.id := by
      unfold startStanding
      split <;> rfl
    exact hid ▸ imageTenantRecords_ne_zero haccepted v hv
  have hreconciled {u : State} (hu : ShedRule u) : ShedRule (enterSearch (u.withRecon
      ⟨(imageTenantRecords im).map (startStanding u), (imageParams im).expire, true⟩)) := by
    have hrecon : ShedRule (u.withRecon
        ⟨(imageTenantRecords im).map (startStanding u), (imageParams im).expire, true⟩) := ⟨hu.shed, htenants u⟩
    exact hrecon.of_frame (by simp) (by simp) (by simp [tenantIds])
  cases hrestart : s.loader.afterRestart
  · have hinstall : Machine.install im s = enterSearch ((Machine.installPowerOn im (installing im s)).withRecon
        ⟨(imageTenantRecords im).map (startStanding (Machine.installPowerOn im (installing im s))),
          (imageParams im).expire, true⟩) := by
      rw [installing]
      simp [Machine.install, hrestart]
    rw [hinstall]
    exact hreconciled (installPowerOn im h.tenants)
  · rw [install_restart hrestart]
    exact hreconciled (h.installRestart haccepted)

/-- A reset and a rejection leave no outlet shed or none present; an installation keeps the flags that it may. -/
theorem exec_loads {c : Instr} (h : ShedRule s) (hexec : exec c s = .next t) (hc : loads c = true) : ShedRule t := by
  cases c
  case powerOnReset =>
    obtain rfl := Host.Outcome.next.inj hexec
    exact h.of_uninstalled (asBefore_reset rfl) (fun hload => nomatch hload) (fun _ hu => nomatch hu)
  case restartReset straps =>
    obtain rfl := Host.Outcome.next.inj hexec
    exact keeps_ite h ((invariant.finishClose h).restartStation straps)
  case holdEnd straps =>
    obtain rfl := Host.Outcome.next.inj hexec
    exact keeps_ite h (h.of_uninstalled shedAsBefore.rest (fun hload => nomatch hload) h.tenants)
  case imageReadComplete im =>
    obtain rfl := Host.Outcome.next.inj hexec
    split
    · split
      · next haccepted => exact h.install haccepted
      · exact h.of_uninstalled (asBefore_reset (by simp [reject])) (by simp [reject])
          (by simpa [reject] using h.tenants)
    · exact h
  all_goals simp [loads] at hc

end ShedRule

/-- Settles O10: a round sheds candidates alone, every other operation sets no shed flag, and an installation keeps the
flag of an outlet only where it may be shed (R115, R140, R145). -/
theorem stepKeepsShedRule : Obligations.StepKeepsShedRule := by
  intro s t _ h hstep
  rcases step_cases hstep with ⟨-, rfl⟩ | ⟨c, rest, -, hexec⟩
  · exact ShedRule.invariant.idle h
  · have hqueued : ShedRule (s.withPending rest) := h.of_frame rfl rfl rfl
    cases hc : loads c
    · exact ShedRule.invariant.exec hqueued hexec hc
    · exact hqueued.exec_loads hexec hc

end Sys2Proof.Machine
end

section
/-! SUPPORT. What the Relay Driver does about one outlet: the job that a comparison queues or takes back, and the coil
that has become free (R129 to R136). -/

namespace Sys2Proof.Machine

/-! ## The comparison of a desired state -/

/-- The relay state that a job brings about (R136, R138). -/
def JobDir.settled : JobDir → RelayState
  | .toOpen => .off
  | .toClose => .on

/-- The direction that a desired state calls for (R129). -/
def JobDir.wanted (heldOff : Bool) : JobDir := if heldOff then .toOpen else .toClose

section

variable {s t : State} {n : Nat} {d : JobDir}

/-- The comparison acts on an outlet that is settled, or waits for a job, the other way (R130 to R133). -/
theorem compareDesired_eq (hd : JobDir.wanted (relayOutlet s n).heldOff = d) : compareDesired n s =
    if (relayOutlet s n).relay = d.flip.settled then queueJob n d s
    else if (relayOutlet s n).relay = d.flip.pending then turnBack n d.settled s else s := by
  subst hd
  unfold compareDesired
  cases hheld : (relayOutlet s n).heldOff <;> cases hrelay : (relayOutlet s n).relay <;> rfl

/-- An outlet that is settled the other way gets its job (R130). -/
theorem compareDesired_opposed (hd : JobDir.wanted (relayOutlet s n).heldOff = d)
    (h : (relayOutlet s n).relay = d.flip.settled) : compareDesired n s = queueJob n d s := by
  rw [compareDesired_eq hd, if_pos h]

/-- An outlet that is settled as its desired state asks, and one that is STUCK, gets none (R133). -/
theorem compareDesired_agrees (hd : JobDir.wanted (relayOutlet s n).heldOff = d)
    (h : (relayOutlet s n).relay = d.settled ∨ (relayOutlet s n).relay = .stuck) : compareDesired n s = s := by
  rw [compareDesired_eq hd]
  rcases h with h | h <;> rw [h] <;> cases d <;> rfl

theorem queueJob_queued (hserves : CoilServes s) (hn : 1 ≤ n) (hlength : n ≤ s.relay.outlets.length) (d : JobDir) :
    JobQueued n d s (queueJob n d s) := by
  have hwaiting := relayOutlet_setRelayOutlet n n (fun r => { r with relay := d.pending })
    (s.withRelay { s.relay with queue := s.relay.queue ++ [⟨n, d, .change⟩] }) hn hn
  unfold JobQueued
  split
  · next hfree =>
    obtain ⟨hcoil, hpending⟩ := hfree
    rw [queueJob, coilTake_head _ ⟨n, d, .change⟩ [] (by simpa using hpending) (by simpa [setRelayOutlet] using hcoil)
      (by simp [setRelayOutlet, hserves hcoil hpending])]
    refine ⟨rfl, rfl, ?_⟩
    rw [relayOutlet_setRelayOutlet _ _ _ _ hn hn, if_pos (by simpa using hlength)]
  · next hbusy =>
    rw [queueJob, coilTake_rest _ (by
      cases hpending : s.restartPending
      · exact .inr (.inl fun hcoil => hbusy ⟨hcoil, hpending⟩)
      · exact .inl hpending), hwaiting, if_pos ⟨rfl, hlength⟩]
    exact ⟨rfl, rfl, rfl⟩

/-- The one job that waits for an outlet in a pending state (R134). -/
theorem RelayRule.waitingJob (h : RelayRule s) (hn : 1 ≤ n) (hlast : n ≤ 24)
    (hpending : (relayOutlet s n).relay = d.pending) :
    ∃ j ∈ s.relay.queue, j.outlet = n ∧ j.dir = d ∧ ∀ k ∈ s.relay.queue, k.outlet = n → k = j := by
  obtain ⟨j, hj, hout⟩ := h.pendingHasJob n d hn hlast hpending
  have hjobs := h.jobsAgree hn hlast
  refine ⟨j, hj, hout, ?_, fun k hk hkout => hjobs.single k j hk hj hkout hout⟩
  have hdirection := hjobs.direction j hj hout
  rw [hpending] at hdirection
  cases d <;> cases hdir : j.dir <;> simp [hdir, JobDir.pending] at hdirection ⊢

/-- What has become of the waiting job of an outlet whose desired state turns so that a job of direction `d` is no
longer to be undone: a CHANGE job is removed, a START job is reversed (R131, R132). -/
def JobTakenBack (n : Nat) (d : JobDir) (s t : State) : Prop :=
  if ∃ j ∈ s.relay.queue, j.outlet = n ∧ j.origin = .start then
    (relayOutlet t n).relay = d.pending ∧ t.relay.coil = s.relay.coil ∧
      t.relay.queue = s.relay.queue.map fun j => if j.outlet = n then ⟨n, d, .start⟩ else j
  else
    (relayOutlet t n).relay = d.settled ∧ t.relay.coil = s.relay.coil ∧
      t.relay.queue = s.relay.queue.filter fun j => j.outlet != n

theorem turnBack_takenBack (hn : 1 ≤ n) (hlength : n ≤ s.relay.outlets.length) {j : Job} (hj : j ∈ s.relay.queue)
    (hout : j.outlet = n) (hdir : j.dir = d.flip) (hone : ∀ k ∈ s.relay.queue, k.outlet = n → k = j) :
    JobTakenBack n d s (turnBack n d.settled s) := by
  have hstart : (∃ k ∈ s.relay.queue, k.outlet = n ∧ k.origin = .start) ↔ j.origin = .start :=
    ⟨fun ⟨k, hk, hkout, hkstart⟩ => hone k hk hkout ▸ hkstart, fun h => ⟨j, hj, hout, h⟩⟩
  have hfind : s.relay.queue.find? (fun i => i.outlet == n) = some j := by
    cases hfound : s.relay.queue.find? (fun i => i.outlet == n) with
    | none => exact absurd hout (by simpa using List.find?_eq_none.mp hfound j hj)
    | some k =>
      exact congrArg some (hone k (List.mem_of_find?_eq_some hfound) (by simpa using List.find?_some hfound))
  have hset (x : RelayState) (q : List Job) : (relayOutlet (setRelayOutlet n (fun r => { r with relay := x })
      (s.withRelay { s.relay with queue := q })) n).relay = x := by
    rw [relayOutlet_setRelayOutlet _ _ _ _ hn hn, if_pos ⟨rfl, hlength⟩]
  have hflip : j.dir.flip = d := by rw [hdir]; cases d <;> rfl
  simp only [JobTakenBack, hstart, turnBack, hfind]
  cases horigin : j.origin
  · exact ⟨hset _ _, rfl, rfl⟩
  · refine ⟨(hset _ _).trans (by rw [hflip]), rfl, List.map_congr_left fun k hk => ?_⟩
    by_cases hkout : k.outlet = n
    · obtain rfl := hone k hk hkout
      rw [if_pos hkout, if_pos hkout, hflip, hkout, horigin]
    · rw [if_neg hkout, if_neg hkout]

/-! ## A change of flags -/

/-- What the Relay Driver does about an outlet whose desired state turns so that it calls for direction `d` (R130 to
R133). -/
def Turned (n : Nat) (d : JobDir) (s t : State) : Prop :=
  if (relayOutlet s n).relay = d.flip.settled then JobQueued n d s t
  else if (relayOutlet s n).relay = d.flip.pending then JobTakenBack n d s t
  else RelayLeft n s t

theorem turnedOff_iff : TurnedOff n s t ↔ Turned n .toOpen s t := by
  unfold TurnedOff Turned
  cases (relayOutlet s n).relay <;> rfl

theorem turnedOn_iff : TurnedOn n s t ↔ Turned n .toClose s t := by
  unfold TurnedOn Turned
  cases (relayOutlet s n).relay <;> rfl

/-- The record of an outlet after a change of it. -/
theorem relayOutlet_set_self (hn : 1 ≤ n) (hlength : n ≤ s.relay.outlets.length) (f : RelayOutlet → RelayOutlet) :
    relayOutlet (setRelayOutlet n f s) n = f (relayOutlet s n) := by
  rw [relayOutlet_setRelayOutlet n n f s hn hn, if_pos ⟨rfl, hlength⟩]

/-- A change of flags that turns the desired state (R129 to R133). -/
theorem changeFlags_turned_of (hrule : RelayRule s) (hn : 1 ≤ n) (hlast : n ≤ 24) {f : RelayOutlet → RelayOutlet}
    (hf : ∀ r, (f r).relay = r.relay) (hturns : (f (relayOutlet s n)).heldOff ≠ (relayOutlet s n).heldOff)
    (hd : JobDir.wanted (f (relayOutlet s n)).heldOff = d) : Turned n d s (changeFlags n f s) := by
  have hlength : n ≤ s.relay.outlets.length := by rwa [hrule.outlets]
  have hset := relayOutlet_set_self hn hlength f
  have hrelay : (relayOutlet (setRelayOutlet n f s) n).relay = (relayOutlet s n).relay := by rw [hset, hf]
  rw [changeFlags_turned hturns, compareDesired_eq (d := d) (by rw [hset]; exact hd), hrelay]
  unfold Turned
  split_ifs with hsettled hwaits
  · exact queueJob_queued (s := setRelayOutlet n f s) hrule.taken hn (by simpa using hlength) d
  · obtain ⟨j, hj, hout, hdir, hone⟩ := hrule.waitingJob hn hlast hwaits
    exact turnBack_takenBack (s := setRelayOutlet n f s) hn (by simpa using hlength) hj hout hdir hone
  · exact ⟨rfl, rfl, hrelay⟩

/-- A change of flags that leaves the desired state leaves the relay (R129). -/
theorem changeFlags_left {f : RelayOutlet → RelayOutlet} (hf : ∀ r, (f r).relay = r.relay)
    (hsame : (f (relayOutlet s n)).heldOff = (relayOutlet s n).heldOff) : RelayLeft n s (changeFlags n f s) := by
  rw [changeFlags, if_pos hsame]
  exact ⟨rfl, rfl, relayOutlet_of_map (setRelayOutlet_map n s hf) n⟩

theorem OnlyOutlets.relaysKept {ns : List Nat} (h : OnlyOutlets ns s t) : RelaysKept ns s t := fun m hm hnot => by
  rw [(h.kept m hm hnot).record]

theorem changeFlags_relaysKept (hrule : RelayRule s) (hn : 1 ≤ n) (f : RelayOutlet → RelayOutlet) :
    RelaysKept [n] s (changeFlags n f s) :=
  OnlyOutlets.relaysKept (changeFlags_onlyOutlets hrule.taken hn f)

/-- A change of flags reaches the Relay Driver alone (R129). -/
theorem changeFlags_onlyRelay (n : Nat) (f : RelayOutlet → RelayOutlet) (s : State) :
    changeFlags n f s = s.withRelay (changeFlags n f s).relay := by
  unfold changeFlags
  split
  · rfl
  · exact compareDesired_onlyRelay ..

/-- Where the flags are those of a change of outlet `n` that leaves tenant and class, every other outlet keeps its
flags. -/
theorem otherOutletsKept_of_flags {f : RelayOutlet → RelayOutlet} (hn : 1 ≤ n)
    (h : switchFlags t = switchFlags (setRelayOutlet n f s)) (hf : ∀ r, (f r).tenant = r.tenant ∧ (f r).cls = r.cls) :
    OtherOutletsKept n s t := by
  have hfixed (m : Nat) : (relayOutlet t m).tenant = (relayOutlet s m).tenant ∧
      (relayOutlet t m).cls = (relayOutlet s m).cls := by
    rcases relayOutlet_flags_set h m with ⟨-, hm⟩ | hm <;>
    · simp only [RelayOutlet.flags, Prod.mk.injEq, hf] at hm
      obtain ⟨htenant, hcls, -⟩ := hm
      exact ⟨htenant, hcls⟩
  obtain ⟨htenant, hcls⟩ := hfixed n
  refine ⟨htenant, hcls, fun m hm hne => ?_⟩
  have hflags := relayOutlet_flags h m
  rw [relayOutlet_setRelayOutlet n m f s hn hm, if_neg (by simp [hne])] at hflags
  simpa only [RelayOutlet.flags, Prod.mk.injEq] using hflags

/-- The lock and shed flags of the outlet that is changed. -/
theorem flags_of_set {f : RelayOutlet → RelayOutlet} (hn : 1 ≤ n) (hlength : n ≤ s.relay.outlets.length)
    (h : switchFlags t = switchFlags (setRelayOutlet n f s)) :
    (relayOutlet t n).lock = (f (relayOutlet s n)).lock ∧ (relayOutlet t n).shed = (f (relayOutlet s n)).shed := by
  have hflags := relayOutlet_flags h n
  rw [relayOutlet_set_self hn hlength] at hflags
  simp only [RelayOutlet.flags, Prod.mk.injEq] at hflags
  obtain ⟨-, -, hlock, hshed⟩ := hflags
  exact ⟨hlock, hshed⟩

/-! ## The coil becomes free -/

/-- A coil that serves has nothing to take. -/
theorem coilTake_of_serves (h : CoilServes s) : coilTake s = s := by
  refine coilTake_rest s ?_
  by_cases hcoil : s.relay.coil = none
  · cases hpending : s.restartPending
    · exact .inr (.inr (h hcoil hpending))
    · exact .inl rfl
  · exact .inr (.inl hcoil)

theorem coilTake_serves (s : State) : CoilServes (coilTake s) := by
  unfold coilTake
  split
  · exact fun hcoil => nomatch hcoil
  · next hrest =>
    intro hcoil hpending
    cases hqueue : s.relay.queue with
    | nil => rfl
    | cons j rest => exact absurd hqueue (hrest j rest hpending hcoil)

/-- The outlet at the head of the queue, whose job a coil that has become free takes (R135). -/
def headOutlet (s : State) : List Nat := (s.relay.queue.head?.map Job.outlet).toList

theorem coilTake_freed (hcoil : s.relay.coil = none)
    (hplace : ∀ j ∈ s.relay.queue, 1 ≤ j.outlet ∧ j.outlet ≤ s.relay.outlets.length) :
    CoilFreed s.relay.queue s (coilTake s) ∧ RelaysKept (headOutlet s) s (coilTake s) := by
  unfold CoilFreed
  split
  · next j rest hpending hqueue =>
    obtain ⟨hlow, hhigh⟩ := hplace j (hqueue ▸ .head _)
    rw [coilTake_head s j rest hpending hcoil hqueue]
    refine ⟨⟨rfl, rfl, ?_⟩, fun m hm hnot => ?_⟩
    · rw [relayOutlet_set_self hlow (by simpa using hhigh)]
    · have hne : m ≠ j.outlet := by simpa [headOutlet, hqueue] using hnot
      rw [relayOutlet_setRelayOutlet _ _ _ _ hlow hm, if_neg (by simp [hne])]
      rfl
  · next hrest =>
    have hnone : s.restartPending = true ∨ s.relay.coil ≠ none ∨ s.relay.queue = [] := by
      cases hpending : s.restartPending
      · cases hqueue : s.relay.queue with
        | nil => exact .inr (.inr rfl)
        | cons j rest => exact absurd hqueue (hrest j rest hpending)
      · exact .inl rfl
    rw [coilTake_rest s hnone]
    exact ⟨⟨hcoil, rfl⟩, fun _ _ _ => rfl⟩

/-- Outlet `n` has no job left, with the coil free and the other outlets' jobs waiting (R134). -/
structure CoilLeft (n : Nat) (s : State) : Prop where
  coil : s.relay.coil = none
  place : 1 ≤ n ∧ n ≤ s.relay.outlets.length
  jobs : ∀ j ∈ s.relay.queue, (1 ≤ j.outlet ∧ j.outlet ≤ s.relay.outlets.length) ∧ j.outlet ≠ n

/-- Where the comparison calls for no job, the coil takes the head of the queue (R133, R135). -/
theorem CoilLeft.rests (h : CoilLeft n s) (hrest : compareDesired n s = s) :
    CoilFreed s.relay.queue s (coilTake (compareDesired n s)) ∧
      (relayOutlet (coilTake (compareDesired n s)) n).relay = (relayOutlet s n).relay ∧
      RelaysKept (headOutlet s) s (coilTake (compareDesired n s)) := by
  obtain ⟨hfreed, hkept⟩ := coilTake_freed h.coil fun j hj => (h.jobs j hj).1
  rw [hrest]
  refine ⟨hfreed, hkept n h.place.1 ?_, hkept⟩
  cases hqueue : s.relay.queue with
  | nil => simp [headOutlet, hqueue]
  | cons j rest => simpa [headOutlet, hqueue] using (h.jobs j (hqueue ▸ .head _)).2.symm

/-- Where the comparison calls for a job, it joins the queue at the tail before the coil takes the head (R130, R135). -/
theorem CoilLeft.turns (h : CoilLeft n s) (hturns : compareDesired n s = queueJob n d s) :
    CoilFreed (s.relay.queue ++ [⟨n, d, .change⟩]) s (coilTake (compareDesired n s)) ∧
      (relayOutlet (coilTake (compareDesired n s)) n).relay =
        (if s.relay.queue = [] ∧ s.restartPending = false then d.working else d.pending) ∧
      RelaysKept (n :: headOutlet s) s (coilTake (compareDesired n s)) := by
  obtain ⟨w, hw⟩ : ∃ w, w = setRelayOutlet n (fun r => { r with relay := d.pending })
    (s.withRelay { s.relay with queue := s.relay.queue ++ [⟨n, d, .change⟩] }) := ⟨_, rfl⟩
  have hqueue : w.relay.queue = s.relay.queue ++ [⟨n, d, .change⟩] := by rw [hw]; rfl
  have hlength : w.relay.outlets.length = s.relay.outlets.length := by rw [hw]; exact setRelayOutlet_length ..
  have hpending : w.restartPending = s.restartPending := by rw [hw]; rfl
  have hown : (relayOutlet w n).relay = d.pending := by
    rw [hw, relayOutlet_set_self h.place.1 (by simpa using h.place.2)]
  have hother {m : Nat} (hm : 1 ≤ m) (hne : m ≠ n) : (relayOutlet w m).relay = (relayOutlet s m).relay := by
    rw [hw, relayOutlet_setRelayOutlet _ _ _ _ h.place.1 hm, if_neg (by simp [hne])]
    rfl
  have hcoil : w.relay.coil = none := by rw [hw]; exact h.coil
  obtain ⟨hfreed, hkept⟩ := coilTake_freed (s := w) hcoil fun j hj => by
    rw [hlength]
    rw [hqueue, List.mem_append, List.mem_singleton] at hj
    rcases hj with hj | rfl
    · exact (h.jobs j hj).1
    · exact h.place
  have htaken : coilTake (compareDesired n s) = coilTake w := by
    rw [hturns, queueJob, ← hw, coilTake_of_serves (coilTake_serves w)]
  rw [htaken]
  rw [hqueue] at hfreed
  refine ⟨by simpa only [CoilFreed, hpending] using hfreed, ?_, fun m hm hnot => ?_⟩
  · cases hjobs : s.relay.queue with
    | nil =>
      cases hp : s.restartPending
      · simp only [hjobs, List.nil_append, CoilFreed, hpending, hp] at hfreed
        obtain ⟨-, -, hworking⟩ := hfreed
        simpa using hworking
      · rw [coilTake_rest w (.inl (hpending.trans hp)), hown]
        simp
    | cons j rest =>
      have hne : j.outlet ≠ n := (h.jobs j (hjobs ▸ .head _)).2
      rw [hkept n h.place.1 (by simpa [headOutlet, hqueue, hjobs] using hne.symm), hown]
      simp
  · obtain ⟨hne, hhead⟩ : m ≠ n ∧ m ∉ headOutlet s := by simpa using hnot
    rw [hkept m hm ?_, hother hm hne]
    cases hjobs : s.relay.queue with
    | nil => simp [headOutlet, hqueue, hjobs, hne]
    | cons j rest => simpa [headOutlet, hqueue, hjobs] using hhead

/-- A completion reaches the Relay Driver alone (R136, R138). -/
theorem completeJob_onlyRelay (n : Nat) (x : RelayState) (s : State) :
    completeJob n x s = s.withRelay (completeJob n x s).relay := by
  unfold completeJob
  rw [coilTake_onlyRelay, compareDesired_onlyRelay]
  rfl

end

end Sys2Proof.Machine
end

section
/-! SUPPORT. The commands that change the flags of an outlet (R139, R141, R165): each finds a close in hand finished,
and reaches the Relay Driver by one change of a switching record; and the departure of a tenant whose shed flag a lock or
a STUCK result has cleared (R106). -/

namespace Sys2Proof.Machine

section

variable {s t : State} {x : Byte} {n id : Nat} {r : Tenant}

/-! ## A close in hand is finished first -/

theorem CommandTaken.finishClose {arg : List Byte} (h : CommandTaken arg s) : CommandTaken arg (finishClose s) :=
  ⟨h.length, by simpa using h.link, by simpa using h.slot, by simpa using h.restart⟩

theorem present_finishClose : present (finishClose s) n = present s n := by simp [present]

/-- A close leaves the class of an outlet (R112). -/
theorem finishClose_cls : (relayOutlet (finishClose s) n).cls = (relayOutlet s n).cls := by
  by_cases hhand : s.closeInHand = none
  · rw [finishClose_none s hhand]
  · obtain ⟨u, hmoves, heq⟩ := finishClose_moves hhand
    rw [heq, relayOutlet, endClose_relay]
    exact congrArg (fun p => p.2.1) (hmoves.relayOutlet n)

@[simp] theorem finishClose_finishClose (s : State) : finishClose (finishClose s) = finishClose s :=
  finishClose_none _ (finishClose_closeInHand s)

theorem outletArg_present (h : present s x.toNat = true) : outletArg s [x] = some x.toNat := by
  simp [outletArg, oneByteArg, h]

theorem exec_lockOff_taken (h : CommandTaken [x] s) (hpresent : present s x.toNat = true)
    (hcls : 1 ≤ (relayOutlet s x.toNat).cls) :
    exec (.lockOff [x]) s = .next (respond 0x03 .accepted [] (lockOutlet x.toNat (finishClose s))) := by
  rw [exec, execLockOff, h.receiveCommand, lockOffEffect, outletArg_present hpresent]
  exact congrArg _ (if_neg (Nat.pos_iff_ne_zero.mp hcls))

theorem exec_unlock_taken (h : CommandTaken [x] s) (hpresent : present s x.toNat = true) :
    exec (.unlock [x]) s = .next (respond 0x04 .accepted [] (unlockOutlet x.toNat (finishClose s))) := by
  rw [exec, execUnlock, h.receiveCommand, unlockEffect, outletArg_present hpresent]

theorem exec_clearFault_taken (h : CommandTaken [x] s) (hpresent : present s x.toNat = true)
    (hstuck : (relayOutlet s x.toNat).relay = .stuck) :
    exec (.clearFault [x]) s = .next (respond 0x05 .accepted [] (clearStuck x.toNat (finishClose s))) := by
  rw [exec, execClearFault, h.receiveCommand, clearFaultEffect, outletArg_present hpresent]
  exact congrArg _ (if_pos hstuck)

/-- The answer depends on the link alone (R33, R161). -/
theorem answered_congr (hlink : t.link = s.link) (hmonitor : t.monitor = s.monitor) (c : Byte) (r : Result)
    (d : List Byte) : answered t c r d = answered s c r d := by simp [answered, hlink, hmonitor]

theorem respond_after (h : CommandTaken [x] s) (hlink : t.link = s.link) (hmonitor : t.monitor = s.monitor) (c : Byte)
    (r : Result) : respond c r [] t = { t with link := answered s c r [] } := by
  rw [respond_answered c r [] (hlink ▸ h.slot), answered_congr hlink hmonitor]

theorem one_le_of_present (h : present s n = true) : 1 ≤ n := by
  simp only [present, decide_eq_true_eq] at h
  exact h.1

/-! ## A shed flag is cleared -/

/-- The tenant stays where it is not in RECOVER or has an outlet shed (R106). -/
theorem recoverDeparture_stays (h : ∀ r, findTenant s id = some r → r.standing ≠ .recover ∨ shedOutlets s id ≠ []) :
    recoverDeparture id s = s := by
  unfold recoverDeparture
  split
  · rfl
  · next r hr =>
    refine if_neg fun hleaves => ?_
    rcases h r hr with hstanding | hshed
    · exact hstanding hleaves.1
    · exact hshed hleaves.2

/-- A departure reaches the tenant records, the Record Queue and the Alert Unit alone (R106, R109, R156). -/
theorem recoverDeparture_reaches (id : Nat) (s : State) : recoverDeparture id s = { s with
    recon := (recoverDeparture id s).recon
    records := (recoverDeparture id s).records
    alert := (recoverDeparture id s).alert } := by
  unfold recoverDeparture
  split
  · rfl
  · split_ifs
    · rfl
    · unfold appendRecord
      split <;> rfl
    · rfl

/-- Where the flags of outlet `n` have been changed so that it is no longer shed, the others that were shed
still are. -/
theorem shedOutlets_cleared {f : RelayOutlet → RelayOutlet} (hn : 1 ≤ n) (hlength : n ≤ s.relay.outlets.length)
    (hflags : switchFlags t = switchFlags (setRelayOutlet n f s))
    (hf : ∀ r, (f r).tenant = r.tenant ∧ (f r).cls = r.cls ∧ (f r).shed = none)
    (hparams : t.loader.params = s.loader.params) :
    shedOutlets t id = (shedOutlets s id).filter (· ≠ n) := by
  obtain ⟨htenant, -, hother⟩ := otherOutletsKept_of_flags hn hflags fun r => ⟨(hf r).1, (hf r).2.1⟩
  have hsame {m : Nat} (hm : m ∈ presentOutlets s) : (relayOutlet t m).tenant = (relayOutlet s m).tenant := by
    by_cases hne : m = n
    · rw [hne, htenant]
    · exact (hother m (mem_presentOutlets.mp hm).1 hne).1
  rw [shedOutlets, tenantOutlets, presentOutlets_congr hparams, shedOutlets, tenantOutlets, List.filter_filter,
    List.filter_filter, List.filter_filter]
  refine List.filter_congr fun m hm => ?_
  rw [hsame hm]
  by_cases hne : m = n
  · obtain ⟨-, hshed⟩ := flags_of_set hn hlength hflags
    simp [hne, hshed, hf]
  · obtain ⟨-, -, -, hshed⟩ := hother m (mem_presentOutlets.mp hm).1 hne
    simp [hne, hshed]

/-- Where the outlet was not shed, or its tenant does not stand in RECOVER or has another outlet shed, no tenant
departs (R106). -/
theorem recoverDeparture_cleared {f : RelayOutlet → RelayOutlet} (hn : 1 ≤ n) (hlength : n ≤ s.relay.outlets.length)
    (hflags : switchFlags t = switchFlags (setRelayOutlet n f s))
    (hf : ∀ r, (f r).tenant = r.tenant ∧ (f r).cls = r.cls ∧ (f r).shed = none)
    (hparams : t.loader.params = s.loader.params)
    (hrecon : t.recon = s.recon) (hstays : ∀ r, findTenant s id = some r →
      r.standing ≠ .recover ∨ ∃ m ∈ shedOutlets s r.id, m ≠ n) : recoverDeparture id t = t := by
  refine recoverDeparture_stays fun r hr => ?_
  rw [findTenant_congr hrecon] at hr
  refine (hstays r hr).imp_right fun ⟨m, hm, hne⟩ => ?_
  rw [shedOutlets_cleared hn hlength hflags hf hparams]
  exact List.ne_nil_of_mem (List.mem_filter.mpr ⟨findTenant_id hr ▸ hm, by simpa using hne⟩)

end

end Sys2Proof.Machine
end

section
/-! PROOF. O51, O52 and O53: LOCK_OFF, UNLOCK and CLEAR_FAULT. -/

namespace Sys2Proof.Machine

/-- The flags that LOCK_OFF sets (R139). -/
def lockFlags (o : RelayOutlet) : RelayOutlet := { o with lock := true, shed := none }

theorem lockOutlet_eq (n : Nat) (s : State) : lockOutlet n s =
    if (relayOutlet s n).shed.isSome then recoverDeparture (relayOutlet s n).tenant (changeFlags n lockFlags s)
    else changeFlags n lockFlags s := rfl

theorem lockOutlet_relay (n : Nat) (s : State) : (lockOutlet n s).relay = (changeFlags n lockFlags s).relay := by
  rw [lockOutlet_eq]
  split
  · exact recoverDeparture_relay ..
  · rfl

/-- A lock reaches the Relay Driver, and by a departure the tenant records, the Record Queue and the Alert Unit (R106,
R139). -/
theorem lockOutlet_reaches (n : Nat) (s : State) : lockOutlet n s = { s with
    relay := (lockOutlet n s).relay
    recon := (lockOutlet n s).recon
    records := (lockOutlet n s).records
    alert := (lockOutlet n s).alert } := by
  rw [lockOutlet_eq]
  split
  · rw [recoverDeparture_reaches, changeFlags_onlyRelay]
    rfl
  · rw [changeFlags_onlyRelay]
    rfl

/-- What the Relay Driver makes of a lock: an outlet that was on turns to OFF (R129 to R133). -/
theorem lockOutlet_turns {s : State} {n : Nat} (hrule : RelayRule s) (hn : 1 ≤ n) (hlast : n ≤ 24) :
    if (relayOutlet s n).lock = true ∨ (relayOutlet s n).shed ≠ none then RelayLeft n s (lockOutlet n s)
    else TurnedOff n s (lockOutlet n s) := by
  split
  · next hheld =>
    have hsame : (lockFlags (relayOutlet s n)).heldOff = (relayOutlet s n).heldOff := by
      rcases hheld with hlock | hshed
      · simp [lockFlags, RelayOutlet.heldOff, hlock]
      · simp [lockFlags, RelayOutlet.heldOff, Option.isSome_iff_ne_none.mpr hshed]
    obtain ⟨hcoil, hqueue, hrelay⟩ := changeFlags_left (f := lockFlags) (fun _ => rfl) hsame
    rw [RelayLeft, relayOutlet, lockOutlet_relay]
    exact ⟨hcoil, hqueue, hrelay⟩
  · next hon =>
    obtain ⟨hlock, hshed⟩ : (relayOutlet s n).lock = false ∧ (relayOutlet s n).shed = none := by simpa using hon
    have hlocked : lockOutlet n s = changeFlags n lockFlags s := by rw [lockOutlet_eq, hshed]; rfl
    rw [hlocked, turnedOff_iff]
    exact changeFlags_turned_of hrule hn hlast (fun _ => rfl)
      (by simp [lockFlags, RelayOutlet.heldOff, hlock, hshed]) rfl

/-- Settles O51: the flags change, the Relay Driver acts where the outlet was on, and the tenant departs only with its
last shed outlet. -/
theorem lockOffLocksTheOutlet : Obligations.LockOffLocksTheOutlet := by
  intro x s htaken hrule hpresent hlast hcls
  have hlow := one_le_of_present hpresent
  have hlength : x.toNat ≤ s.relay.outlets.length := by rwa [hrule.outlets]
  refine ⟨?_, fun hhand => ?_⟩
  · rw [exec_lockOff_taken htaken hpresent hcls, exec_lockOff_taken htaken.finishClose
      (present_finishClose.trans hpresent) (by rwa [finishClose_cls]), finishClose_finishClose]
  · have hflags : switchFlags (lockOutlet x.toNat s) = switchFlags (setRelayOutlet x.toNat lockFlags s) := by
      rw [switchFlags, lockOutlet_relay]
      exact switchFlags_changeFlags ..
    obtain ⟨hlock, hshed⟩ := flags_of_set hlow hlength hflags
    refine ⟨{ lockOutlet x.toNat s with link := answered s 0x03 .accepted [] }, ?_, rfl, hlock, hshed,
      otherOutletsKept_of_flags hlow hflags fun _ => ⟨rfl, rfl⟩, lockOutlet_turns hrule hlow hlast, fun hstays => ?_,
      fun m hm hnot => ?_, ?_⟩
    · rw [exec_lockOff_taken htaken hpresent hcls, finishClose_none s hhand, respond_after htaken (by simp) (by simp)]
    · have hkept : lockOutlet x.toNat s = changeFlags x.toNat lockFlags s := by
        rw [lockOutlet_eq]
        split
        · next hset =>
          exact recoverDeparture_cleared hlow hlength (switchFlags_changeFlags ..) (fun _ => ⟨rfl, rfl, rfl⟩) (by simp)
            (by simp) (hstays.resolve_left (Option.isSome_iff_ne_none.mp hset))
        · rfl
      rw [hkept]
      simp
    · have hkept := changeFlags_relaysKept hrule hlow lockFlags m hm hnot
      rw [← hkept, relayOutlet, relayOutlet, ← lockOutlet_relay]
    · rw [lockOutlet_reaches]

/-- What the Relay Driver makes of an unlock: an outlet that the lock alone held off turns to ON (R129 to R133). -/
theorem unlockOutlet_turns {s : State} {n : Nat} (hrule : RelayRule s) (hn : 1 ≤ n) (hlast : n ≤ 24) :
    if (relayOutlet s n).lock = true ∧ (relayOutlet s n).shed = none then TurnedOn n s (unlockOutlet n s)
    else RelayLeft n s (unlockOutlet n s) := by
  split
  · next hheld =>
    obtain ⟨hlock, hshed⟩ := hheld
    rw [turnedOn_iff]
    exact changeFlags_turned_of hrule hn hlast (fun _ => rfl) (by simp [RelayOutlet.heldOff, hlock, hshed])
      (by simp [RelayOutlet.heldOff, hshed, JobDir.wanted])
  · next hother =>
    refine changeFlags_left (fun _ => rfl) ?_
    cases hlock : (relayOutlet s n).lock
    · simp [RelayOutlet.heldOff, hlock]
    · have hshed : (relayOutlet s n).shed ≠ none := fun hnone => hother ⟨hlock, hnone⟩
      simp [RelayOutlet.heldOff, Option.isSome_iff_ne_none.mpr hshed]

/-- Settles O52: the lock flag alone changes, and the Relay Driver acts where nothing else holds the outlet off. -/
theorem unlockUnlocksTheOutlet : Obligations.UnlockUnlocksTheOutlet := by
  intro x s htaken hrule hpresent hlast
  have hlow := one_le_of_present hpresent
  refine ⟨?_, fun hhand => ?_⟩
  · rw [exec_unlock_taken htaken hpresent, exec_unlock_taken htaken.finishClose (present_finishClose.trans hpresent),
      finishClose_finishClose]
  · have hflags := switchFlags_changeFlags x.toNat (fun r => { r with lock := false }) s
    obtain ⟨hlock, hshed⟩ := flags_of_set hlow (by rwa [hrule.outlets]) hflags
    refine ⟨{ unlockOutlet x.toNat s with link := answered s 0x04 .accepted [] }, ?_, rfl, hlock, hshed,
      otherOutletsKept_of_flags hlow hflags fun _ => ⟨rfl, rfl⟩, unlockOutlet_turns hrule hlow hlast,
      changeFlags_relaysKept hrule hlow _, ?_⟩
    · rw [exec_unlock_taken htaken hpresent, finishClose_none s hhand, respond_after htaken (by simp) (by simp)]
    · rw [unlockOutlet, changeFlags_onlyRelay]
      rfl

/-- What the comparison makes of a STUCK outlet that is cleared to ON (R130, R141). -/
theorem clearStuck_turns {s : State} {n : Nat} (hrule : RelayRule s) (hn : 1 ≤ n) (hlast : n ≤ 24) :
    if (relayOutlet s n).lock = true ∨ (relayOutlet s n).shed ≠ none then JobQueued n .toOpen s (clearStuck n s)
    else (relayOutlet (clearStuck n s) n).relay = .on ∧ (clearStuck n s).relay.coil = s.relay.coil ∧
      (clearStuck n s).relay.queue = s.relay.queue := by
  have hlength : n ≤ s.relay.outlets.length := by rwa [hrule.outlets]
  have hset := relayOutlet_set_self hn hlength fun r => { r with relay := .on }
  have hheld : (relayOutlet s n).heldOff = true ↔ (relayOutlet s n).lock = true ∨ (relayOutlet s n).shed ≠ none := by
    simp [RelayOutlet.heldOff, Option.isSome_iff_ne_none]
  rw [clearStuck]
  split
  · next h =>
    have hoff := hheld.mpr h
    rw [compareDesired_opposed (d := .toOpen) (by rw [hset]; exact congrArg JobDir.wanted hoff) (by rw [hset]; rfl)]
    exact queueJob_queued (s := setRelayOutlet n (fun r => { r with relay := .on }) s) hrule.taken hn
      (by simpa using hlength) .toOpen
  · next h =>
    have hon : (relayOutlet s n).heldOff = false := by simpa using mt hheld.mp h
    rw [compareDesired_agrees (d := .toClose) (by rw [hset]; exact congrArg JobDir.wanted hon)
      (.inl (by rw [hset]; rfl)), hset]
    exact ⟨rfl, rfl, rfl⟩

/-- Settles O53: a close leaves a STUCK outlet STUCK, and the outlet that is cleared is compared as one in ON. -/
theorem clearFaultFreesTheOutlet : Obligations.ClearFaultFreesTheOutlet := by
  intro x s htaken hrule hpresent hlast hstuck
  have hlow := one_le_of_present hpresent
  refine ⟨?_, fun hhand => ?_⟩
  · have hkept := (Switching.finishClose .refl).stuck (hrule.stuckAlone hlow hstuck)
    rw [exec_clearFault_taken htaken hpresent hstuck, exec_clearFault_taken htaken.finishClose
      (present_finishClose.trans hpresent) hkept.relay, finishClose_finishClose]
  · have hflags := switchFlags_compareDesired x.toNat (setRelayOutlet x.toNat (fun r => { r with relay := .on }) s)
    obtain ⟨hlock, hshed⟩ := flags_of_set hlow (by rwa [hrule.outlets]) hflags
    have hset := changeRecord_onlyOutlets hrule.taken hlow fun r => { r with relay := .on }
    have hkept := (hset.trans (compareDesired_onlyOutlets hset.serves hlow)).relaysKept
    refine ⟨{ clearStuck x.toNat s with link := answered s 0x05 .accepted [] }, ?_, rfl, hlock, hshed,
      otherOutletsKept_of_flags hlow hflags fun _ => ⟨rfl, rfl⟩, clearStuck_turns hrule hlow hlast,
      fun m hm hnot => hkept m hm (by simpa using hnot), ?_⟩
    · rw [exec_clearFault_taken htaken hpresent hstuck, finishClose_none s hhand,
        respond_after htaken (by simp) (by simp)]
    · rw [clearStuck, compareDesired_onlyRelay]
      rfl

end Sys2Proof.Machine
end

section
/-! SUPPORT. The completion of the job that the coil holds, as ON, as OFF and as STUCK (R136, R138). -/

namespace Sys2Proof.Machine

section

variable {s t : State} {n id : Nat} {d : JobDir} {c : CoilJob} {r : Tenant}

/-- The outlet of the job that the coil holds has no other job (R134). -/
theorem RelayRule.coilLeft (h : RelayRule s) (hcoil : s.relay.coil = some c) (hfree : t.relay.coil = none)
    (hqueue : t.relay.queue = s.relay.queue) (hlength : t.relay.outlets.length = s.relay.outlets.length) :
    CoilLeft c.job.outlet t := by
  obtain ⟨hlow, hhigh, -⟩ := h.held c hcoil
  refine ⟨hfree, by rw [hlength, h.outlets]; exact ⟨hlow, hhigh⟩, fun j hj => ?_⟩
  rw [hqueue] at hj
  obtain ⟨hlow', hhigh', -⟩ := h.queued j hj
  refine ⟨by rw [hlength, h.outlets]; exact ⟨hlow', hhigh'⟩, fun heq => ?_⟩
  have hone := h.oneJob
  rw [hcoil] at hone
  exact (List.nodup_cons.mp hone).1 (List.mem_map.mpr ⟨j, hj, heq⟩)

/-- A job completes as its direction settles it: where the desired state agrees the coil takes the next job, and else a
job the other way joins the queue first (R133, R136, R138). -/
theorem completeJob_outcome (hrule : RelayRule s) (hcoil : s.relay.coil = some c) (hn : c.job.outlet = n)
    (d : JobDir) (ht : t = completeJob n d.settled s) :
    (JobDir.wanted (relayOutlet s n).heldOff = d →
      CoilFreed s.relay.queue s t ∧ (relayOutlet t n).relay = d.settled) ∧
    (JobDir.wanted (relayOutlet s n).heldOff = d.flip →
      CoilFreed (s.relay.queue ++ [⟨n, d.flip, .change⟩]) s t ∧ (relayOutlet t n).relay =
        if s.relay.queue = [] ∧ s.restartPending = false then d.flip.working else d.flip.pending) ∧
    RelaysKept (n :: headOutlet s) s t := by
  obtain ⟨v, hv⟩ : ∃ v, v = setRelayOutlet n (fun r => { r with relay := d.settled })
    (s.withRelay { s.relay with coil := none }) := ⟨_, rfl⟩
  have hqueue : v.relay.queue = s.relay.queue := by rw [hv]; rfl
  have hpending : v.restartPending = s.restartPending := by rw [hv]; rfl
  have hleft : CoilLeft n v :=
    hn ▸ hrule.coilLeft hcoil (by rw [hv]; rfl) hqueue (by rw [hv]; exact setRelayOutlet_length ..)
  have hown : relayOutlet v n = { relayOutlet s n with relay := d.settled } := by
    have hplace := hleft.place
    rw [hv, setRelayOutlet_length] at hplace
    rw [hv, relayOutlet_set_self hplace.1 hplace.2]
    rfl
  have hheld : (relayOutlet v n).heldOff = (relayOutlet s n).heldOff := by rw [hown]; rfl
  have hother {m : Nat} (hm : 1 ≤ m) (hne : m ≠ n) : (relayOutlet v m).relay = (relayOutlet s m).relay := by
    rw [hv, relayOutlet_setRelayOutlet _ _ _ _ hleft.place.1 hm, if_neg (by simp [hne])]
    rfl
  have hfreed (q : List Job) : CoilFreed q v t ↔ CoilFreed q s t := by simp only [CoilFreed, hpending]
  have hkept (hv : RelaysKept (n :: headOutlet v) v t) : RelaysKept (n :: headOutlet s) s t := fun m hm hnot => by
    rw [hv m hm (by rwa [headOutlet, hqueue]), hother hm (fun heq => hnot (heq ▸ .head _))]
  have htaken : t = coilTake (compareDesired n v) := by rw [ht, hv]; rfl
  have hagrees (hd : JobDir.wanted (relayOutlet s n).heldOff = d) :=
    hleft.rests (compareDesired_agrees (d := d) (by rw [hheld, hd]) (.inl (by rw [hown])))
  have hopposed (hd : JobDir.wanted (relayOutlet s n).heldOff = d.flip) :=
    hleft.turns (compareDesired_opposed (d := d.flip) (by rw [hheld, hd]) (by rw [hown]; cases d <;> rfl))
  simp only [← htaken, hqueue, hpending, hfreed, hown] at hagrees hopposed
  refine ⟨fun hd => ?_, fun hd => ?_, ?_⟩
  · obtain ⟨hcoil', hrelay, -⟩ := hagrees hd
    exact ⟨hcoil', hrelay⟩
  · obtain ⟨hcoil', hrelay, -⟩ := hopposed hd
    exact ⟨hcoil', hrelay⟩
  · have hwanted : JobDir.wanted (relayOutlet s n).heldOff = d ∨ JobDir.wanted (relayOutlet s n).heldOff = d.flip := by
      cases d <;> cases JobDir.wanted (relayOutlet s n).heldOff <;> simp [JobDir.flip]
    rcases hwanted with hd | hd
    · obtain ⟨-, -, hrelays⟩ := hagrees hd
      exact hkept fun m hm hnot => hrelays m hm fun hmem => hnot (.tail _ hmem)
    · obtain ⟨-, -, hrelays⟩ := hopposed hd
      exact hkept hrelays

/-- A STUCK result queues no job, and the coil takes the next one (R133, R138). -/
theorem stuckCompleted_outcome (hrule : RelayRule s) (hcoil : s.relay.coil = some c) (hn : c.job.outlet = n) :
    CoilFreed s.relay.queue s (stuckCompleted n s) ∧ (relayOutlet (stuckCompleted n s) n).relay = .stuck ∧
      RelaysKept (n :: headOutlet s) s (stuckCompleted n s) := by
  have hlength : (stuckRecord n s).relay.outlets.length = s.relay.outlets.length :=
    (setRelayOutlet_length ..).trans (setRelayOutlet_length ..)
  have hleft : CoilLeft n (stuckRecord n s) := hn ▸ hrule.coilLeft hcoil rfl rfl (hn ▸ hlength)
  have hplace := hleft.place
  rw [hlength] at hplace
  have hown : (relayOutlet (stuckRecord n s) n).relay = .stuck := by
    rw [relayOutlet_stuckRecord_place, if_pos ⟨rfl, by omega⟩]
  obtain ⟨hfreed, hrelay, hkept⟩ := hleft.rests (compareDesired_agrees rfl (.inr hown))
  refine ⟨hfreed, hrelay.trans hown, fun m hm hnot => ?_⟩
  obtain ⟨hne, hhead⟩ : m ≠ n ∧ m ∉ headOutlet s := by simpa using hnot
  refine (hkept m hm hhead).trans ?_
  rw [relayOutlet_stuckRecord_place, if_neg (by omega)]

/-- A STUCK result clears the shed flag and keeps the lock flag (R138). -/
theorem switchFlags_stuckCompleted (n : Nat) (s : State) :
    switchFlags (stuckCompleted n s) = switchFlags (setRelayOutlet n (fun r => { r with shed := none }) s) := by
  rw [stuckCompleted, switchFlags_coilTake, switchFlags_compareDesired, stuckRecord, switchFlags_setRelay]
  rfl

/-- A STUCK result reaches the Relay Driver, and raises RELAY_FAULT (R138). -/
theorem stuckCompleted_reaches (n : Nat) (s : State) :
    stuckCompleted n s = (raise .relayFault s).withRelay (stuckCompleted n s).relay := by
  rw [stuckCompleted, coilTake_onlyRelay, compareDesired_onlyRelay]
  rfl

/-! ## The departure from RECOVER -/

/-- What a tenant that leaves RECOVER without a shed outlet leaves (R106, R109, R156). -/
theorem recoverDeparture_outcome (h : findTenant s id = some r) (hx : r.standing = .recover)
    (hnone : shedOutlets s id = []) (ht : t = recoverDeparture id s) :
    ∃ r', findTenant t id = some r' ∧ shedOutlets t id = [] ∧
      (s.recon.warmup = 0 → ByDemand r r' ∧ r'.demand = r.demand ∧
        (s.records.length < 16 → t.alert = s.alert ∧ t.records = s.records ++ [makeRecord s .excessEnd r 0 []]) ∧
        (16 ≤ s.records.length → t.records = s.records ∧ t.alert.latches = s.alert.latches ||| 0x1000#16)) ∧
      (0 < s.recon.warmup → r'.standing = .clear ∧ t.records = s.records ∧ t.alert = s.alert) := by
  have hshed : shedOutlets t id = [] := by
    rw [ht, shedOutlets_congr (recoverDeparture_relay s id) (recoverDeparture_loader s id), hnone]
  rcases Nat.eq_zero_or_pos s.recon.warmup with hwarmup | hwarmup
  · rw [recoverDeparture_ends h hx hnone hwarmup] at ht
    subst ht
    exact ⟨_, findTenant_endExcursion h, hshed, fun _ => ⟨rfl, rfl, endExcursion_room, endExcursion_full⟩,
      fun hpos => absurd hwarmup hpos.ne'⟩
  · rw [recoverDeparture_warmup h hx hnone hwarmup] at ht
    subst ht
    exact ⟨_, findTenant_setTenant_self (f := fun u => { u with standing := .clear }) (fun _ => rfl) h, hshed,
      fun hzero => absurd hzero hwarmup.ne', fun _ => ⟨rfl, rfl, rfl⟩⟩

theorem latched_appendRecord {k : EventKind} (e : ExcursionRecord) (h : latched s k = true) :
    latched (appendRecord e s) k = true := by
  unfold appendRecord
  split
  · exact h
  · simp [h]

/-- A departure clears no latch (R147). -/
theorem latched_recoverDeparture {k : EventKind} (h : latched s k = true) :
    latched (recoverDeparture id s) k = true := by
  unfold recoverDeparture
  split
  · exact h
  · split_ifs
    · exact h
    · exact latched_appendRecord _ h
    · exact h

end

end Sys2Proof.Machine
end

section
/-! PROOF. O57: the end of a pulse and of a settle. -/

namespace Sys2Proof.Machine

/-- The desired state is OFF where a flag is set (R129). -/
theorem wanted_eq_toOpen {o : RelayOutlet} : JobDir.wanted o.heldOff = .toOpen ↔ o.lock = true ∨ o.shed ≠ none := by
  cases hlock : o.lock <;> cases hshed : o.shed <;> simp [JobDir.wanted, RelayOutlet.heldOff, hlock, hshed]

theorem wanted_eq_toClose {o : RelayOutlet} :
    JobDir.wanted o.heldOff = .toClose ↔ ¬ (o.lock = true ∨ o.shed ≠ none) := by
  rw [← wanted_eq_toOpen]
  cases JobDir.wanted o.heldOff <;> simp

/-- A completion leaves the flags, the class and the tenant of every outlet (R129). -/
theorem completeJob_flags {s t : State} {n : Nat} {x : RelayState} (ht : t = completeJob n x s) (m : Nat) :
    (relayOutlet t m).lock = (relayOutlet s m).lock ∧ (relayOutlet t m).shed = (relayOutlet s m).shed ∧
      (relayOutlet t m).cls = (relayOutlet s m).cls ∧ (relayOutlet t m).tenant = (relayOutlet s m).tenant := by
  have hflags := relayOutlet_flags (ht ▸ switchFlags_completeJob n x s) m
  simp only [RelayOutlet.flags, Prod.mk.injEq] at hflags
  obtain ⟨htenant, hcls, hlock, hshed⟩ := hflags
  exact ⟨hlock, hshed, hcls, htenant⟩

theorem settleRuns_iff {s : State} : settleRuns s = true ↔ ∃ j, s.relay.coil = some ⟨j, .settle⟩ := by
  unfold settleRuns
  split
  · next j hcoil => simp [hcoil]
  · next hrest => simpa using hrest

theorem exec_settleEnd {s : State} {j : Job} (hhand : s.closeInHand = none) (hcoil : s.relay.coil = some ⟨j, .settle⟩) :
    exec .settleEnd s = .next (settleEnds s) := by
  rw [exec, execSettleEnd, if_pos (settleRuns_iff.mpr ⟨j, hcoil⟩), finishClose_none s hhand]

/-- Settles O57: the stage of the job that the coil holds decides, and a close in hand leaves it. -/
theorem pulseAndSettleEnd : Obligations.PulseAndSettleEnd := by
  intro s hrule
  refine ⟨fun j hcoil => ?_, fun j hcoil => ?_, fun hhand j hcoil hdir => ?_, fun hhand j hcoil hdir => ?_,
    fun hnot => ?_, fun hnot => ?_⟩
  · rw [exec, execPulseEnd, pulseEnds, hcoil]
    rfl
  · have hkept := finishClose_holds hcoil
    rw [exec, execSettleEnd, if_pos (settleRuns_iff.mpr ⟨j, hcoil⟩), exec, execSettleEnd,
      if_pos (settleRuns_iff.mpr ⟨j, hkept⟩), finishClose_finishClose]
  · simp [exec_settleEnd hhand hcoil, settleEnds, hcoil, hdir, State.withRelay]
  · obtain ⟨hagrees, hopposed, hkept⟩ := completeJob_outcome hrule hcoil rfl .toClose rfl
    refine ⟨completeJob j.outlet .on s, by simp [exec_settleEnd hhand hcoil, settleEnds, hcoil, hdir],
      fun hoff => hopposed (wanted_eq_toOpen.mpr hoff), fun hon => hagrees (wanted_eq_toClose.mpr hon),
      fun n _ => completeJob_flags rfl n, hkept, completeJob_onlyRelay ..⟩
  · rw [exec, execPulseEnd, pulseEnds]
    split
    · next j hcoil => exact absurd hcoil (hnot j)
    · rfl
  · rw [exec, execSettleEnd, if_neg (by simpa [settleRuns_iff] using hnot)]

end Sys2Proof.Machine
end

section
/-! PROOF. O58: the open verify. -/

namespace Sys2Proof.Machine

theorem verifyDue_iff {s : State} : verifyDue s = true ↔ ∃ j x, s.relay.coil = some ⟨j, .verify (some x)⟩ := by
  unfold verifyDue
  split
  · next j x hcoil => simp [hcoil]
  · next hrest => simpa using hrest

theorem exec_openVerify_sample {s : State} {j : Job} {x : Nat} (hhand : s.closeInHand = none)
    (hcoil : s.relay.coil = some ⟨j, .verify (some x)⟩) : exec .openVerify s = .next
      (if x ≤ s.loader.params.offThreshold then completeJob j.outlet .off s else stuckResult j.outlet s) := by
  rw [exec_openVerify hhand, verifyOpen, hcoil]

theorem stuckResult_relay (n : Nat) (s : State) : (stuckResult n s).relay = (stuckCompleted n s).relay := by
  rw [stuckResult_eq]
  split
  · exact recoverDeparture_relay ..
  · rfl

/-- A STUCK result reaches the Relay Driver and the Alert Unit, and by a departure the tenant records and the Record
Queue (R106, R138). -/
theorem stuckResult_reaches (n : Nat) (s : State) : stuckResult n s = { s with
    relay := (stuckResult n s).relay
    recon := (stuckResult n s).recon
    records := (stuckResult n s).records
    alert := (stuckResult n s).alert } := by
  rw [stuckResult_eq]
  split
  · rw [recoverDeparture_reaches, stuckCompleted_reaches]
    rfl
  · rw [stuckCompleted_reaches]
    rfl

theorem stuckCompleted_blocks (n : Nat) (s : State) :
    (stuckCompleted n s).recon = s.recon ∧ (stuckCompleted n s).records = s.records ∧
      (stuckCompleted n s).time = s.time ∧ (stuckCompleted n s).alert = (raise .relayFault s).alert := by
  rw [stuckCompleted_reaches]
  exact ⟨rfl, rfl, rfl, rfl⟩

theorem latched_stuckResult (n : Nat) (s : State) : latched (stuckResult n s) .relayFault = true := by
  have hraised : latched (stuckCompleted n s) .relayFault = true := by
    rw [stuckCompleted_reaches]
    exact (latched_raise .relayFault .relayFault s).trans (by simp)
  rw [stuckResult_eq]
  split
  · exact latched_recoverDeparture hraised
  · exact hraised

section

variable {s : State} {n : Nat} {r : Tenant}

/-- Where no tenant departs the STUCK result raises RELAY_FAULT alone (R106, R138). -/
theorem stuckResult_stays (hn : 1 ≤ n) (hlength : n ≤ s.relay.outlets.length) (hstays : (relayOutlet s n).shed = none ∨
      ∀ r, findTenant s (relayOutlet s n).tenant = some r →
        r.standing ≠ .recover ∨ ∃ m ∈ shedOutlets s r.id, m ≠ n) : stuckResult n s = stuckCompleted n s := by
  rw [stuckResult_eq]
  split
  · next hset =>
    exact recoverDeparture_cleared hn hlength (switchFlags_stuckCompleted n s) (fun _ => ⟨rfl, rfl, rfl⟩)
      (by rw [stuckCompleted_reaches]; rfl) (by rw [stuckCompleted_reaches]; rfl)
      (hstays.resolve_left (Option.isSome_iff_ne_none.mp hset))
  · rfl

/-- Where the tenant's last shed outlet is STUCK, the tenant departs (R106, R138). -/
theorem stuckResult_last (hn : 1 ≤ n) (hlength : n ≤ s.relay.outlets.length)
    (hlast : shedOutlets s (relayOutlet s n).tenant = [n]) :
    stuckResult n s = recoverDeparture (relayOutlet s n).tenant (stuckCompleted n s) ∧
      shedOutlets (stuckCompleted n s) (relayOutlet s n).tenant = [] := by
  have hmem : n ∈ shedOutlets s (relayOutlet s n).tenant := by simp [hlast]
  refine ⟨if_pos (mem_shedOutlets.mp hmem).2, ?_⟩
  rw [shedOutlets_cleared hn hlength (switchFlags_stuckCompleted n s) (fun _ => ⟨rfl, rfl, rfl⟩)
    (by rw [stuckCompleted_reaches]; rfl), hlast]
  simp

end

/-- Settles O58: the completion as OFF is compared like any other, and a STUCK result queues nothing but may let its
tenant depart. -/
theorem openVerifyDecides : Obligations.OpenVerifyDecides := by
  intro s hrule
  refine ⟨fun hdue => ?_, fun hhand j x hcoil hlow => ?_, fun hhand j x hcoil hhigh => ?_, fun hnot => ?_⟩
  · obtain ⟨j, x, hcoil⟩ := verifyDue_iff.mp hdue
    have hkept := verifyDue_iff.mpr ⟨j, x, finishClose_holds hcoil⟩
    rw [exec, execOpenVerify, if_pos hdue, exec, execOpenVerify, if_pos hkept, finishClose_finishClose]
  · obtain ⟨hagrees, hopposed, hkept⟩ := completeJob_outcome hrule hcoil rfl .toOpen rfl
    refine ⟨completeJob j.outlet .off s, by rw [exec_openVerify_sample hhand hcoil, if_pos hlow],
      fun hoff => hagrees (wanted_eq_toOpen.mpr hoff), fun hon => hopposed (wanted_eq_toClose.mpr hon),
      fun n _ => ?_, hkept, completeJob_onlyRelay ..⟩
    obtain ⟨hlock, hshed, -⟩ := completeJob_flags rfl n
    exact ⟨hlock, hshed⟩
  · obtain ⟨hn, hlast, -⟩ := hrule.held _ hcoil
    have hlength : j.outlet ≤ s.relay.outlets.length := by rwa [hrule.outlets]
    have hflags : switchFlags (stuckResult j.outlet s) =
        switchFlags (setRelayOutlet j.outlet (fun r => { r with shed := none }) s) := by
      rw [switchFlags, stuckResult_relay]
      exact switchFlags_stuckCompleted ..
    have houtlet (m : Nat) : relayOutlet (stuckResult j.outlet s) m = relayOutlet (stuckCompleted j.outlet s) m := by
      rw [relayOutlet, stuckResult_relay, relayOutlet]
    obtain ⟨hfreed, hstuck, hkept⟩ := stuckCompleted_outcome hrule hcoil rfl
    obtain ⟨hlock, hshed⟩ := flags_of_set hn hlength hflags
    refine ⟨stuckResult j.outlet s, by rw [exec_openVerify_sample hhand hcoil, if_neg (by omega)], ?_,
      (houtlet _).symm ▸ hstuck, hshed, hlock, otherOutletsKept_of_flags hn hflags fun _ => ⟨rfl, rfl⟩,
      latched_stuckResult .., fun hstays => ?_, fun r hfind hx hone => ?_, fun m hm hnot => ?_,
      stuckResult_reaches ..⟩
    · simpa only [CoilFreed, stuckResult_relay, houtlet] using hfreed
    · rw [stuckResult_stays hn hlength hstays, stuckCompleted_reaches]
      exact ⟨rfl, rfl, rfl⟩
    · obtain ⟨hdeparts, hnone⟩ := stuckResult_last hn hlength (findTenant_id hfind ▸ hone)
      obtain ⟨hrecon, hrecords, htime, halert⟩ := stuckCompleted_blocks j.outlet s
      obtain ⟨r', hfind', hnone', hends, hwarmup⟩ :=
        recoverDeparture_outcome ((findTenant_congr hrecon _).trans hfind) hx hnone hdeparts
      rw [hrecon, hrecords] at hends hwarmup
      rw [findTenant_id hfind]
      refine ⟨r', hfind', hnone', fun hzero => ?_, fun hpos => ?_⟩
      · obtain ⟨hdemand, hsame, hroom, hfull⟩ := hends hzero
        refine ⟨hdemand, hsame, fun h => ?_, fun h => ?_⟩
        · obtain ⟨hkept, happended⟩ := hroom h
          exact ⟨by rw [hkept, halert]; rfl, by rw [happended, makeRecord, htime, findTenant_id hfind]⟩
        · obtain ⟨hkept, hlost⟩ := hfull h
          exact ⟨hkept, by rw [hlost, halert]; rfl⟩
      · obtain ⟨hclear, hkept, hsame⟩ := hwarmup hpos
        exact ⟨hclear, hkept, by rw [hsame, halert]; rfl⟩
    · rw [houtlet]
      exact hkept m hm hnot
  · rw [exec, execOpenVerify, if_neg (by simpa [verifyDue_iff] using hnot)]

end Sys2Proof.Machine
end

section
/-! PROOF. The share of an excess (R113). -/

namespace Sys2Proof.Machine

section

variable {t : Tenant}

/-- Without an excess or a local draw there is nothing to share. -/
theorem share_none (h : t.draw ≤ t.contract ∨ t.subtotal = 0) : share t = 0 := if_neg (by omega)

/-- The share of an excess is the quotient by the draw, rounded up. -/
theorem share_excess (hexcess : t.contract < t.draw) (hlocal : 0 < t.subtotal) :
    share t = (t.draw - t.contract) * t.subtotal ⌈/⌉ t.draw := by
  have hdraw : 0 < t.draw := by omega
  rw [share, if_pos ⟨hexcess, hlocal⟩, Nat.ceilDiv_eq_add_pred_div, Nat.add_sub_assoc hdraw]

theorem share_le_iff (hexcess : t.contract < t.draw) (hlocal : 0 < t.subtotal) {x : Nat} :
    share t ≤ x ↔ (t.draw - t.contract) * t.subtotal ≤ x * t.draw := by
  rw [share_excess hexcess hlocal, ceilDiv_le_iff_le_mul (by omega), Nat.mul_comm x]

theorem share_pos (hexcess : t.contract < t.draw) (hlocal : 0 < t.subtotal) : 1 ≤ share t := by
  have hshared : 0 < (t.draw - t.contract) * t.subtotal := Nat.mul_pos (by omega) hlocal
  by_contra hzero
  have hnone := (share_le_iff hexcess hlocal).mp (show share t ≤ 0 by omega)
  omega

/-- The excess is a part of the draw, so its share is a part of the local draw. -/
theorem share_le_subtotal (t : Tenant) : share t ≤ t.subtotal := by
  by_cases hnone : t.draw ≤ t.contract ∨ t.subtotal = 0
  · simp [share_none hnone]
  · push Not at hnone
    obtain ⟨hexcess, hlocal⟩ := hnone
    rw [share_le_iff hexcess (by omega), Nat.mul_comm t.subtotal]
    exact Nat.mul_le_mul_right _ (Nat.sub_le ..)

/-- A station that draws all of it has all of the excess. -/
theorem share_whole (hexcess : t.contract < t.draw) (hall : t.subtotal = t.draw) :
    share t = t.draw - t.contract := by
  have hdraw : 0 < t.draw := by omega
  rw [share_excess hexcess (hall ▸ hdraw), hall, Nat.mul_comm]
  exact smul_ceilDiv hdraw _

end

/-- Settles O31, by the share as a quotient rounded up: the least number whose product with the draw reaches X × L. -/
theorem shareIsRoundedUp : Obligations.ShareIsRoundedUp := by
  unfold Obligations.ShareIsRoundedUp
  refine fun t => ⟨share_none, fun hexcess hlocal => ?_, share_le_subtotal t, share_whole⟩
  have hpositive := share_pos hexcess hlocal
  refine ⟨hpositive, ?_, (share_le_iff hexcess hlocal).mp le_rfl⟩
  rw [← not_le, ← share_le_iff hexcess hlocal]
  omega

end Sys2Proof.Machine
end

section
/-! SUPPORT. The order and the extent of a shed round and of a restore step: sorted candidates, the fewest that reach a
share, and the record appended (R116, R117, R122, R156). -/

namespace Sys2Proof.Machine

/-! ## Sorted candidates -/

section

variable {s : State} {n id : Nat}

/-- The sorted form of a list of distinct numbers is strictly ordered by what the order says of two of them. -/
theorem insertionSort_strict {before strictly : Nat → Nat → Prop} [DecidableRel before] {l : List Nat}
    (htotal : ∀ a b, before a b ∨ before b a) (htrans : ∀ a b c, before a b → before b c → before a c)
    (hdistinct : l.Nodup) (hstrict : ∀ a b, a ≠ b → before a b → strictly a b) :
    (l.insertionSort before).Pairwise strictly := by
  have : Std.Total before := ⟨htotal⟩
  have : IsTrans Nat before := ⟨htrans⟩
  have hsorted := List.pairwise_insertionSort before l
  have hdistinct' := (List.perm_insertionSort before l).nodup_iff.mpr hdistinct
  exact (hsorted.and hdistinct').imp fun ⟨hbefore, hne⟩ => hstrict _ _ hne hbefore

theorem tenantOutlets_nodup (s : State) (id : Nat) : (tenantOutlets s id).Nodup := (presentOutlets_nodup s).filter _

/-- The candidates of a round stand in shed order (R116). -/
theorem shedCandidates_ordered (s : State) (id : Nat) : (shedCandidates s id).Pairwise fun a b =>
    (relayOutlet s b).cls < (relayOutlet s a).cls ∨ ((relayOutlet s a).cls = (relayOutlet s b).cls ∧
      ((meterOutlet s b).average < (meterOutlet s a).average ∨
        ((meterOutlet s a).average = (meterOutlet s b).average ∧ a < b))) := by
  refine insertionSort_strict (fun a b => ?_) (fun a b c => ?_) ((tenantOutlets_nodup s id).filter _) fun a b => ?_ <;>
  · simp only [shedBefore, decide_eq_true_eq]
    omega

/-- The candidates of a step stand in restore order (R122). -/
theorem restoreCandidates_ordered (s : State) (id : Nat) : (restoreCandidates s id).Pairwise fun a b =>
    (relayOutlet s a).cls < (relayOutlet s b).cls ∨ ((relayOutlet s a).cls = (relayOutlet s b).cls ∧
      (powerAtShed s a < powerAtShed s b ∨ (powerAtShed s a = powerAtShed s b ∧ a < b))) := by
  refine insertionSort_strict (fun a b => ?_) (fun a b c => ?_) ((tenantOutlets_nodup s id).filter _) fun a b => ?_ <;>
  · simp only [restoreBefore, decide_eq_true_eq]
    omega

theorem mem_shedCandidates_iff : n ∈ shedCandidates s id ↔
    1 ≤ n ∧ n ≤ 8 * s.loader.params.converterCount ∧ (relayOutlet s n).tenant = id ∧ 1 ≤ (relayOutlet s n).cls ∧
      (relayOutlet s n).relay = .on ∧ (relayOutlet s n).lock = false ∧ (relayOutlet s n).shed = none := by
  simp only [mem_shedCandidates, mem_tenantOutlets, mem_presentOutlets, shedCandidate, decide_eq_true_eq, and_assoc]

theorem mem_restoreCandidates_iff : n ∈ restoreCandidates s id ↔
    1 ≤ n ∧ n ≤ 8 * s.loader.params.converterCount ∧ (relayOutlet s n).tenant = id ∧ (relayOutlet s n).shed ≠ none := by
  simp only [mem_restoreCandidates, mem_shedOutlets, mem_tenantOutlets, mem_presentOutlets, Option.isSome_iff_ne_none,
    and_assoc]

/-- With 24 switching records and at most three converters every present outlet has its record (R11). -/
theorem outletsPlaced_of (hlength : s.relay.outlets.length = 24) (hconverters : s.loader.params.converterCount ≤ 3) :
    OutletsPlaced s := by
  intro n hn
  have := mem_presentOutlets.mp hn
  omega

end

/-! ## The fewest that reach the share -/

section

variable {share : Nat} {power : Nat → Nat}

/-- Without the last of them the outlets taken fall short of the share (R117). -/
theorem takeUntil_dropLast_short (l : List Nat) {sum : Nat} (h : sum < share) :
    sum + ((takeUntil share power sum l).dropLast.map power).sum < share := by
  induction l generalizing sum with
  | nil => exact h
  | cons n rest ih =>
    by_cases hreached : share ≤ sum + power n
    · simpa [takeUntil, hreached] using h
    · have hrest := ih (sum := sum + power n) (by omega)
      cases rest with
      | nil => simpa [takeUntil] using h
      | cons m tail =>
        have hmore : takeUntil share power (sum + power n) (m :: tail) ≠ [] := by simp [takeUntil]
        rw [takeUntil, if_neg hreached, List.dropLast_cons_of_ne_nil hmore, List.map_cons, List.sum_cons,
          ← Nat.add_assoc]
        exact hrest

/-- Outlets taken that fall short of the share are all there are (R117, R118). -/
theorem takeUntil_short (l : List Nat) {sum : Nat}
    (h : sum + ((takeUntil share power sum l).map power).sum < share) : takeUntil share power sum l = l := by
  induction l generalizing sum with
  | nil => rfl
  | cons n rest ih =>
    by_cases hreached : share ≤ sum + power n
    · simp only [takeUntil, if_pos hreached, List.map_cons, List.map_nil, List.sum_cons, List.sum_nil] at h
      omega
    · simp only [takeUntil, if_neg hreached, List.map_cons, List.sum_cons, ← Nat.add_assoc] at h ⊢
      rw [ih h]

end

/-! ## The record -/

theorem appendRecord_records (r : ExcursionRecord) (s : State) :
    (appendRecord r s).records = if s.records.length < 16 then s.records ++ [r] else s.records := by
  split
  · next hroom => rw [appendRecord_room r s hroom]
  · next hfull =>
    rw [appendRecord_full r s (by omega)]
    rfl

theorem appendRecord_latches (r : ExcursionRecord) (s : State) : (appendRecord r s).alert.latches =
    s.alert.latches ||| if 16 ≤ s.records.length then 0x1000#16 else 0#16 := by
  split
  · next hfull =>
    rw [appendRecord_full r s hfull]
    rfl
  · next hroom =>
    rw [appendRecord_room r s (by omega), BitVec.or_zero]

end Sys2Proof.Machine
end

section
/-! PROOF. The restore step (R121 to R126). -/

namespace Sys2Proof.Machine

section

variable {s : State} {t : Tenant} {n id : Nat}

/-- No lower-numbered LIVE peer sheds for the tenant (R124). -/
theorem lowerPeerSheds_eq_false_iff : lowerPeerSheds s id = false ↔
    ∀ e ∈ s.table, e.tenant = id → e.source < s.loader.station → (rosterRecord s e.source).state = .live →
      e.shed = false := by
  simp only [lowerPeerSheds, List.any_eq_false, Bool.and_eq_true, beq_iff_eq, decide_eq_true_eq, not_and]
  grind

theorem restoreAllowed_iff {p : Nat} : restoreAllowed s t p = true ↔
    t.view = .complete ∧ lowerPeerSheds s t.id = false ∧ t.draw + p ≤ t.release := by
  simp [restoreAllowed, and_assoc]

theorem stepOutlet_cons {rest : List Nat} (h : restoreCandidates s t.id = n :: rest) :
    stepOutlet s t = if restoreAllowed s t (powerAtShed s n) then some n else none := by
  rw [stepOutlet, h, List.head?_cons, Option.filter_some]

/-- What the Relay Driver does about a restored outlet (R130 to R133). -/
theorem restoreOutlet_turned (hrule : RelayRule s) (hn : 1 ≤ n) (hlast : n ≤ 24)
    (hshed : (relayOutlet s n).shed.isSome = true) :
    if (relayOutlet s n).lock = true then RelayLeft n s (restoreOutlet n s) else TurnedOn n s (restoreOutlet n s) := by
  split
  · next hlock => exact changeFlags_left (fun _ => rfl) (by simp [RelayOutlet.heldOff, hlock])
  · next hlock =>
    rw [turnedOn_iff]
    exact changeFlags_turned_of hrule hn hlast (fun _ => rfl) (by simp [RelayOutlet.heldOff, hlock, hshed])
      (by simp [RelayOutlet.heldOff, hlock, JobDir.wanted])

/-- The Relay Driver alone decides what has become of an outlet. -/
theorem restored_congr {t u : State} (hrelay : u.relay = t.relay)
    (h : (if (relayOutlet s n).lock = true then RelayLeft n s t else TurnedOn n s t) ∧ RelaysKept [n] s t) :
    (if (relayOutlet s n).lock = true then RelayLeft n s u else TurnedOn n s u) ∧ RelaysKept [n] s u := by
  have hrecord (m : Nat) : relayOutlet u m = relayOutlet t m := by rw [relayOutlet, hrelay, relayOutlet]
  simpa only [RelayLeft, TurnedOn, JobQueued, RelaysKept, hrelay, hrecord] using h

end

/-- Settles O33: the head of the sorted candidates alone is read (`stepOutlet`), and its restore is one change of
flags. -/
theorem restoreStepTakesTheFirst : Obligations.RestoreStepTakesTheFirst := by
  unfold Obligations.RestoreStepTakesTheFirst
  intro s id t ht hlength hconverters power
  refine ⟨fun n => mem_restoreCandidates_iff, restoreCandidates_ordered s id, fun hnone => ?_,
    fun n rest hcandidates => ?_⟩
  · exact restoreStep_none ht (by rw [stepOutlet, findTenant_id ht, hnone]; rfl)
  intro allowed
  have hallowed : allowed ↔ restoreAllowed s t (powerAtShed s n) = true := by
    rw [restoreAllowed_iff, findTenant_id ht, lowerPeerSheds_eq_false_iff]
    rfl
  have houtlet := stepOutlet_cons (s := s) (t := t) (findTenant_id ht ▸ hcandidates)
  refine ⟨fun hnot => ?_, fun hmay => ?_⟩
  · exact restoreStep_none ht (by rw [houtlet, if_neg (hallowed.not.mp hnot)])
  rw [if_pos (hallowed.mp hmay)] at houtlet
  obtain ⟨hn, hlast, -, hshed⟩ := mem_restoreCandidates_iff.mp (hcandidates ▸ .head _ : n ∈ restoreCandidates s id)
  have hplace : n ≤ 24 := by omega
  have hrecords : (restoreOutlet n s).records = s.records := by simp
  have halert : (restoreOutlet n s).alert = s.alert := by simp
  rw [restoreStep_some ht houtlet]
  refine ⟨fun m hm => ?_, fun hroom => ⟨?_, ?_⟩, fun hfull => ⟨?_, ?_⟩, fun hrule => ?_⟩
  · have hcleared := shed_changeFlags hn (hlength ▸ hplace) (fun r => { r with shed := none }) hm
    simpa [relayOutlet, restoreOutlet] using hcleared
  · rw [appendRecord_room _ _ (hrecords ▸ hroom)]
    exact halert
  · rw [appendRecord_records, hrecords, if_pos hroom, makeRecord, findTenant_id ht]
  · rw [appendRecord_records, hrecords, if_neg (by omega)]
  · rw [appendRecord_latches, hrecords, if_pos hfull, halert]
  · exact restored_congr (appendRecord_relay _ _) ⟨restoreOutlet_turned hrule hn hplace
      (Option.isSome_iff_ne_none.mpr hshed), changeFlags_relaysKept hrule hn _⟩

end Sys2Proof.Machine
end

section
/-! PROOF. The shed round (R112, R114 to R118). -/

namespace Sys2Proof.Machine

section

variable {s t : State} {r : Tenant} {n id : Nat}

/-- The outlets shed carry the flag with their average, whatever their relays do (R117). -/
theorem shed_shedOutlets {l : List Nat} (hl : ∀ n ∈ l, 1 ≤ n ∧ n ≤ s.relay.outlets.length) {m : Nat} (hm : 1 ≤ m) :
    (relayOutlet (l.foldl shedOutlet s) m).shed =
      if m ∈ l then some (meterOutlet s m).average else (relayOutlet s m).shed := by
  induction l generalizing s with
  | nil => rfl
  | cons n l ih =>
    obtain ⟨hn, hlength⟩ := hl n (.head _)
    have hplaces : (shedOutlet s n).relay.outlets.length = s.relay.outlets.length :=
      (Moves.changeFlags (.setShed .refl) : Moves s (shedOutlet s n)).length
    have hfirst := shed_changeFlags hn hlength (fun r => { r with shed := some (meterOutlet s n).average }) hm
    rw [List.foldl_cons, ih fun k hk => hplaces ▸ hl k (.tail _ hk), shedOutlet, hfirst,
      meterOutlet_congr (changeFlags_meter ..)]
    by_cases hmem : m ∈ l
    · simp [hmem]
    · by_cases heq : m = n <;> simp [hmem, heq]

/-- An outlet in ON without a flag that is shed gets an OPEN job (R130). -/
theorem shedOutlet_queued (hserves : CoilServes s) (hn : 1 ≤ n) (hlength : n ≤ s.relay.outlets.length)
    (hon : (relayOutlet s n).relay = .on) (hheld : (relayOutlet s n).heldOff = false) :
    JobQueued n .toOpen s (shedOutlet s n) := by
  have hset := relayOutlet_set_self hn hlength fun r => { r with shed := some (meterOutlet s n).average }
  rw [shedOutlet, changeFlags_turned (by rw [hheld]; simp [RelayOutlet.heldOff]),
    compareDesired_opposed (d := .toOpen) (by rw [hset]; simp [RelayOutlet.heldOff, JobDir.wanted])
      (by rw [hset]; exact hon)]
  exact queueJob_queued (s := setRelayOutlet n _ s) hserves hn (by simpa using hlength) .toOpen

/-- From `s` to `t` one job each has been queued, in order; a free coil has taken the first (R130, R135). -/
def JobsQueued (jobs : List Job) (s t : State) : Prop :=
  if s.relay.coil = none ∧ s.restartPending = false then
    t.relay.coil = jobs.head?.map (fun j => ⟨j, .pulse⟩) ∧ t.relay.queue = jobs.tail
  else t.relay.coil = s.relay.coil ∧ t.relay.queue = s.relay.queue ++ jobs

/-- One job and then the others: the coil is held once the first has been queued. -/
theorem JobsQueued.cons {u : State} {d : JobDir} {jobs : List Job} (h : JobQueued n d s t)
    (hpending : t.restartPending = s.restartPending) (g : JobsQueued jobs t u) :
    JobsQueued (⟨n, d, .change⟩ :: jobs) s u := by
  unfold JobQueued at h
  unfold JobsQueued at g ⊢
  split_ifs at h ⊢ with hfree
  · obtain ⟨hcoil, hqueue, -⟩ := h
    rw [if_neg (by simp [hcoil]), hcoil, hqueue] at g
    exact g
  · obtain ⟨hcoil, hqueue, -⟩ := h
    rw [if_neg (by rwa [hcoil, hpending]), hcoil, hqueue, List.append_assoc] at g
    exact g

/-- The OPEN job of a change of flags. -/
def openJob (n : Nat) : Job := ⟨n, .toOpen, .change⟩

/-- Outlets in ON without a flag that are shed get one OPEN job each (R117, R130). -/
theorem shedOutlets_queued (hserves : CoilServes s) {l : List Nat} (hdistinct : l.Nodup)
    (hl : ∀ n ∈ l, (1 ≤ n ∧ n ≤ s.relay.outlets.length) ∧ (relayOutlet s n).relay = .on ∧
      (relayOutlet s n).heldOff = false) : JobsQueued (l.map openJob) s (l.foldl shedOutlet s) := by
  induction l generalizing s with
  | nil =>
    unfold JobsQueued
    split
    · next hfree => exact ⟨hfree.1, hserves hfree.1 hfree.2⟩
    · exact ⟨rfl, (List.append_nil _).symm⟩
  | cons n l ih =>
    obtain ⟨⟨hn, hlength⟩, hon, hheld⟩ := hl n (.head _)
    obtain ⟨hnot, hdistinct'⟩ := List.nodup_cons.mp hdistinct
    have honly : OnlyOutlets [n] s (shedOutlet s n) := changeFlags_onlyOutlets hserves hn _
    have hplaces : (shedOutlet s n).relay.outlets.length = s.relay.outlets.length :=
      (Moves.changeFlags (.setShed .refl) : Moves s (shedOutlet s n)).length
    refine JobsQueued.cons (shedOutlet_queued hserves hn hlength hon hheld) (changeFlags_restartPending ..)
      (ih honly.serves hdistinct' fun m hm => ?_)
    have hkept := honly.kept m (hl m (.tail _ hm)).1.1 (by simpa using fun heq : m = n => hnot (heq ▸ hm))
    rw [hkept.record, hplaces]
    exact hl m (.tail _ hm)

/-- A round that does not look for outlets changes nothing (R113, R114). -/
theorem shedRound_rests (h : findTenant s id = some r)
    (hrests : r.view = .isolated ∧ r.subtotal ≤ r.contract ∨ share r = 0) : shedRound id s = s := by
  rw [shedRound_of h, if_neg]
  rw [roundLooks, decide_eq_true_eq]
  rintro ⟨hlimit, hshare⟩
  rcases hrests with hisolated | hnone
  · exact hlimit hisolated
  · omega

/-- A round that looks for outlets sheds those it takes, appends its record and raises UNRESOLVED where they fall short
(R117, R118). -/
theorem shedRound_looks (h : findTenant s id = some r) (hlooks : roundLooks r = true) :
    shedRound id s =
      let taken := shedTaken s id (share r)
      let kind := if powerOf s taken < share r then .unresolved else .shed
      let u := appendRecord (makeRecord s kind r (share r) taken) (taken.foldl shedOutlet s)
      if powerOf s taken < share r then raise .unresolved u else u := by
  have htaken : roundOutlets s r = shedTaken s id (share r) := by rw [roundOutlets, if_pos hlooks, findTenant_id h]
  rw [shedRound_of h, if_pos hlooks, htaken]
  by_cases hshort : powerOf s (shedTaken s id (share r)) < share r
  · simp [hshort, not_le.mpr hshort]
  · simp [hshort, not_lt.mp hshort]

/-- What a round does to the Relay Driver is what shedding its outlets does (R117). -/
theorem shedRound_relay (h : findTenant s id = some r) (hlooks : roundLooks r = true) :
    (shedRound id s).relay = ((shedTaken s id (share r)).foldl shedOutlet s).relay := by
  rw [shedRound_looks h hlooks]
  simp only
  split <;> simp

theorem shedRound_records_of (h : findTenant s id = some r) (hlooks : roundLooks r = true) :
    (shedRound id s).records =
      let taken := shedTaken s id (share r)
      let kind := if powerOf s taken < share r then .unresolved else .shed
      if s.records.length < 16 then s.records ++ [makeRecord s kind r (share r) taken] else s.records := by
  have hkept := foldl_keeps State.records _ shedOutlet_records (shedTaken s id (share r)) s
  rw [shedRound_looks h hlooks]
  simp only
  split <;> simp only [raise_records, appendRecord_records, hkept]

theorem shedRound_latches_of (h : findTenant s id = some r) (hlooks : roundLooks r = true) :
    (shedRound id s).alert.latches = s.alert.latches |||
      (if powerOf s (shedTaken s id (share r)) < share r then 0x0008#16 else 0#16) |||
        (if 16 ≤ s.records.length then 0x1000#16 else 0#16) := by
  have hkept := foldl_keeps State.records _ shedOutlet_records (shedTaken s id (share r)) s
  have halert := foldl_keeps State.alert _ shedOutlet_alert (shedTaken s id (share r)) s
  rw [shedRound_looks h hlooks]
  simp only
  split
  · rw [raise_latches, appendRecord_latches, hkept, halert, BitVec.or_assoc, BitVec.or_comm (ite ..), ← BitVec.or_assoc]
    rfl
  · rw [appendRecord_latches, hkept, halert, BitVec.or_zero]

end

/-- Settles O32: the round's outlets are what `takeUntil` cuts off the sorted candidates; what each of them
undergoes is carried through the fold that sheds them. -/
theorem shedRoundTakesTheFewest : Obligations.ShedRoundTakesTheFewest := by
  unfold Obligations.ShedRoundTakesTheFewest
  intro s id r hr hlength hconverters cands taken power
  refine ⟨fun n => mem_shedCandidates_iff, shedCandidates_ordered s id, takeUntil_prefix .., shedRound_rests hr,
    fun hlimit hshare => ?_⟩
  have hplaced := outletsPlaced_of hlength hconverters
  have hlooks : roundLooks r = true := decide_eq_true ⟨hlimit, hshare⟩
  have htaken : roundOutlets s r = taken := by rw [roundOutlets, if_pos hlooks, findTenant_id hr]
  obtain ⟨hdistinct, hcandidates⟩ := roundOutlets_candidates hplaced r
  rw [htaken] at hdistinct hcandidates
  have hrelay := shedRound_relay hr hlooks
  have hrecords := shedRound_records_of hr hlooks
  refine ⟨?_, ?_, fun n hn => ?_, fun hroom => ?_, fun hfull => ?_, shedRound_latches_of hr hlooks,
    fun hrule => ⟨?_, ?_⟩⟩
  · exact (Nat.zero_add _).symm.trans_lt (takeUntil_dropLast_short cands hshare)
  · exact fun hshort => takeUntil_short cands ((Nat.zero_add _).trans_lt hshort)
  · rw [relayOutlet, hrelay]
    exact shed_shedOutlets (fun m hm => (hcandidates m hm).2.1) hn
  · rw [hrecords]
    simp only [if_pos hroom, makeRecord, findTenant_id hr]
    rfl
  · rw [hrecords]
    exact if_neg (by omega)
  · have honly := (switched_shedRound hrule.taken hplaced hr).only
    simpa [htaken] using honly.relaysKept
  · rintro jobs rfl
    rw [hrelay]
    exact shedOutlets_queued hrule.taken hdistinct fun m hm => (hcandidates m hm).2

end Sys2Proof.Machine
end

section
/-! SUPPORT. Relay states and jobs (R134, R135): an operation of the Relay Driver changes one outlet's record together with
its job, queued or held, and the other outlets keep theirs. -/

namespace Sys2Proof.Machine

/-! ## The relay states without a job -/

/-- No job belongs to the relay state: the outlet neither waits for the coil nor is worked by it (R134). -/
def RelayState.jobless : RelayState → Bool
  | .openPending | .opening | .closePending | .closing => false
  | _ => true

theorem JobDir.jobless_pending (d : JobDir) : d.pending.jobless = false := by cases d <;> rfl

theorem JobDir.jobless_working (d : JobDir) : d.working.jobless = false := by cases d <;> rfl

theorem JobDir.jobless_settled (d : JobDir) : d.settled.jobless = true := by cases d <;> rfl

theorem RelayState.jobless_or (x : RelayState) :
    x.jobless = true ∨ (∃ d, x = JobDir.pending d) ∨ ∃ d, x = JobDir.working d := by
  cases x
  case openPending => exact .inr (.inl ⟨.toOpen, rfl⟩)
  case closePending => exact .inr (.inl ⟨.toClose, rfl⟩)
  case opening => exact .inr (.inr ⟨.toOpen, rfl⟩)
  case closing => exact .inr (.inr ⟨.toClose, rfl⟩)
  all_goals exact .inl rfl

theorem JobDir.pending_inj {d e : JobDir} (h : d.pending = e.pending) : d = e := by
  cases d <;> cases e <;> simp [JobDir.pending] at h ⊢

theorem JobDir.pending_ne_working (d e : JobDir) : d.pending ≠ e.working := by cases d <;> cases e <;> decide

theorem RelayState.ne_pending {x : RelayState} (h : x.jobless = true) (d : JobDir) : x ≠ d.pending := by
  rintro rfl
  simp [d.jobless_pending] at h

theorem RelayState.ne_working {x : RelayState} (h : x.jobless = true) (d : JobDir) : x ≠ d.working := by
  rintro rfl
  simp [d.jobless_working] at h

/-! ## Relay states, the queue and the coil -/

/-- The relay state `x` of outlet `n` is the one that its jobs in the queue `q` and the coil `c` give it, and each
pending or working state has its job (R130, R134, R135). -/
structure StateMatches (n : Nat) (x : RelayState) (q : List Job) (c : Option CoilJob) : Prop where
  queued : ∀ j ∈ q, j.outlet = n → x = j.dir.pending
  held : ∀ k, c = some k → k.job.outlet = n → x = k.job.dir.working
  pending : ∀ d, x = JobDir.pending d → ∃ j ∈ q, j.outlet = n
  working : ∀ d, x = JobDir.working d → ∃ k, c = some k ∧ k.job.outlet = n

namespace StateMatches

variable {n : Nat} {x : RelayState} {q : List Job} {c : Option CoilJob}

/-- An outlet without a job is in a state without one. -/
theorem of_jobless (hx : x.jobless = true) (hq : ∀ j ∈ q, j.outlet ≠ n) (hc : ∀ k, c = some k → k.job.outlet ≠ n) :
    StateMatches n x q c where
  queued j hj hn := absurd hn (hq j hj)
  held k hk hn := absurd hn (hc k hk)
  pending d hd := absurd hd (RelayState.ne_pending hx d)
  working d hd := absurd hd (RelayState.ne_working hx d)

theorem not_queued (h : StateMatches n x q c) (hx : ∀ d, x ≠ JobDir.pending d) : ∀ j ∈ q, j.outlet ≠ n :=
  fun j hj hn => hx j.dir (h.queued j hj hn)

theorem not_held (h : StateMatches n x q c) (hx : ∀ d, x ≠ JobDir.working d) : ∀ k, c = some k → k.job.outlet ≠ n :=
  fun k hk hn => hx k.job.dir (h.held k hk hn)

end StateMatches

/-- The rule of the Relay Driver but for the coil's taking a job when it is free (R134): every job is an outlet's, at
most one waits for any outlet, and each relay state is matched. -/
structure JobsMatch (s : State) : Prop where
  outlets : s.relay.outlets.length = 24
  oneJob : (s.relay.queue.map Job.outlet).Nodup
  queuePlace : ∀ j ∈ s.relay.queue, 1 ≤ j.outlet ∧ j.outlet ≤ 24
  coilPlace : ∀ k, s.relay.coil = some k → 1 ≤ k.job.outlet ∧ k.job.outlet ≤ 24
  states : ∀ n, 1 ≤ n → n ≤ 24 → StateMatches n (relayOutlet s n).relay s.relay.queue s.relay.coil
  verifyOpens : ∀ j x, s.relay.coil = some ⟨j, .verify x⟩ → j.dir = .toOpen

/-- The outlet whose job the coil holds has none in the queue, since no relay state is both pending and working. -/
theorem relayRule_iff {s : State} : RelayRule s ↔ JobsMatch s ∧ CoilServes s := by
  constructor
  · intro h
    refine ⟨⟨h.outlets, (List.nodup_append.mp h.oneJob).2.1, fun j hj => ?_, fun k hk => ?_, fun n hn hlast => ?_,
      h.verifyOpens⟩, h.taken⟩
    · obtain ⟨hlow, hhigh, -⟩ := h.queued j hj
      exact ⟨hlow, hhigh⟩
    · obtain ⟨hlow, hhigh, -⟩ := h.held k hk
      exact ⟨hlow, hhigh⟩
    · exact ⟨fun j hj hout => hout ▸ (h.queued j hj).2.2, fun k hk hout => hout ▸ (h.held k hk).2.2,
        fun d => h.pendingHasJob n d hn hlast, fun d => h.workingHasCoil n d hn hlast⟩
  · rintro ⟨h, hserves⟩
    have hqueued (j : Job) (hj : j ∈ s.relay.queue) : (relayOutlet s j.outlet).relay = j.dir.pending := by
      obtain ⟨hlow, hhigh⟩ := h.queuePlace j hj
      exact (h.states j.outlet hlow hhigh).queued j hj rfl
    have hheld (k : CoilJob) (hk : s.relay.coil = some k) :
        (relayOutlet s k.job.outlet).relay = k.job.dir.working := by
      obtain ⟨hlow, hhigh⟩ := h.coilPlace k hk
      exact (h.states k.job.outlet hlow hhigh).held k hk rfl
    refine ⟨h.outlets, List.nodup_append.mpr ⟨?_, h.oneJob, ?_⟩, fun j hj => ?_, fun k hk => ?_,
      fun n d hn hlast => (h.states n hn hlast).pending d, fun n d hn hlast => (h.states n hn hlast).working d,
      h.verifyOpens, hserves⟩
    · cases s.relay.coil <;> simp
    · intro a ha b hb hab
      obtain ⟨k, hk, rfl⟩ : ∃ k, s.relay.coil = some k ∧ k.job.outlet = a := by simpa using ha
      obtain ⟨j, hj, rfl⟩ := List.mem_map.mp hb
      exact JobDir.pending_ne_working _ _ ((hqueued j hj).symm.trans (hab ▸ hheld k hk))
    · obtain ⟨hlow, hhigh⟩ := h.queuePlace j hj
      exact ⟨hlow, hhigh, hqueued j hj⟩
    · obtain ⟨hlow, hhigh⟩ := h.coilPlace k hk
      exact ⟨hlow, hhigh, hheld k hk⟩

/-- A job of outlet `n` turns to the other direction (R132). -/
def flipJob (n : Nat) (j : Job) : Job := if j.outlet = n then { j with dir := j.dir.flip } else j

@[simp] theorem flipJob_outlet (n : Nat) (j : Job) : (flipJob n j).outlet = j.outlet := by
  unfold flipJob
  split <;> rfl

theorem mem_map_flipJob {n : Nat} {q : List Job} {j : Job} (h : j.outlet ≠ n) : j ∈ q.map (flipJob n) ↔ j ∈ q := by
  have hkept : flipJob n j = j := if_neg h
  constructor
  · intro hj
    obtain ⟨i, hi, rfl⟩ := List.mem_map.mp hj
    rwa [flipJob, if_neg fun hout => h ((flipJob_outlet n i).trans hout)]
  · exact fun hj => List.mem_map.mpr ⟨j, hj, hkept⟩

namespace JobsMatch

variable {s t : State} {n : Nat}

/-- With no job at all, every outlet is in a state without one. -/
theorem of_noJobs (houtlets : s.relay.outlets.length = 24) (hqueue : s.relay.queue = []) (hcoil : s.relay.coil = none)
    (hstates : ∀ n, 1 ≤ n → n ≤ 24 → (relayOutlet s n).relay.jobless = true) : JobsMatch s where
  outlets := houtlets
  oneJob := by simp [hqueue]
  queuePlace := by simp [hqueue]
  coilPlace := by simp [hcoil]
  states n hn hlast := .of_jobless (hstates n hn hlast) (by simp [hqueue]) (by simp [hcoil])
  verifyOpens := by simp [hcoil]

theorem of_relay (h : JobsMatch s) (hrelay : t.relay = s.relay) : JobsMatch t where
  outlets := hrelay ▸ h.outlets
  oneJob := hrelay ▸ h.oneJob
  queuePlace := hrelay ▸ h.queuePlace
  coilPlace := hrelay ▸ h.coilPlace
  states n hn hlast := by
    rw [relayOutlet, hrelay]
    exact h.states n hn hlast
  verifyOpens := hrelay ▸ h.verifyOpens

/-- The record of outlet `n` changes together with its jobs in the queue and the coil, so that they match again. -/
theorem update (h : JobsMatch s) (hn : 1 ≤ n) (hlast : n ≤ 24) {f : RelayOutlet → RelayOutlet} {q : List Job}
    {c : Option CoilJob} (hqueue : ∀ j : Job, j.outlet ≠ n → (j ∈ q ↔ j ∈ s.relay.queue))
    (hcoil : ∀ k : CoilJob, k.job.outlet ≠ n → (c = some k ↔ s.relay.coil = some k))
    (hone : (q.map Job.outlet).Nodup) (hown : StateMatches n (f (relayOutlet s n)).relay q c)
    (hverify : ∀ j x, c = some ⟨j, .verify x⟩ → j.dir = .toOpen) :
    JobsMatch (setRelayOutlet n f (s.withRelay { s.relay with queue := q, coil := c })) where
  outlets := (setRelayOutlet_length ..).trans h.outlets
  oneJob := hone
  queuePlace j hj := by
    by_cases hout : j.outlet = n
    · exact hout ▸ ⟨hn, hlast⟩
    · exact h.queuePlace j ((hqueue j hout).mp hj)
  coilPlace k hk := by
    by_cases hout : k.job.outlet = n
    · exact hout ▸ ⟨hn, hlast⟩
    · exact h.coilPlace k ((hcoil k hout).mp hk)
  states m hm hmlast := by
    rw [relayOutlet_setRelayOutlet _ _ _ _ hn hm]
    by_cases hmn : m = n
    · subst hmn
      rw [if_pos ⟨rfl, hlast.trans_eq h.outlets.symm⟩]
      exact hown
    · rw [if_neg fun hplace => hmn hplace.1]
      obtain ⟨hqueued, hheld, hpending, hworking⟩ := h.states m hm hmlast
      refine ⟨fun j hj hout => hqueued j ((hqueue j (hout ▸ hmn)).mp hj) hout,
        fun k hk hout => hheld k ((hcoil k (hout ▸ hmn)).mp hk) hout, fun d hd => ?_, fun d hd => ?_⟩
      · obtain ⟨j, hj, hout⟩ := hpending d hd
        exact ⟨j, (hqueue j (hout ▸ hmn)).mpr hj, hout⟩
      · obtain ⟨k, hk, hout⟩ := hworking d hd
        exact ⟨k, (hcoil k (hout ▸ hmn)).mpr hk, hout⟩
  verifyOpens := hverify

/-- A change of an outlet's record alone: it keeps the relay state, or goes from a state without a job to another. -/
theorem setRecord (h : JobsMatch s) (hn : 1 ≤ n) (hlast : n ≤ 24) {f : RelayOutlet → RelayOutlet}
    (hf : (f (relayOutlet s n)).relay = (relayOutlet s n).relay ∨
      (relayOutlet s n).relay.jobless = true ∧ (f (relayOutlet s n)).relay.jobless = true) :
    JobsMatch (setRelayOutlet n f s) := by
  have hbefore := h.states n hn hlast
  refine h.update hn hlast (q := s.relay.queue) (c := s.relay.coil) (fun _ _ => .rfl) (fun _ _ => .rfl) h.oneJob ?_
    h.verifyOpens
  rcases hf with hsame | ⟨hjobless, hjobless'⟩
  · rwa [hsame]
  · exact .of_jobless hjobless' (hbefore.not_queued (RelayState.ne_pending hjobless))
      (hbefore.not_held (RelayState.ne_working hjobless))

/-- A free coil takes the head of the queue, or no job waits for it (R135, R144). -/
theorem coilTake (h : JobsMatch s) : RelayRule (coilTake s) := by
  refine relayRule_iff.mpr ⟨?_, coilTake_serves s⟩
  unfold Machine.coilTake
  split
  · next j rest _ hcoil hqueue =>
    have hj : j ∈ s.relay.queue := hqueue ▸ .head _
    obtain ⟨hn, hlast⟩ := h.queuePlace j hj
    have hone := h.oneJob
    rw [hqueue, List.map_cons, List.nodup_cons] at hone
    obtain ⟨hnot, hone'⟩ := hone
    refine h.update hn hlast (fun i hi => ?_) (fun k hk => ?_) hone' ⟨fun i hi hout => ?_, fun k hk _ => ?_,
      fun d hd => absurd hd.symm (JobDir.pending_ne_working _ _), fun _ _ => ⟨_, rfl, rfl⟩⟩ nofun
    · have hne : i ≠ j := fun heq => hi (heq ▸ rfl)
      simp [hqueue, hne]
    · rw [hcoil]
      exact ⟨fun heq => absurd (Option.some.inj heq ▸ rfl) hk, nofun⟩
    · exact absurd (List.mem_map.mpr ⟨i, hi, hout⟩) hnot
    · obtain rfl := Option.some.inj hk
      rfl
  · exact h

/-- A job is queued for an outlet that has none (R130). -/
theorem queueJob (h : JobsMatch s) (hn : 1 ≤ n) (hlast : n ≤ 24) (hjobless : (relayOutlet s n).relay.jobless = true)
    (d : JobDir) : RelayRule (queueJob n d s) := by
  have hbefore := h.states n hn hlast
  have hnone := hbefore.not_queued (RelayState.ne_pending hjobless)
  have hfree := hbefore.not_held (RelayState.ne_working hjobless)
  refine coilTake (h.update hn hlast (q := s.relay.queue ++ [⟨n, d, .change⟩]) (c := s.relay.coil) (fun j hj => ?_)
    (fun _ _ => .rfl) ?_ ⟨fun j hj hout => ?_, fun k hk hout => absurd hout (hfree k hk),
      fun _ _ => ⟨⟨n, d, .change⟩, by simp, rfl⟩, fun e he => absurd he (JobDir.pending_ne_working _ _)⟩ h.verifyOpens)
  · have hne : j ≠ ⟨n, d, .change⟩ := fun heq => hj (heq ▸ rfl)
    simp [hne]
  · rw [List.map_append, List.nodup_append]
    refine ⟨h.oneJob, by simp, fun a ha b hb => ?_⟩
    obtain ⟨j, hj, rfl⟩ := List.mem_map.mp ha
    obtain rfl : b = n := by simpa using hb
    exact hnone j hj
  · rcases List.mem_append.mp hj with hj | hj
    · exact absurd hout (hnone j hj)
    · obtain rfl := List.mem_singleton.mp hj
      rfl

/-- The job of an outlet that waits for one is removed or reversed (R131, R132). -/
theorem turnBack (h : JobsMatch s) (hn : 1 ≤ n) (hlast : n ≤ 24) {d : JobDir}
    (hpending : (relayOutlet s n).relay = d.pending) {b : RelayState} (hb : b.jobless = true) :
    JobsMatch (turnBack n b s) := by
  obtain ⟨hqueued, hheld, -, -⟩ := h.states n hn hlast
  have hfree : ∀ k, s.relay.coil = some k → k.job.outlet ≠ n := fun k hk hout =>
    JobDir.pending_ne_working _ _ (hpending.symm.trans (hheld k hk hout))
  have hdir : ∀ j ∈ s.relay.queue, j.outlet = n → j.dir = d := fun j hj hout =>
    JobDir.pending_inj ((hqueued j hj hout).symm.trans hpending)
  unfold Machine.turnBack
  split
  · exact h
  · next j hfound =>
    have hj := List.mem_of_find?_eq_some hfound
    have hout : j.outlet = n := by simpa using List.find?_some hfound
    split
    · refine h.update hn hlast (q := s.relay.queue.filter fun i => i.outlet != n) (c := s.relay.coil)
        (fun i hi => by simp [hi]) (fun _ _ => .rfl) ?_ (.of_jobless hb (fun i hi => ?_) hfree) h.verifyOpens
      · exact (List.filter_sublist.map _).nodup h.oneJob
      · simpa using List.of_mem_filter hi
    · refine h.update hn hlast (q := s.relay.queue.map (flipJob n)) (c := s.relay.coil) (fun i hi => mem_map_flipJob hi)
        (fun _ _ => .rfl) ?_ ⟨fun i hi hout' => ?_, fun k hk hout' => absurd hout' (hfree k hk),
          fun _ _ => ⟨flipJob n j, List.mem_map_of_mem hj, (flipJob_outlet n j).trans hout⟩,
          fun e he => absurd he (JobDir.pending_ne_working _ _)⟩ h.verifyOpens
      · simpa [Function.comp_def] using h.oneJob
      · obtain ⟨k, hk, rfl⟩ := List.mem_map.mp hi
        have hkout : k.outlet = n := (flipJob_outlet n k).symm.trans hout'
        simp [flipJob, hkout, hdir k hk hkout, hdir j hj hout]

/-- The comparison acts on an outlet that is settled, or waits for a job, the other way (R129 to R133). -/
theorem compareDesired (h : JobsMatch s) (hn : 1 ≤ n) (hlast : n ≤ 24) : JobsMatch (compareDesired n s) := by
  rw [compareDesired_eq rfl]
  split_ifs with hsettled hpending
  · exact (relayRule_iff.mp (h.queueJob hn hlast (hsettled ▸ JobDir.jobless_settled _) _)).1
  · exact h.turnBack hn hlast hpending (JobDir.jobless_settled _)
  · exact h

/-- A job completes: its outlet is left without one, and the coil takes the next (R136, R138). -/
theorem completeJob (h : JobsMatch s) {k : CoilJob} (hcoil : s.relay.coil = some k) {x : RelayState}
    (hx : x.jobless = true) : RelayRule (completeJob k.job.outlet x s) := by
  obtain ⟨hn, hlast⟩ := h.coilPlace k hcoil
  have hbefore := h.states k.job.outlet hn hlast
  have hworking := hbefore.held k hcoil rfl
  refine coilTake (compareDesired (h.update hn hlast (q := s.relay.queue) (c := none) (fun _ _ => .rfl) (fun i hi => ?_)
    h.oneJob (.of_jobless hx (hbefore.not_queued fun d hd => ?_) nofun) nofun) hn hlast)
  · rw [hcoil]
    exact ⟨nofun, fun heq => absurd (Option.some.inj heq ▸ rfl) hi⟩
  · exact JobDir.pending_ne_working _ _ (hd.symm.trans hworking)

end JobsMatch

/-! ## Every operation of the Relay Driver keeps the rule -/

namespace RelayRule

variable {s t : State} {n : Nat}

theorem frame (h : RelayRule s) (hrelay : t.relay = s.relay)
    (hpending : t.restartPending = false → s.restartPending = false) : RelayRule t := by
  obtain ⟨hjobs, hserves⟩ := relayRule_iff.mp h
  refine relayRule_iff.mpr ⟨hjobs.of_relay hrelay, fun hcoil hp => ?_⟩
  rw [hrelay] at hcoil ⊢
  exact hserves hcoil (hpending hp)

theorem of_noJobs (houtlets : s.relay.outlets.length = 24) (hqueue : s.relay.queue = []) (hcoil : s.relay.coil = none)
    (hstates : ∀ n, 1 ≤ n → n ≤ 24 → (relayOutlet s n).relay.jobless = true) : RelayRule s :=
  relayRule_iff.mpr ⟨.of_noJobs houtlets hqueue hcoil hstates, fun _ _ => hqueue⟩

/-- At a free coil an outlet for which no job waits is in a state without one (R134). -/
theorem jobless (h : RelayRule s) (hqueue : ∀ j ∈ s.relay.queue, j.outlet ≠ n) (hcoil : s.relay.coil = none)
    (hn : 1 ≤ n) (hlast : n ≤ 24) : (relayOutlet s n).relay.jobless = true := by
  rcases RelayState.jobless_or (relayOutlet s n).relay with hx | ⟨d, hx⟩ | ⟨d, hx⟩
  · exact hx
  · obtain ⟨j, hj, hout⟩ := h.pendingHasJob n d hn hlast hx
    exact absurd hout (hqueue j hj)
  · obtain ⟨k, hk, -⟩ := h.workingHasCoil n d hn hlast hx
    exact absurd (hcoil.symm.trans hk) nofun

theorem compareDesired (h : RelayRule s) (hn : 1 ≤ n) (hlast : n ≤ 24) : RelayRule (compareDesired n s) :=
  relayRule_iff.mpr ⟨(relayRule_iff.mp h).1.compareDesired hn hlast, (compareDesired_onlyOutlets h.taken hn).serves⟩

theorem setRecord (h : RelayRule s) (hn : 1 ≤ n) (hlast : n ≤ 24) {f : RelayOutlet → RelayOutlet}
    (hf : (f (relayOutlet s n)).relay = (relayOutlet s n).relay ∨
      (relayOutlet s n).relay.jobless = true ∧ (f (relayOutlet s n)).relay.jobless = true) :
    RelayRule (setRelayOutlet n f s) :=
  relayRule_iff.mpr ⟨(relayRule_iff.mp h).1.setRecord hn hlast hf, h.taken⟩

theorem changeFlags (h : RelayRule s) (hn : 1 ≤ n) (hlast : n ≤ 24) {f : RelayOutlet → RelayOutlet}
    (hf : ∀ r, (f r).relay = r.relay) : RelayRule (changeFlags n f s) := by
  have hset : RelayRule (setRelayOutlet n f s) := h.setRecord hn hlast (.inl (hf _))
  unfold Machine.changeFlags
  split
  · exact hset
  · exact hset.compareDesired hn hlast

theorem completeJob (h : RelayRule s) {k : CoilJob} (hcoil : s.relay.coil = some k) {x : RelayState}
    (hx : x.jobless = true) : RelayRule (completeJob k.job.outlet x s) :=
  (relayRule_iff.mp h).1.completeJob hcoil hx

/-- A STUCK outlet that is cleared has no job until it is compared (R133, R141). -/
theorem clearStuck (h : RelayRule s) (hn : 1 ≤ n) (hlast : n ≤ 24) (hstuck : (relayOutlet s n).relay = .stuck) :
    RelayRule (clearStuck n s) :=
  (h.setRecord hn hlast (.inr ⟨by rw [hstuck]; rfl, rfl⟩)).compareDesired hn hlast

/-- The job that the coil holds goes on to another stage; only an OPEN comes to the verify (R135, R137). -/
theorem withStage (h : RelayRule s) {k : CoilJob} (hcoil : s.relay.coil = some k) {stage : CoilStage}
    (hstage : ∀ x, stage = .verify x → k.job.dir = .toOpen) :
    RelayRule (s.withRelay { s.relay with coil := some ⟨k.job, stage⟩ }) where
  outlets := h.outlets
  oneJob := by simpa [hcoil] using h.oneJob
  queued := h.queued
  held c hc := by
    obtain rfl := Option.some.inj hc
    exact h.held k hcoil
  pendingHasJob := h.pendingHasJob
  workingHasCoil m d hm hmlast hd := by
    obtain ⟨c, hc, hout⟩ := h.workingHasCoil m d hm hmlast hd
    obtain rfl := Option.some.inj (hcoil.symm.trans hc)
    exact ⟨_, rfl, hout⟩
  verifyOpens j x hj := by
    obtain ⟨rfl, rfl⟩ : k.job = j ∧ stage = .verify x := by simpa using hj
    exact hstage x rfl
  taken hfree := nomatch hfree

theorem pulseEnds (h : RelayRule s) : RelayRule (pulseEnds s) := by
  unfold Machine.pulseEnds
  split
  · next hcoil => exact h.withStage hcoil nofun
  · exact h

theorem settleEnds (h : RelayRule s) : RelayRule (settleEnds s) := by
  unfold Machine.settleEnds
  split
  · next hcoil =>
    split
    · exact h.completeJob hcoil rfl
    · next hdir => exact h.withStage hcoil fun _ _ => hdir
  · exact h

theorem takeVerifySample (h : RelayRule s) (f : Nat → Option Nat) : RelayRule (takeVerifySample f s) := by
  unfold Machine.takeVerifySample
  split
  · next j hcoil => exact h.withStage hcoil fun _ _ => h.verifyOpens j none hcoil
  · exact h

theorem recoverDeparture (h : RelayRule s) {id : Nat} : RelayRule (recoverDeparture id s) :=
  h.frame (by simp) (by simp)

theorem stuckResult (h : RelayRule s) {k : CoilJob} (hcoil : s.relay.coil = some k) :
    RelayRule (stuckResult k.job.outlet s) := by
  obtain ⟨hn, hlast, -⟩ := h.held k hcoil
  have hcleared : RelayRule (raise .relayFault (setRelayOutlet k.job.outlet (fun r => { r with shed := none }) s)) :=
    (h.setRecord hn hlast (.inl rfl)).frame rfl id
  have hcompleted : RelayRule (stuckCompleted k.job.outlet s) := hcleared.completeJob hcoil rfl
  rw [stuckResult_eq]
  split
  · exact hcompleted.recoverDeparture
  · exact hcompleted

theorem verifyOpen (h : RelayRule s) : RelayRule (verifyOpen s) := by
  unfold Machine.verifyOpen
  split
  · next hcoil =>
    split
    · exact h.completeJob hcoil rfl
    · exact h.stuckResult hcoil
  · exact h

end RelayRule

end Sys2Proof.Machine
end

section
/-! PROOF. O9: every step keeps each outlet's relay state matched by its jobs. With an image installed the commands reach
the Relay Driver by its own operations at present outlets; a station at rest has no job, and neither has one that is
reset. -/

namespace Sys2Proof.Machine

/-- The rule beside the bound that keeps the present outlets within the switching records (R11). -/
structure RelaysPlaced (s : State) : Prop where
  rule : RelayRule s
  converters : s.loader.params.converterCount ≤ 3

namespace RelaysPlaced

variable {s t : State} {n : Nat}

theorem place (h : RelaysPlaced s) (hn : n ∈ presentOutlets s) : 1 ≤ n ∧ n ≤ 24 := by
  obtain ⟨hlow, hhigh⟩ := mem_presentOutlets.mp hn
  have hconverters := h.converters
  exact ⟨hlow, by omega⟩

theorem changeFlags (h : RelaysPlaced s) (hn : n ∈ presentOutlets s) {f : RelayOutlet → RelayOutlet}
    (hf : ∀ r, (f r).relay = r.relay) : RelaysPlaced (changeFlags n f s) := by
  obtain ⟨hlow, hhigh⟩ := h.place hn
  exact ⟨h.rule.changeFlags hlow hhigh hf, by simpa using h.converters⟩

theorem of_relay (h : RelaysPlaced s) (hrule : RelayRule t) (hloader : t.loader = s.loader) : RelaysPlaced t :=
  ⟨hrule, hloader ▸ h.converters⟩

/-- A close keeps the rule (R117, R126). -/
theorem switching (h : RelaysPlaced s) (hswitching : Switching s t) : RelaysPlaced t := by
  induction hswitching with
  | refl => exact h
  | frame _ hrelay hloader _ hpending ih => exact ih.of_relay (ih.rule.frame hrelay fun hp => hpending ▸ hp) hloader
  | shed _ hn ih => exact ih.changeFlags hn.present fun _ => rfl
  | restore _ hn ih => exact ih.changeFlags hn fun _ => rfl

theorem invariant : RelayInvariant RelaysPlaced where
  frame h hrelay hloader _ hpending := h.of_relay (h.rule.frame hrelay hpending) hloader
  shed h hn := h.changeFlags hn.present fun _ => rfl
  flags h hn hf := h.changeFlags hn fun r => (hf r).relay
  clearStuck h hn hstuck := by
    obtain ⟨hlow, hhigh⟩ := h.place hn
    have hclosed := h.switching (.finishClose .refl)
    have halone := (Switching.finishClose .refl).stuck (h.rule.stuckAlone hlow hstuck)
    exact hclosed.of_relay (hclosed.rule.clearStuck hlow hhigh halone.relay) (by simp)
  pulse h := h.of_relay h.rule.pulseEnds (by simp)
  settle h := h.of_relay h.rule.settleEnds (by simp)
  sample f h := h.of_relay (h.rule.takeVerifySample f) (by simp)
  verify h := h.of_relay h.rule.verifyOpen (by simp)

end RelaysPlaced

/-! ## Resets and installations -/

namespace RelayRule

variable {s t : State} {n : Nat} {im : List Byte}

theorem of_reset (h : s.relay = RelayDriver.reset) : RelayRule s :=
  relayRule_reset.frame (s := State.reset) h fun _ => rfl

/-- The jobs that a restart reset discards leave their outlets in states without one (R144). -/
theorem jobless_stateBeforeJob (j : Job) : (stateBeforeJob j).jobless = true := by
  unfold stateBeforeJob
  split <;> rfl

/-- The restart reset comes at a free coil and discards the queue (R144, R168). -/
theorem restartStation (h : RelayRule s) (hcoil : s.relay.coil = none) (straps : BitVec 4) :
    RelayRule (restartStation straps s) := by
  have hrelay : (Machine.restartStation straps s).relay = (discardJobs s).relay := rfl
  have hqueued : ∀ j ∈ s.relay.queue, 1 ≤ j.outlet ∧ j.outlet ≤ s.relay.outlets.length := fun j hj => by
    obtain ⟨hlow, hhigh, -⟩ := h.queued j hj
    exact ⟨hlow, by rwa [h.outlets]⟩
  have hone := (List.nodup_append.mp h.oneJob).2.1
  refine of_noJobs ?_ rfl ?_ fun n hn hlast => ?_
  · rw [hrelay]
    exact (foldl_keeps (fun u : State => u.relay.outlets.length) undoJob
      (fun _ _ => setRelayOutlet_length ..) s.relay.queue s).trans h.outlets
  · rw [hrelay, discardJobs_coil, hcoil]
  · have hundone : relayOutlet (Machine.restartStation straps s) n = relayOutlet (s.relay.queue.foldl undoJob s) n := rfl
    rw [hundone]
    by_cases hjob : ∃ j ∈ s.relay.queue, j.outlet = n
    · obtain ⟨j, hj, rfl⟩ := hjob
      rw [foldl_undoJob_own hqueued hone hj]
      exact jobless_stateBeforeJob j
    · have hother : ∀ j ∈ s.relay.queue, j.outlet ≠ n := fun j hj hout => hjob ⟨j, hj, hout⟩
      rw [foldl_undoJob_other (fun j hj => (hqueued j hj).1) hn hother]
      exact h.jobless hother hcoil hn hlast

/-- Every present outlet waits for its START job, and the coil takes the first (R143). -/
theorem installPowerOn (hcount : s.loader.params.converterCount ≤ 3) : RelayRule (installPowerOn im s) := by
  refine JobsMatch.coilTake ⟨by simp [outletNumbers], ?_, fun j hj => ?_, nofun, fun n hn hlast => ?_, nofun⟩
  · simpa [Function.comp_def, startJob] using presentOutlets_nodup s
  · obtain ⟨n, hn, rfl⟩ := List.mem_map.mp hj
    obtain ⟨hlow, hhigh⟩ := mem_presentOutlets.mp hn
    exact ⟨hlow, by simp only [startJob]; omega⟩
  · rw [relayOutlet, withRelay_relay, getD_outletNumbers _ hn, if_pos hlast]
    by_cases hin : n ∈ presentOutlets s
    · rw [if_pos (by simpa [present, mem_presentOutlets] using hin)]
      have hstate : (startOutlet im n).relay = (startJob im n).dir.pending := by
        cases hoff : imageOutletOff im n <;> simp [startOutlet, startJob, hoff, JobDir.pending]
      refine ⟨fun j hj hout => ?_, nofun, fun d _ => ⟨_, List.mem_map_of_mem hin, rfl⟩, fun d hd =>
        absurd (hstate.symm.trans hd) (JobDir.pending_ne_working _ _)⟩
      obtain ⟨m, -, rfl⟩ := List.mem_map.mp hj
      obtain rfl : m = n := hout
      exact hstate
    · rw [if_neg (by simpa [present, mem_presentOutlets] using hin)]
      refine .of_jobless rfl (fun j hj hout => hin ?_) nofun
      obtain ⟨m, hm, rfl⟩ := List.mem_map.mp hj
      exact hout ▸ hm

/-- The kept relay states of outlets in ON and OFF are compared one after another (R145). -/
theorem installRestart (h : RelayRule s) (hqueue : s.relay.queue = []) (hcoil : s.relay.coil = none)
    (hcount : s.loader.params.converterCount ≤ 3) : RelayRule (installRestart im s) := by
  have hkept : RelayRule (withKeptOutlets im s) := by
    refine of_noJobs (by simp [withKeptOutlets, outletNumbers]) hqueue hcoil fun n hn hlast => ?_
    rw [relayOutlet_withKeptOutlets hcount hn]
    split
    · exact h.jobless (by simp [hqueue]) hcoil hn hlast
    · rfl
  rw [installRestart_eq]
  refine List.foldlRecOn _ _ hkept fun u hu n hn => ?_
  obtain ⟨hlow, hhigh⟩ := mem_presentOutlets.mp hn
  have hcount' : (withKeptOutlets im s).loader.params.converterCount ≤ 3 := hcount
  exact keeps_ite hu (hu.compareDesired hlow (by omega))

/-- An installation finds the Relay Driver at rest (R143, R145). -/
theorem install (h : RelayRule s) (hqueue : s.relay.queue = []) (hcoil : s.relay.coil = none)
    (haccepted : imageAccepted im = true) : RelayRule (install im s) := by
  obtain ⟨-, -, hcount⟩ := imageAccepted_ranges haccepted
  have hswitched : RelayRule (if s.loader.afterRestart then Machine.installRestart im (installing im s)
      else Machine.installPowerOn im (installing im s)) :=
    keeps_ite (installPowerOn hcount) (installRestart (h.frame rfl id) hqueue hcoil hcount)
  obtain ⟨x, hinstall⟩ : ∃ x, Machine.install im s = enterSearch ((if s.loader.afterRestart then
      Machine.installRestart im (installing im s) else Machine.installPowerOn im (installing im s)).withRecon x) :=
    ⟨_, rfl⟩
  rw [hinstall]
  exact hswitched.frame (by simp) (by simp)

/-- The resets, the end of the hold, and an installation or a rejection keep the rule. -/
theorem exec_loads {c : Instr} (h : RelayRule s) (hrest : RestUntilInstalled s)
    (hclosed : RelayRule (finishClose s)) (hexec : exec c s = .next t) (hc : loads c = true) : RelayRule t := by
  cases c
  case powerOnReset =>
    obtain rfl := Host.Outcome.next.inj hexec
    exact of_reset rfl
  case restartReset straps =>
    obtain rfl := Host.Outcome.next.inj hexec
    split
    · next hdue =>
      obtain ⟨-, -, hcoil⟩ := (restartDue_iff _).mp (restartDue_finishClose hdue)
      exact hclosed.restartStation hcoil straps
    · exact h
  case holdEnd straps =>
    obtain rfl := Host.Outcome.next.inj hexec
    exact keeps_ite h (h.frame rfl id)
  case imageReadComplete im =>
    obtain rfl := Host.Outcome.next.inj hexec
    split
    · next hread =>
      have hr := hrest (by simp [hread])
      split
      · next haccepted => exact h.install hr.queue hr.coil haccepted
      · exact of_reset (by simp [reject])
    · exact h
  all_goals simp [loads] at hc

end RelayRule

/-- Every command keeps the rule: at rest none but those of `loads` reaches the Relay Driver. -/
theorem RelayRule.exec {c : Instr} {s t : State} (h : RelayRule s) (hrest : RestUntilInstalled s) (hmeter : MeterRule s)
    (hexec : exec c s = .next t) : RelayRule t := by
  by_cases hload : s.loader.load = .installed
  · obtain ⟨-, -, hconverters⟩ := hmeter.started hload
    have hplaced : RelaysPlaced s := ⟨h, hconverters⟩
    cases hc : loads c
    · exact (RelaysPlaced.invariant.exec hplaced hexec hc).rule
    · exact h.exec_loads hrest (RelaysPlaced.invariant.finishClose hplaced).rule hexec hc
  · have hr := hrest hload
    cases hc : loads c
    · rw [hr.exec hexec hc]
      exact h.frame rfl id
    · exact h.exec_loads hrest (by rwa [finishClose_none s hr.closeInHand]) hexec hc

theorem RelayRule.idle {s : State} (h : RelayRule s) (hrest : RestUntilInstalled s) (hmeter : MeterRule s) :
    RelayRule (idle s) := by
  by_cases hload : s.loader.load = .installed
  · obtain ⟨-, -, hconverters⟩ := hmeter.started hload
    exact (RelaysPlaced.invariant.idle ⟨h, hconverters⟩).rule
  · rwa [(hrest hload).idle]

/-- Settles O9: a change of an outlet's record takes its job with it, a coil that has become free takes the head of the
queue, and an installation finds no job. -/
theorem stepKeepsRelayRule : Obligations.StepKeepsRelayRule := by
  intro s t hrest hmeter h hstep
  rcases step_cases hstep with ⟨-, rfl⟩ | ⟨c, rest, -, hexec⟩
  · exact h.idle hrest hmeter
  · have hrest' : RestUntilInstalled (s.withPending rest) := fun hload => (hrest hload).withPending rest
    exact (h.frame rfl id : RelayRule (s.withPending rest)).exec hrest' (hmeter.congr rfl rfl rfl) hexec

end Sys2Proof.Machine
end

section
/-! PROOF. O17: what is read of an image, its checks, and its rejection. -/

namespace Sys2Proof.Machine

/-- The format mark, byte by byte or as numbers (R172). -/
theorem formatMark_iff (im : List Byte) :
    (imageByte im 0 = 0x7E ∧ imageByte im 1 = 0x18) ↔ (serialByte im 0 = 0x7E ∧ serialByte im 1 = 0x18) := by
  simp only [imageByte, ← BitVec.toNat_inj]
  rfl

/-- The number of bytes that the memory port reads (R171). -/
theorem imageReadLength_eq (im : List Byte) : imageReadLength im =
    if serialByte im 0 = 0x7E ∧ serialByte im 1 = 0x18 ∧ imageByte im 19 ≤ 24 then 20 + 72 + 11 * imageByte im 19 + 2
    else 20 := by
  simp only [imageReadLength, ← and_assoc, formatMark_iff]
  rfl

/-- Bytes that follow an image in the memory leave those of the image. -/
theorem sameBytes_append {m : Nat} {im : List Byte} (more : List Byte) (h : m ≤ im.length) :
    SameBytes m (im ++ more) im := fun i hi => by
  rw [serialByte, List.getD_append _ _ _ _ (hi.trans_le h), serialByte]

theorem mem_imageTenantIds {im : List Byte} {id : Nat} :
    id ∈ imageTenantIds im ↔ ∃ i, i < imageByte im 19 ∧ imageTenantId im i = id := by
  simp [imageTenantIds, imageTenants]

/-- The tenant ids differ where any two records have different ones (R172). -/
theorem imageTenantIds_nodup_iff {im : List Byte} : (imageTenantIds im).Nodup ↔
    ∀ i j, i < j → j < imageByte im 19 → imageTenantId im i ≠ imageTenantId im j := by
  simp only [imageTenantIds, imageTenants, List.Nodup, List.pairwise_iff_getElem, List.getElem_map, List.getElem_range,
    List.length_map, List.length_range]
  exact ⟨fun h i j hij hj => h i j (hij.trans hj) hj hij, fun h i j _ hj hij => h i j hij hj⟩

/-- The outlet entries name tenants of the image at present outlets, and no tenant at absent ones (R172). -/
theorem outletEntries_iff {im : List Byte} (hcount : imageByte im 6 ≤ 3) :
    (outletNumbers.all (fun n => decide (imageOutletTenant im n = 0) ||
      (decide (n ≤ 8 * imageByte im 6) && (imageTenantIds im).contains (imageOutletTenant im n))) = true) ↔
    (∀ n, 1 ≤ n → n ≤ 8 * imageByte im 6 → imageOutletTenant im n ≠ 0 →
      ∃ i, i < imageByte im 19 ∧ imageTenantId im i = imageOutletTenant im n) ∧
    (∀ n, 8 * imageByte im 6 < n → n ≤ 24 → imageOutletTenant im n = 0) := by
  have hmem (n : Nat) : n ∈ outletNumbers ↔ 1 ≤ n ∧ n ≤ 24 := by
    simp only [outletNumbers, List.mem_map, List.mem_range]
    exact ⟨fun ⟨i, hi, h⟩ => by omega, fun h => ⟨n - 1, by omega, by omega⟩⟩
  simp only [List.all_eq_true, hmem, Bool.or_eq_true, Bool.and_eq_true, decide_eq_true_eq, List.contains_iff_mem,
    mem_imageTenantIds]
  constructor
  · intro h
    refine ⟨fun n hn hpresent hne => ?_, fun n habsent hlast => ?_⟩
    · exact ((h n ⟨hn, by omega⟩).resolve_left hne).2
    · exact (h n ⟨by omega, hlast⟩).resolve_right fun hnamed => absurd hnamed.1 (by omega)
  · rintro ⟨hnamed, hnone⟩ n ⟨hn, hlast⟩
    by_cases hpresent : n ≤ 8 * imageByte im 6
    · by_cases hzero : imageOutletTenant im n = 0
      · exact .inl hzero
      · exact .inr ⟨hpresent, hnamed n hn hpresent hzero⟩
    · exact .inl (hnone n (by omega) hlast)

/-- The checks of an image (R172). -/
theorem imageAccepted_iff (im : List Byte) : imageAccepted im = true ↔
    serialByte im 0 = 0x7E ∧ serialByte im 1 = 0x18 ∧
    imageByte im 19 ≤ 24 ∧
    imageWord im 4 = 92 + 11 * imageByte im 19 ∧
    (serialByte im (imageWord im 4)).toNat = (checkWord (serialBytes im 0 (imageWord im 4))).2 ∧
    (serialByte im (imageWord im 4 + 1)).toNat = (checkWord (serialBytes im 0 (imageWord im 4))).1 ∧
    1 ≤ imageByte im 6 ∧ imageByte im 6 ≤ 3 ∧
    (∀ i, i < imageByte im 19 → imageTenantId im i ≠ 0) ∧
    (∀ i j, i < j → j < imageByte im 19 → imageTenantId im i ≠ imageTenantId im j) ∧
    (∀ n, 1 ≤ n → n ≤ 8 * imageByte im 6 → imageOutletTenant im n ≠ 0 →
      ∃ i, i < imageByte im 19 ∧ imageTenantId im i = imageOutletTenant im n) ∧
    (∀ n, 8 * imageByte im 6 < n → n ≤ 24 → imageOutletTenant im n = 0) := by
  have hzero : (!(imageTenantIds im).contains 0) = true ↔ ∀ i, i < imageByte im 19 → imageTenantId im i ≠ 0 := by
    simp [mem_imageTenantIds]
  by_cases hcount : imageByte im 6 ≤ 3
  · simp only [imageAccepted, Bool.and_eq_true, decide_eq_true_eq, formatMark_iff, checkMatches_iff, hzero,
      imageTenantIds_nodup_iff, outletEntries_iff hcount, and_assoc]
    rfl
  · simp [imageAccepted, hcount]

/-- A rejection with no end-alert gap running drives ALERT_N low whatever the mask (R146, R150). -/
theorem reject_eq {s : State} (hgap : s.alert.gap = none) : reject s = { s with
    loader := { s.loader with load := .rejected }
    relay := ⟨List.replicate 24 ⟨0, 0, .unknown, false, none⟩, [], none⟩
    alert := { s.alert with latches := s.alert.latches ||| 0x8000#16, low := true } } := by
  have hfault : (s.alert.latches ||| EventKind.imageFault.bit).getLsbD 15 = true := by
    rw [BitVec.getLsbD_or, show EventKind.imageFault.bit.getLsbD 15 = true from rfl, Bool.or_true]
  rw [reject, raise_eq]
  simp only [withLoader_alert, withRelay_alert, hgap, hfault, Option.isNone_none, Bool.or_true, Bool.and_true]
  rfl

/-- Settles O17: the judgement is a conjunction of the checks, each over bytes that are read, and a rejection is an
event that no mask keeps from ALERT_N. -/
theorem imagesAreCheckedWhole : Obligations.ImagesAreCheckedWhole := by
  refine ⟨fun im s hload => ?_, fun im more hread => imageAccepted_congr (sameBytes_append more hread),
    imageAccepted_iff, fun im s hload hrejected hgap => ?_⟩
  · simp only [memoryTransfer, pinMemorySelect, hload, decide_true, if_true, imageReadLength_eq]
    rfl
  · rw [← reject_eq hgap]
    simp [exec, execImageReadComplete, hload, hrejected]

end Sys2Proof.Machine
end

section
/-! SUPPORT. What the station does to the Alert Unit: everything but an acknowledgement and a reset leaves every latch
that is set, and whatever changes a latch, the mask or the end-alert gap takes the drive of ALERT_N afresh (R147, R150,
R151). Each operation that a command can take is shown once to do so. -/

namespace Sys2Proof.Machine

/-- From `s` to `t` ALERT_N stays at the level of R150, and no latch is cleared unless an acknowledgement can have been
taken on the way, which is what `acks` says. -/
structure AlertStays (acks : Prop) (s t : State) : Prop where
  rule : AlertRule s → AlertRule t
  latched : ¬ acks → ∀ k, latched s k = true → latched t k = true

namespace AlertStays

variable {acks : Prop} {s t u : State}

theorem refl : AlertStays acks s s := ⟨id, fun _ _ => id⟩

theorem trans (h : AlertStays acks s t) (g : AlertStays acks t u) : AlertStays acks s u :=
  ⟨g.rule ∘ h.rule, fun hacks k hk => g.latched hacks k (h.latched hacks k hk)⟩

/-- An operation that leaves the Alert Unit. -/
theorem frames (h : AlertStays acks s t) (halert : u.alert = t.alert := by simp) : AlertStays acks s u := by
  refine h.trans ⟨fun hrule => ?_, fun _ k hk => ?_⟩
  · rwa [alertRule_iff, halert, ← alertRule_iff]
  · rwa [Machine.latched, halert]

/-- A change of the Alert Unit that clears no latch and takes the drive afresh (R150). -/
theorem refresh (h : AlertStays acks s t) {a : AlertUnit} (halert : u.alert = a.refresh)
    (hlatches : ∀ k, Machine.latched t k = true → a.latches.getLsbD k.number = true) : AlertStays acks s u :=
  h.trans ⟨fun _ => alertRule_of_refresh halert, fun _ k hk => by rw [Machine.latched, halert]; exact hlatches k hk⟩

theorem raise (h : AlertStays acks s t) {k : EventKind} : AlertStays acks s (raise k t) :=
  h.trans ⟨fun _ => alertRule_of_refresh rfl, fun _ j hj => by rw [latched_raise, hj, Bool.true_or]⟩

/-- What moves do, they do by events alone (R147). -/
theorem moves (h : AlertStays acks s t) (hm : Moves t u) : AlertStays acks s u := by
  induction hm with
  | refl => exact h
  | tail _ hmove ih =>
    cases hmove with
    | event => exact ih.raise
    | _ => exact ih.frames

theorem foldl {α : Type} {g : State → α → State}
    (hg : ∀ {t : State} (a : α), AlertStays acks s t → AlertStays acks s (g t a)) (h : AlertStays acks s t)
    (l : List α) : AlertStays acks s (l.foldl g t) :=
  List.foldlRecOn l g h fun _ ht a _ => hg a ht

/-! ## Outlets, the coil and the close -/

theorem lockOutlet (h : AlertStays acks s t) {n : Nat} : AlertStays acks s (lockOutlet n t) := by
  simp only [Machine.lockOutlet]
  split
  · exact (h.frames (u := Machine.changeFlags n _ t)).moves (.recoverDeparture .refl)
  · exact h.frames

theorem stuckResult (h : AlertStays acks s t) {n : Nat} : AlertStays acks s (stuckResult n t) := by
  have hfault := h.moves (.raise (.setShed .refl (n := n) (x := none)) (k := .relayFault))
  simp only [Machine.stuckResult]
  split
  · exact (hfault.frames (u := Machine.completeJob n .stuck _)).moves (.recoverDeparture .refl)
  · exact hfault.frames

theorem verifyOpen (h : AlertStays acks s t) : AlertStays acks s (verifyOpen t) := by
  unfold Machine.verifyOpen
  split
  · split
    · exact h.frames
    · exact h.stuckResult
  · exact h

theorem endClose (h : AlertStays acks s t) : AlertStays acks s (endClose t) := by
  have hpublished : AlertStays acks s (publishReport (endWarmupClose t)) := by
    simp only [publishReport]
    split
    · exact (h.frames (u := (endWarmupClose t).withLink _)).raise
    · exact h.frames
  exact hpublished.frames rfl

theorem finishClose (h : AlertStays acks s t) : AlertStays acks s (finishClose t) := by
  by_cases hhand : t.closeInHand = none
  · rwa [finishClose_none t hhand]
  · obtain ⟨u, hu, heq⟩ := finishClose_moves hhand
    rw [heq]
    exact (h.moves hu).endClose

theorem closePeriod (h : AlertStays acks s t) : AlertStays acks s (closePeriod t) :=
  (h.finishClose.frames (u := beginClose (Machine.finishClose t))).finishClose

theorem workOn (h : AlertStays acks s t) : AlertStays acks s (workOn t) := by
  unfold Machine.workOn
  split
  · exact h
  · exact h.endClose
  · next id _ _ => exact (h.moves (.tenantFigures .refl (id := id))).frames
  · next id _ _ => exact (h.moves (.tenantStanding .refl (id := id))).frames
  · next id _ _ => exact (h.moves (.tenantDeparture .refl (id := id))).frames

/-! ## The roster and the Contribution Table -/

theorem setLinkState (h : AlertStays acks s t) {l : LinkState} : AlertStays acks s (setLinkState l t) := h.frames

theorem testAlone (h : AlertStays acks s t) : AlertStays acks s (testAlone t) := by
  unfold Machine.testAlone
  split
  · exact (h.frames (u := enterAlone t)).raise
  · exact h

theorem expireStation (h : AlertStays acks s t) {n : Nat} : AlertStays acks s (expireStation n t) :=
  (h.frames (u := clearOverflow n ((setRosterRecord n RosterRecord.blank t).withTable _))).testAlone

theorem settleRoster (h : AlertStays acks s t) : AlertStays acks s (settleRoster t) := by
  refine foldl (fun n h => ?_) (foldl (fun n h => ?_) h _) _
  · split
    · exact h.expireStation
    · exact h
  · split
    · exact h.frames
    · exact h

theorem createEntry (h : AlertStays acks s t) {src : Nat} {e : ReportEntry} {r : Tenant} :
    AlertStays acks s (createEntry src e r t) := by
  have halert := createEntry_alert (src := src) (e := e) (r := r) (s := t)
  split at halert
  · exact h.frames halert
  · exact h.raise.frames halert

theorem applyEntry (h : AlertStays acks s t) {src : Nat} {e : ReportEntry} :
    AlertStays acks s (applyEntry src t e) := by
  unfold Machine.applyEntry
  split
  · exact h
  · split_ifs
    · exact h.frames
    · exact h.createEntry
    · unfold applyToFullTable
      split
      · next v _ =>
        exact (h.frames (u := setOverflowBit v.source v.tenant (removeEntry v.source v.tenant t))).createEntry.raise
      · exact (h.frames (u := setOverflowBit src e.tenant t)).raise

theorem takeReport (h : AlertStays acks s t) {src ticks : Nat} {es : List ReportEntry} :
    AlertStays acks s (takeReport src ticks es t) := by
  have hrecord : AlertStays acks s (setRosterRecord src ⟨.live, 0, clampTo 5 50 ticks⟩ t) := h.frames
  have hentries := foldl (g := Machine.applyEntry src) (fun _ h => h.applyEntry) hrecord es
  have homitted := foldl (g := omitTenant src) (fun _ h => h.frames) hentries
  simp only [Machine.takeReport]
  split
  · exact (homitted _).setLinkState
  · exact homitted _

/-! ## The commands of the gateway -/

theorem queryStatusEffect (h : AlertStays acks s t) {arg : List Byte} :
    AlertStays acks s (queryStatusEffect arg t) := by
  unfold Machine.queryStatusEffect
  split
  · exact h.finishClose.frames
  · exact h.frames

theorem queryOutletEffect (h : AlertStays acks s t) {arg : List Byte} :
    AlertStays acks s (queryOutletEffect arg t) := by
  unfold Machine.queryOutletEffect
  split
  · exact h.finishClose.frames
  · exact h.frames

theorem lockOffEffect (h : AlertStays acks s t) {arg : List Byte} : AlertStays acks s (lockOffEffect arg t) := by
  unfold Machine.lockOffEffect
  split
  · exact h.frames
  · next n _ =>
    split
    · exact h.frames
    · exact (h.finishClose.lockOutlet (n := n)).frames

theorem unlockEffect (h : AlertStays acks s t) {arg : List Byte} : AlertStays acks s (unlockEffect arg t) := by
  unfold Machine.unlockEffect
  split
  · exact h.frames
  · exact h.finishClose.frames

theorem clearFaultEffect (h : AlertStays acks s t) {arg : List Byte} :
    AlertStays acks s (clearFaultEffect arg t) := by
  unfold Machine.clearFaultEffect
  split
  · exact h.frames
  · split
    · exact h.finishClose.frames
    · exact h.frames

/-- An acknowledgement takes the drive afresh, and is the one command that clears latches (R150, R151). -/
theorem ackEventsEffect (h : AlertStays acks s t) {arg : List Byte} (hacks : acks) :
    AlertStays acks s (ackEventsEffect arg t) := by
  unfold Machine.ackEventsEffect
  split
  · exact h.frames
  · next set _ =>
    have hcleared : AlertStays acks t (t.withAlert (t.alert.acknowledge set)) :=
      ⟨fun _ => alertRule_of_refresh rfl, absurd hacks⟩
    exact (h.trans hcleared).frames

theorem endAlertEffect (h : AlertStays acks s t) {arg : List Byte} : AlertStays acks s (endAlertEffect arg t) := by
  unfold Machine.endAlertEffect
  split
  · exact (h.refresh (u := startGap t) rfl fun _ => id).frames
  · exact h.frames

theorem commandEffect (h : AlertStays acks s t) {code : Byte} {arg : List Byte} (hacks : code = 6 → acks) :
    AlertStays acks s (commandEffect code arg t) := by
  unfold Machine.commandEffect
  split
  · exact h.queryStatusEffect
  · exact h.queryOutletEffect
  · exact h.lockOffEffect
  · exact h.unlockEffect
  · exact h.clearFaultEffect
  · next hcode => exact h.ackEventsEffect (hacks (BitVec.eq_of_toNat_eq hcode))
  · exact h.endAlertEffect
  · exact h.frames
  · exact h.frames
  · exact h.frames

theorem receiveCommand (h : AlertStays acks s t) {arg : List Byte} {f : State → State} (hf : AlertStays acks s (f t)) :
    AlertStays acks s (receiveCommand arg f t) := by
  unfold Machine.receiveCommand
  split_ifs
  · exact h
  · exact h.raise
  · exact hf

end AlertStays

/-! ## Frames, characters and transmissions -/

/-- The frame is a COMMAND that carries an ACK_EVENTS (R151, R159). -/
def FrameAcks (b : List Byte) : Prop := linkKind b = 2 ∧ (linkPayload b).getD 1 0 = 6

/-- A frame that has all its characters waits to be judged, and carries an ACK_EVENTS (log entry 7). -/
def AcksByFrame (s : State) : Prop := ∃ b, completedFrame s = some b ∧ FrameAcks b

namespace AlertStays

variable {acks : Prop} {s t : State}

theorem deliverByKind (h : AlertStays acks s t) {b : List Byte} (hacks : FrameAcks b → acks) :
    AlertStays acks s (deliverByKind b t) := by
  unfold Machine.deliverByKind
  split
  · unfold deliverReport
    split_ifs
    · exact h.setLinkState.raise
    · exact h
    · exact h
    · exact h.takeReport
  · next hkind =>
    unfold deliverCommand
    split
    · next target code arg hpayload =>
      split
      · exact h.receiveCommand (h.commandEffect fun hcode => hacks ⟨hkind, by simpa [hpayload] using hcode⟩)
      · exact h
    · exact h
  · exact h

theorem deliverFrame (h : AlertStays acks s t) {b : List Byte} (hacks : FrameAcks b → acks) :
    AlertStays acks s (deliverFrame b t) := by
  have hsettled : AlertStays acks s (settleForReport b t) := by
    unfold settleForReport
    split
    · exact h.finishClose.settleRoster
    · exact h
  simp only [Machine.deliverFrame]
  split
  · exact ((hsettled.frames (u := adoptRate (hearFrame _))).deliverByKind hacks).testAlone
  · exact (hsettled.frames (u := hearFrame _)).deliverByKind hacks

theorem completeFrame (h : AlertStays acks s t) (hacks : AcksByFrame t → acks) :
    AlertStays acks s (completeFrame t) := by
  unfold Machine.completeFrame
  split
  · exact h
  · next b hb =>
    have htaken : AlertStays acks s (t.withLink { t.link with assembler := .waitQuiet }) := h.frames
    simp only
    split
    · exact htaken.deliverFrame fun hframe => hacks ⟨b, hb, hframe⟩
    · exact htaken

theorem takeCharacter (h : AlertStays acks s t) {levels : BitVec 11} (hacks : AcksByFrame t → acks) :
    AlertStays acks s (takeCharacter levels t) := by
  unfold Machine.takeCharacter
  split
  · exact (h.completeFrame hacks).frames
  · exact h

theorem enterMuted (h : AlertStays acks s t) : AlertStays acks s (enterMuted t) :=
  (h.frames (u := (Machine.setLinkState .muted t).withMonitor _)).raise

theorem countFault (h : AlertStays acks s t) : AlertStays acks s (countFault t) := by
  have hcounted : AlertStays acks s (t.withMonitor { t.monitor with faults := t.monitor.faults + 1 }) := h.frames
  simp only [Machine.countFault]
  split
  · exact hcounted.enterMuted
  · exact hcounted

theorem faultFrame (h : AlertStays acks s t) {k : SendKind} {bit : Nat} : AlertStays acks s (faultFrame k bit t) := by
  have hdropped : AlertStays acks s (dropFrame (outFrame t k) bit t) := h.frames
  cases k
  case lineCheck =>
    simp only [Machine.faultFrame, checkFailed]
    split
    · exact hdropped.enterMuted
    · exact hdropped.frames
    · exact hdropped
  case response | report => exact (hdropped.frames (u := countAttempt _ _)).countFault

/-! ## Ticks -/

theorem startRead (h : AlertStays acks s t) : AlertStays acks s (startRead t) := by
  have hsettled := h.finishClose.verifyOpen.settleRoster
  have hdue : AlertStays acks s (takeDueWork t) := by
    simp only [takeDueWork]
    split
    · exact hsettled.closePeriod
    · exact hsettled
  exact hdue.frames (by simp [Machine.startRead])

theorem missedRead (h : AlertStays acks s t) {c : Nat} : AlertStays acks s (endRead c (missFrame c t)) := by
  cases hdue : unmeasuredDue t c
  · exact h.frames (by rw [endRead_alert, missFrame_alert_rest hdue])
  · exact h.raise.frames (by rw [endRead_alert, missFrame_alert_due hdue])

/-! ## Installation -/

/-- An installation changes the mask and no latch (R149, R174). -/
theorem install (h : AlertStays acks s t) {im : List Byte} : AlertStays acks s (install im t) := by
  obtain ⟨_, _, heq⟩ := install_eq im t
  exact h.refresh (a := { t.alert with mask := (imageParams im).alertMask }) (by simp [heq]) fun _ => id

theorem reject (h : AlertStays acks s t) : AlertStays acks s (reject t) :=
  (h.frames (u := (t.withRelay RelayDriver.reset).withLoader _)).raise

end AlertStays

/-! ## Every command and every step -/

/-- The command clears latches, or can bring about that some are cleared: a reset, an ACK_EVENTS, and a row that
completes a frame which carries one (R148, R151; log entry 7). -/
def clearsLatches (c : Instr) (s : State) : Prop :=
  match c with
  | .powerOnReset | .restartReset _ | .ackEvents _ => True
  | .invalidCommand code _ => code = 6
  | .frameCompletion | .character _ | .searchOnCharacterErrors _ | .assemblerArmed | .attemptStart => AcksByFrame s
  | _ => False

/-- A reset takes every latch, and leaves ALERT_N released (R148, R154). -/
theorem alertStays_reset {acks : Prop} {s t : State} (hacks : acks) (halert : t.alert = AlertUnit.reset) :
    AlertStays acks s t :=
  ⟨fun _ => by rw [alertRule_iff, halert]; rfl, absurd hacks⟩

theorem alertStays_exec {c : Instr} {s t : State} (hexec : exec c s = .next t) :
    AlertStays (clearsLatches c s) s t := by
  have h : AlertStays (clearsLatches c s) s s := .refl
  have hif {p : Prop} [Decidable p] {u : State} (hu : AlertStays (clearsLatches c s) s u) :
      AlertStays (clearsLatches c s) s (if p then u else s) := by
    split
    · exact hu
    · exact h
  cases c
  all_goals obtain rfl := Host.Outcome.next.inj hexec
  case powerOnReset => exact alertStays_reset trivial rfl
  case restartReset straps => exact hif (alertStays_reset trivial rfl)
  case holdEnd straps => exact hif (h.frames rfl)
  case imageReadComplete im =>
    refine hif ?_
    split
    · exact h.install
    · exact h.reject
  case tick => exact hif h.startRead
  case captureCompletion f =>
    split
    · exact h
    · split
      · exact h.frames
      · exact h.missedRead
  case outletUnmeasured =>
    split
    · exact h
    · exact hif h.missedRead
  case stationLate n => exact hif h.frames
  case stationExpiry n => exact hif h.expireStation
  case periodClose | graceExpiry | settleExpiry | restoreCounterExpiry | checkCountdownExpiry => exact hif h.closePeriod
  case character levels => exact h.takeCharacter id
  case searchOnCharacterErrors levels => exact hif (h.takeCharacter id)
  case assemblerArmed => exact hif (h.completeFrame id).frames
  case gapError =>
    split
    · exact hif h.frames
    · exact h
  case frameCompletion => exact h.completeFrame id
  case queryStatus arg => exact h.receiveCommand h.queryStatusEffect
  case queryOutlet arg => exact h.receiveCommand h.queryOutletEffect
  case lockOff arg => exact h.receiveCommand h.lockOffEffect
  case unlock arg => exact h.receiveCommand h.unlockEffect
  case clearFault arg => exact h.receiveCommand h.clearFaultEffect
  case ackEvents arg => exact h.receiveCommand (h.ackEventsEffect trivial)
  case endAlert arg => exact h.receiveCommand h.endAlertEffect
  case fetchRecord | restart => exact h.receiveCommand h.frames
  case invalidCommand code arg => exact h.receiveCommand (h.commandEffect id)
  case attemptStart => exact hif (h.completeFrame id).frames
  case yieldLine bit =>
    split
    · exact hif h.frames
    · exact h
  case transmitFault | txFaultLimit =>
    split
    · exact hif h.faultFrame
    · exact h
  case transmitSuccess =>
    split
    · exact h.frames
    · exact h
  case dwellExpiry => exact hif h.frames
  case pulseEnd => exact h.frames
  case settleEnd => exact hif h.finishClose.frames
  case openVerify => exact hif h.finishClose.verifyOpen
  case gapExpiry => exact hif (h.refresh (u := endGap s) rfl fun _ => id)

theorem alertStays_idle (s : State) : AlertStays (AcksByFrame s) s (idle s) := by
  have h : AlertStays (AcksByFrame s) s s := .refl
  unfold idle
  split_ifs
  · exact h.completeFrame id
  · exact h.workOn
  · exact h.verifyOpen
  · simp only [beginDueWork]
    split
    · exact h.settleRoster.frames
    · exact h.settleRoster
  · exact h.frames
  · exact h.frames
  · exact h

end Sys2Proof.Machine
end

section
/-! PROOF. O5 and O12: ALERT_N keeps the level of R150, and a latch stays until it is acknowledged. -/

namespace Sys2Proof.Machine

/-- Settles O5: whatever changes the Alert Unit takes the drive afresh. -/
theorem stepKeepsAlertRule : Obligations.StepKeepsAlertRule := by
  intro s t hrule hstep
  rcases step_cases hstep with ⟨-, rfl⟩ | ⟨c, rest, -, hexec⟩
  · exact (alertStays_idle s).rule hrule
  · exact (alertStays_exec hexec).rule hrule

/-- Settles O12: a command that carries no acknowledgement and is no reset reaches the latches by events alone. -/
theorem latchesStayUntilAcknowledged : Obligations.LatchesStayUntilAcknowledged := by
  intro c s t k hexec hk hc
  have hkeeps : ¬ clearsLatches c s := by
    cases c
    case powerOnReset | restartReset | ackEvents => exact hc.elim
    case invalidCommand => exact hc
    case frameCompletion | character | searchOnCharacterErrors | assemblerArmed | attemptStart =>
      rintro ⟨b, hb, hkind, hcode⟩
      exact hc b hb hkind hcode
    all_goals exact id
  exact (alertStays_exec hexec).latched hkeeps k hk

end Sys2Proof.Machine
end

section
/-! PROOF. O55: ACK_EVENTS, END_ALERT and the end of the end-alert gap. -/

namespace Sys2Proof.Machine

section

variable {arg : List Byte} {s : State}

theorem exec_ackEvents (h : CommandTaken arg s) : exec (.ackEvents arg) s = .next (ackEventsEffect arg s) := by
  rw [exec, execAckEvents, h.receiveCommand]

theorem exec_endAlert (h : CommandTaken arg s) : exec (.endAlert arg) s = .next (endAlertEffect arg s) := by
  rw [exec, execEndAlert, h.receiveCommand]

/-- The first byte of an ACK_EVENTS argument names kinds 0 to 7, the second kinds 8 to 15 (R166, R176). -/
theorem twoByteSet_pair (x y : Byte) : twoByteSet [x, y] = some (y ++ x) := by
  have hbytes : BitVec.ofNat 16 (leNat [x, y]) = y ++ x := by
    apply BitVec.eq_of_toNat_eq
    rw [BitVec.toNat_append, ← Nat.shiftLeft_add_eq_or_of_lt x.isLt, Nat.shiftLeft_eq]
    simp only [leNat, BitVec.toNat_ofNat]
    omega
  rw [twoByteSet, hbytes]

theorem twoByteSet_eq_none (h : arg.length ≠ 2) : twoByteSet arg = none := by
  unfold twoByteSet
  split
  · exact absurd rfl h
  · rfl

/-- ACK_EVENTS reaches the Alert Unit and the answer alone (R151, R166). -/
theorem ackEventsEffect_pair (hslot : s.link.slot = none) (x y : Byte) : ackEventsEffect [x, y] s =
    { s with link := answered s 0x06 .done [], alert := s.alert.acknowledge (y ++ x) } := by
  rw [ackEventsEffect, twoByteSet_pair]
  exact respond_answered (s := s.withAlert _) _ _ _ hslot

/-- END_ALERT releases ALERT_N, which stays released while the gap runs (R152). -/
theorem endAlertEffect_nil (hslot : s.link.slot = none) : endAlertEffect [] s = { s with
    link := answered s 0x07 .done []
    alert := { s.alert with gap := some (if s.loader.params.gapSelect = 0 then 10 else 1000), low := false } } := by
  rw [endAlertEffect, if_pos rfl]
  exact respond_answered (s := startGap s) _ _ _ hslot

end

/-- Settles O55: each command takes the drive afresh after its change of the latches or of the gap. -/
theorem alertCommandsAct : Obligations.AlertCommandsAct := by
  refine ⟨fun arg s htaken => ⟨?_, fun hlength => ?_⟩, fun arg s => ⟨?_, ?_, fun hgap => ?_, fun hgap => ?_⟩⟩
  · rintro x y rfl
    rw [exec_ackEvents htaken, ackEventsEffect_pair htaken.slot]
    exact ⟨_, rfl, alertRule_of_refresh rfl, rfl, rfl, rfl, rfl⟩
  · rw [exec_ackEvents htaken, ackEventsEffect, twoByteSet_eq_none hlength, ← respond_answered _ _ _ htaken.slot]
  · rintro htaken rfl
    rw [exec_endAlert htaken, endAlertEffect_nil htaken.slot]
  · intro htaken hbytes
    rw [exec_endAlert htaken, endAlertEffect, if_neg hbytes, respond_answered _ _ _ htaken.slot]
  · refine ⟨endGap s, ?_, alertRule_of_refresh rfl, rfl⟩
    rw [exec, execGapExpiry, if_pos (Option.isSome_iff_ne_none.mpr hgap)]
  · simp [exec, execGapExpiry, hgap]

end Sys2Proof.Machine
end

section
/-! PROOF. O56: FETCH_RECORD, RESTART, and the answer to an unknown code. -/

namespace Sys2Proof.Machine

section

variable {arg : List Byte} {s : State}

theorem exec_fetchRecord (h : CommandTaken arg s) :
    exec (.fetchRecord arg) s = .next (fetchRecordEffect arg s) := by rw [exec, execFetchRecord, h.receiveCommand]

theorem exec_restart (h : CommandTaken arg s) : exec (.restart arg) s = .next (restartEffect arg s) := by
  rw [exec, execRestart, h.receiveCommand]

theorem exec_invalidCommand (h : CommandTaken arg s) (code : Byte) :
    exec (.invalidCommand code arg) s = .next (commandEffect code arg s) := by
  rw [exec, execInvalidCommand, h.receiveCommand]

/-- A code that is none of the nine is answered INVALID, whatever its argument (R162). -/
theorem commandEffect_unknown {code : Byte} (h : code = 0 ∨ 9 < code.toNat) (arg : List Byte) (s : State) :
    commandEffect code arg s = respond code .invalid [] s := by
  have hrange : code.toNat = 0 ∨ 9 < code.toNat := h.imp_left fun hzero => by simp [hzero]
  unfold commandEffect
  split
  case h_10 => rfl
  all_goals omega

end

/-- Settles O56: a command that is taken is executed, and its answer reaches the Link Transceiver alone. -/
theorem recordAndRestartCommandsAct : Obligations.RecordAndRestartCommandsAct := by
  refine ⟨rfl, fun arg s htaken => ⟨?_, ?_, fun hbytes => ?_⟩,
    fun code arg s htaken => ⟨?_, fun hbytes => ?_, fun hcode => ?_⟩⟩
  · rintro rfl hempty
    rw [exec_fetchRecord htaken, fetchRecordEffect, if_pos rfl, ← respond_answered _ _ _ htaken.slot]
    simp only [hempty]
  · rintro r rest rfl hrecords
    rw [exec_fetchRecord htaken, fetchRecordEffect, if_pos rfl, hrecords]
    exact congrArg _ (respond_answered (s := s.withRecords rest) _ _ _ htaken.slot)
  · rw [exec_fetchRecord htaken, fetchRecordEffect, if_neg hbytes, respond_answered _ _ _ htaken.slot]
  · rintro rfl
    rw [exec_restart htaken, restartEffect, if_pos rfl, respond_answered _ _ _ htaken.slot]
    rfl
  · rw [exec_restart htaken, restartEffect, if_neg hbytes, respond_answered _ _ _ htaken.slot]
  · rw [exec_invalidCommand htaken, commandEffect_unknown hcode, respond_answered _ _ _ htaken.slot]

end Sys2Proof.Machine
end

section
/-! PROOF. O49: the commands of the gateway that are ignored, discarded or refused. -/

namespace Sys2Proof.Machine

section

variable {arg : List Byte} {x : Byte} {s : State}

/-- Every link state but LINK_OFF and SEARCH takes commands (R161). -/
theorem takesCommands_eq_false_iff (l : LinkState) : takesCommands l = false ↔ l = .linkOff ∨ l = .search := by
  cases l <;> simp [takesCommands]

/-! ## A command that is ignored or discarded -/

theorem exec_gatewayRow_ignored (code : Byte) (h : 2 < arg.length ∨ s.monitor.link = .linkOff ∨
    s.monitor.link = .search ∨ s.restartPending = true) : exec (gatewayRow code arg) s = .next s := by
  rw [← or_assoc (a := s.monitor.link = .linkOff), ← takesCommands_eq_false_iff] at h
  rw [exec_gatewayRow, receiveCommand_ignored _ _ _ h]

theorem exec_gatewayRow_overrun (code : Byte) (hlength : arg.length ≤ 2) (hoff : s.monitor.link ≠ .linkOff)
    (hsearch : s.monitor.link ≠ .search) (hrestart : s.restartPending = false) (hslot : s.link.slot ≠ none) :
    exec (gatewayRow code arg) s = .next (raise .commandOverrun s) := by
  have htakes : takesCommands s.monitor.link = true := by
    rw [← Bool.not_eq_false, takesCommands_eq_false_iff]
    exact not_or.mpr ⟨hoff, hsearch⟩
  rw [exec_gatewayRow, receiveCommand_overrun _ _ _ hlength htakes hrestart hslot]

/-! ## An outlet command that is refused -/

/-- An argument that is not one byte naming a present outlet names none (R162). -/
theorem outletArg_eq_none (h : ∀ x : Byte, arg = [x] → present s x.toNat = false) : outletArg s arg = none := by
  unfold outletArg oneByteArg
  split
  · next x => simp [h x rfl]
  · rfl

theorem exec_lockOff_absent (h : CommandTaken arg s) (hnone : outletArg s arg = none) :
    exec (.lockOff arg) s = .next { s with link := answered s 0x03 .badArgument [] } := by
  rw [exec, execLockOff, h.receiveCommand, lockOffEffect, hnone, ← respond_answered _ _ _ h.slot]

theorem exec_unlock_absent (h : CommandTaken arg s) (hnone : outletArg s arg = none) :
    exec (.unlock arg) s = .next { s with link := answered s 0x04 .badArgument [] } := by
  rw [exec, execUnlock, h.receiveCommand, unlockEffect, hnone, ← respond_answered _ _ _ h.slot]

theorem exec_clearFault_absent (h : CommandTaken arg s) (hnone : outletArg s arg = none) :
    exec (.clearFault arg) s = .next { s with link := answered s 0x05 .badArgument [] } := by
  rw [exec, execClearFault, h.receiveCommand, clearFaultEffect, hnone, ← respond_answered _ _ _ h.slot]

/-- A class 0 outlet is protected: it is never locked (R165). -/
theorem exec_lockOff_protected (h : CommandTaken [x] s) (hpresent : present s x.toNat = true)
    (hcls : (relayOutlet s x.toNat).cls = 0) :
    exec (.lockOff [x]) s = .next { s with link := answered s 0x03 .protectedOutlet [] } := by
  rw [exec, execLockOff, h.receiveCommand, lockOffEffect, outletArg_present hpresent, ← respond_answered _ _ _ h.slot]
  exact congrArg _ (if_pos hcls)

/-- Only a STUCK outlet has a fault to clear (R141, R165). -/
theorem exec_clearFault_notStuck (h : CommandTaken [x] s) (hpresent : present s x.toNat = true)
    (hstuck : (relayOutlet s x.toNat).relay ≠ .stuck) :
    exec (.clearFault [x]) s = .next { s with link := answered s 0x05 .notStuck [] } := by
  rw [exec, execClearFault, h.receiveCommand, clearFaultEffect, outletArg_present hpresent,
    ← respond_answered _ _ _ h.slot]
  exact congrArg _ (if_neg hstuck)

end

/-- Settles O49: an ignored command leaves the state, a discarded one reaches the Alert Unit alone, and a refused one
the response slot alone. -/
theorem commandsThatDoNothing : Obligations.CommandsThatDoNothing := by
  refine ⟨fun code arg s => ⟨exec_gatewayRow_ignored code, fun hlength hoff hsearch hrestart hslot => ?_⟩,
    fun arg s htaken => ⟨fun habsent => ?_, ?_⟩⟩
  · exact ⟨raise .commandOverrun s, exec_gatewayRow_overrun code hlength hoff hsearch hrestart hslot, raise_latches ..,
      raise_mask .., raise_gap .., raise_eq ..⟩
  · have hnone := outletArg_eq_none habsent
    exact ⟨exec_lockOff_absent htaken hnone, exec_unlock_absent htaken hnone, exec_clearFault_absent htaken hnone⟩
  · rintro x rfl hpresent
    exact ⟨exec_lockOff_protected htaken hpresent, exec_clearFault_notStuck htaken hpresent⟩

end Sys2Proof.Machine
end

section
/-! PROOF. O20: the fields of an image as they are installed. -/

namespace Sys2Proof.Machine

/-! ## Clamping to a range (R173) -/

theorem clamped_clampTo {lo hi : Nat} (h : lo ≤ hi) (n : Nat) : Clamped lo hi n (clampTo lo hi n) := by
  unfold Clamped clampTo
  split_ifs <;> omega

/-- Nothing lies below a range that begins at 0. -/
theorem clamped_min (hi n : Nat) : Clamped 0 hi n (min hi n) := by
  simpa [clampTo] using clamped_clampTo (Nat.zero_le hi) n

/-- No two-byte field lies above the range of the units. -/
theorem clamped_max_imageWord (im : List Byte) (i : Nat) :
    Clamped 1 65535 (imageWord im i) (max 1 (imageWord im i)) := by
  have hclamp : clampTo 1 65535 (imageWord im i) = max 1 (imageWord im i) :=
    min_eq_right (max_le (by decide) (imageWord_le im i))
  exact hclamp ▸ clamped_clampTo (by decide) _

/-! ## The expire factor: clamped to its own range, then raised above the installed stale factor (R173) -/

theorem clampExpire_eq (stale n : Nat) :
    clampExpire stale n = if clampTo 3 15 n ≤ stale then stale + 1 else clampTo 3 15 n := by
  unfold clampExpire
  split_ifs <;> omega

theorem succ_le_clampExpire (stale n : Nat) : stale + 1 ≤ clampExpire stale n := Nat.le_max_right ..

theorem clampExpire_le {stale : Nat} (h : stale < 15) (n : Nat) : clampExpire stale n ≤ 15 :=
  max_le (Nat.min_le_left ..) h

/-! ## The gap select and the two-byte fields -/

/-- Gap select 0 stays 0, and any other value is installed as 1 (R173). -/
theorem gapSelect_imageParams (im : List Byte) :
    (imageParams im).gapSelect = if imageByte im 16 = 0 then 0 else 1 := by
  simp only [imageParams]
  split_ifs <;> omega

theorem gapLength_imageParams (im : List Byte) :
    gapLength (imageParams im) = if imageByte im 16 = 0 then 10 else 1000 := by
  have hselect : (imageParams im).gapSelect = 0 ↔ imageByte im 16 = 0 := by simp [gapSelect_imageParams]
  simp only [gapLength, hselect]

/-- Sixteen bits hold a two-byte field whole. -/
theorem toNat_ofNat_imageWord (im : List Byte) (i : Nat) : (BitVec.ofNat 16 (imageWord im i)).toNat = imageWord im i :=
  Nat.mod_eq_of_lt (Nat.lt_succ_of_le (imageWord_le im i))

/-- Settles O20: every field is clamped to its own range, but for the expire factor, which is raised above the stale
factor besides, and the gap select, which takes two values. -/
theorem installedFieldsAreClamped : Obligations.InstalledFieldsAreClamped := by
  intro im
  have clamped {lo hi : Nat} (i : Nat) (h : lo ≤ hi) :
      Clamped lo hi (imageByte im i) (clampTo lo hi (imageByte im i)) :=
    clamped_clampTo h _
  have hstale : (imageParams im).stale < 15 := lt_of_le_of_lt (Nat.min_le_left 4 _) (by decide)
  exact ⟨clamped 7 (by decide), clamped_min .., clamped 9 (by decide),
    ⟨_, clamped 10 (by decide), clampExpire_eq ..⟩, succ_le_clampExpire .., clampExpire_le hstale _,
    clamped 11 (by decide), clamped 12 (by decide), clamped_min .., clamped 17 (by decide), rfl,
    gapSelect_imageParams im, gapLength_imageParams im, rfl, toNat_ofNat_imageWord .., toNat_ofNat_imageWord .., rfl,
    fun i => ⟨clamped_max_imageWord .., clamped _ (by decide), clamped _ (by decide), clamped_min .., rfl, rfl,
      toNat_ofNat_imageWord ..⟩⟩

end Sys2Proof.Machine
end

section
/-! PROOF. O1 and O3: a step executes the command at the front of the queue, and every command answers a next state that
leaves the queue as it was. Each row is one operation taken where its event comes about, and no effect elsewhere (log
entry 10), so that the queue stays because each operation leaves it. -/

namespace Sys2Proof.Machine

/-- With a command waiting a step executes the command at the front of the queue (log entry 17). -/
theorem step_front {s : State} {c : Instr} {rest : List Instr} (h : s.pending = c :: rest) :
    step s = exec c (s.withPending rest) := by simp [step, h]

/-- Settles O1. -/
theorem stepRunsTheFrontCommand : Obligations.StepRunsTheFrontCommand := fun _ _ _ h => step_front h

/-! ## What resets, installations and the receipt of a command leave of the queue -/

@[simp] theorem endHold_pending (straps : BitVec 4) (s : State) : (endHold straps s).pending = s.pending := rfl

@[simp] theorem install_pending (im : List Byte) (s : State) : (install im s).pending = s.pending := by
  obtain ⟨_, _, h⟩ := install_eq im s
  simp [h]

@[simp] theorem reject_pending (s : State) : (reject s).pending = s.pending := by simp [reject]

@[simp] theorem restartStation_pending (straps : BitVec 4) (s : State) :
    (restartStation straps s).pending = s.pending := rfl

theorem receiveCommand_pending {f : State → State} {s : State} (arg : List Byte)
    (hf : (f s).pending = s.pending) : (receiveCommand arg f s).pending = s.pending :=
  receiveCommand_keeps State.pending arg (raise_pending s _) hf

/-! ## Every command -/

/-- Settles O3, by the kinds of rows: those that are one operation, the gateway's commands, those that take effect
under a condition alone, and those that depend on the converter being read, the frame assembler or the frame being
driven. -/
theorem everyCommandAnswersANextState : Obligations.EveryCommandAnswersANextState := by
  intro c s
  cases c
  case powerOnReset => exact ⟨_, rfl, rfl⟩
  case character | frameCompletion | pulseEnd => exact ⟨_, rfl, by simp⟩
  case queryStatus | queryOutlet | lockOff | unlock | clearFault | ackEvents | endAlert | fetchRecord | restart |
      invalidCommand =>
    exact ⟨_, rfl, receiveCommand_pending _ (by simp)⟩
  case holdEnd | imageReadComplete | restartReset | tick | stationLate | stationExpiry | periodClose |
      graceExpiry | settleExpiry | restoreCounterExpiry | checkCountdownExpiry | searchOnCharacterErrors |
      assemblerArmed | attemptStart | dwellExpiry | settleEnd | openVerify | gapExpiry =>
    exact ⟨_, rfl, by split_ifs <;> simp⟩
  case captureCompletion | outletUnmeasured =>
    refine ⟨_, rfl, ?_⟩
    cases s.meter.reading with
    | none => rfl
    | some c => dsimp only; split_ifs <;> simp
  case gapError =>
    refine ⟨_, rfl, ?_⟩
    cases s.link.assembler with
    | inFrame b => dsimp only; split_ifs <;> simp
    | _ => rfl
  case yieldLine | transmitFault | txFaultLimit =>
    refine ⟨_, rfl, ?_⟩
    cases s.link.sending with
    | none => rfl
    | some k => dsimp only; split_ifs <;> simp
  case transmitSuccess =>
    refine ⟨_, rfl, ?_⟩
    cases s.link.sending with
    | none => rfl
    | some k => exact sentFrame_pending ..

end Sys2Proof.Machine
end
